-- ==== Sys2Proof/Word.lean ====
section
/-! DEFINITION. Bytes, cycle numbers and the six-fold records of the TZ6 (six zones, six ring descriptors). -/

namespace Sys2Proof

/-- One byte of a payload or of the configuration image (R117). -/
abbrev Byte := BitVec 8

/-- A cycle number: 16 bits, wrapping from 65535 to 0 (R6). -/
abbrev Cycle := BitVec 16

/-- A zone, as an index: zone z of the manual is index z − 1. A ring descriptor is numbered the same way (R158). -/
abbrev Index := Fin 6

/-- Six like things: one per zone, or one per ring descriptor. -/
structure Six (α : Type) where
  a0 : α
  a1 : α
  a2 : α
  a3 : α
  a4 : α
  a5 : α
  deriving DecidableEq, Repr

/-- The entry at an index. -/
def Six.get {α : Type} (v : Six α) (i : Index) : α :=
  match i with
  | 0 => v.a0
  | 1 => v.a1
  | 2 => v.a2
  | 3 => v.a3
  | 4 => v.a4
  | 5 => v.a5

/-- The record whose entry at each index is given by a function. -/
def Six.ofFn {α : Type} (f : Index → α) : Six α :=
  ⟨f 0, f 1, f 2, f 3, f 4, f 5⟩

/-- The record with one entry replaced. -/
def Six.set {α : Type} (v : Six α) (i : Index) (x : α) : Six α :=
  Six.ofFn fun j => if j = i then x else v.get j

/-- The record with a function applied to every entry. -/
def Six.map {α β : Type} (f : α → β) (v : Six α) : Six β :=
  Six.ofFn fun i => f (v.get i)

/-- Six equal entries. -/
def Six.fill {α : Type} (x : α) : Six α := ⟨x, x, x, x, x, x⟩

/-- The six indexes in rising order. -/
def indexes : List Index := [0, 1, 2, 3, 4, 5]

/-- The zone number, 1 to 6, of an index. -/
def zoneNumber (z : Index) : Nat := z.val + 1

end Sys2Proof
end

