-- ==== Sys2Proof/Syntax.lean ====
section
/-! DEFINITION. The commands the TZ6 takes: one constructor of `Instr` for every row of spec/opcode_table.json, in its order.
The table gives no row an operand; an operand here is what the rule of the row takes from outside the part, or a fault of the link loop (INVENTORY, Instructions; assumption log 42). -/

namespace Sys2Proof

/-- What a command carries of the line. A sampled bit or a level is `true` when recessive and `false` when dominant (R118). -/
inductive Line where
  /-- The bits that the station has sampled (R134). -/
  | sampled (bits : List Bool)
  /-- The levels of LINK_RX themselves, one for every 1.25 µs, the quantum of the fastest bit rate, with the level at the end of the
  last quantum before them; the station's own bit timing samples them (R134; assumption log 27). -/
  | wave (before : Bool) (levels : List Bool)
  deriving DecidableEq, Repr

/-- A moment at which the Time Base may end a mains cycle or take a TIME correction: the steps within which the rows of the
table that are only a moment of another step come about (95_what_each_step_holds; assumption log 4). -/
inductive Occasion where
  /-- A rising edge on ZC, with the microseconds since the last accepted crossing and the level of FLOW (R1). -/
  | crossing (interval : Nat) (flow : Bool)
  /-- A loss of zero-cross (R2). -/
  | loss (flow : Bool)
  /-- The end of a mains cycle by the oscillator (R2). -/
  | oscillator (flow : Bool)
  /-- The end of a frame being received, with the bits of the line (R142). -/
  | frame (bits : Line) (flow : Bool)
  deriving DecidableEq, Repr

/-- The commands. -/
inductive Instr where
  /-- CROSSING (R1). -/
  | crossing (interval : Nat) (flow : Bool)
  /-- SOURCE_RETURN_TO_MAINS (R3). -/
  | sourceReturnToMains (interval : Nat) (flow : Bool)
  /-- LOSS_OF_ZERO_CROSS (R2). -/
  | lossOfZeroCross (flow : Bool)
  /-- OSCILLATOR_MAINS_CYCLE_END (R2). -/
  | oscillatorMainsCycleEnd (flow : Bool)
  /-- JOIN_END (R178). -/
  | joinEnd (o : Occasion)
  /-- SYNC_TIMEOUT (R17). -/
  | syncTimeout (o : Occasion)
  /-- ENTRY_REMOVAL (R106). -/
  | entryRemoval (o : Occasion)
  /-- BOUNDARY_RECORD_EXPIRY (R109). -/
  | boundaryRecordExpiry (o : Occasion)
  /-- LINE_STATE_TIMEOUT (R111). -/
  | lineStateTimeout (o : Occasion)
  /-- SAG_RESPONSE_END (R95). -/
  | sagResponseEnd (o : Occasion)
  /-- PERIODIC_LINE_REQUEST (R113). -/
  | periodicLineRequest (o : Occasion)
  /-- FALLBACK (R53). -/
  | fallback (o : Occasion)
  /-- COMPUTATION_COMPLETION (R81). -/
  | computationCompletion
  /-- TIME_MAILBOX_EXPIRY (R166). -/
  | timeMailboxExpiry (o : Occasion)
  /-- SCAN_COMPLETION (R27): the twelve ratiometric counts of the scan (R21). -/
  | scanCompletion (control limiter : Six (BitVec 16))
  /-- WINDOW_COMPLETION (R20): the RMS currents in 10 mA and the feeder voltage in 0.1 V (R28, R29). -/
  | windowCompletion (currents : Six Nat) (voltage : Nat)
  /-- MAINS_RECOVERY (R182). -/
  | mainsRecovery (interval : Nat) (flow : Bool)
  /-- TRIP_CLEAR_EDGE (R46). -/
  | tripClearEdge
  /-- HOLD (R180): the level the line takes, `true` for asserted. -/
  | hold (asserted : Bool)
  /-- FRAME_RECEIVED (R142): the bits since the Start bit, or since the last command that carried bits of the frame. -/
  | frameReceived (bits : Line) (flow : Bool)
  /-- DISPATCH (R171). -/
  | dispatch
  /-- LINE_IDLE (R135): bits while line tracking is WAITING_IDLE or IDLE. -/
  | lineIdle (bits : Line)
  /-- CHANCE_TO_SEND (R136): recessive bits since the last command, then the bits after the own Start bit. -/
  | chanceToSend (recessive : Nat) (bits : Line)
  /-- ATTEMPT_END (R145): the further bits while the own frame is on the line. -/
  | attemptEnd (bits : Line)
  /-- QUIET_INTERVAL (R152): bits while DETACHED. -/
  | quietInterval (bits : Line)
  /-- POWER_ON_RESET (R195). -/
  | powerOnReset
  /-- SUPPLY_DIP_RESET (R195), with the places and new values of retained bytes that the dip disturbs (R200). -/
  | supplyDipReset (disturbed : List (Nat × Byte))
  /-- CLOCK_STOP_RESET (R195), with the retained bytes it disturbs (R200). -/
  | clockStopReset (disturbed : List (Nat × Byte))
  /-- EXTERNAL_RESET (R195). -/
  | externalReset
  /-- RESET_END (R197). -/
  | resetEnd
  /-- READ_COMPLETE (R198): the levels of CFG_MISO at the rising edges of CFG_SCK since the read began, or since the last command that
  carried some. -/
  | readComplete (miso : List Bool)
  /-- LOOPBACK_IDLE_WAIT_PASSED (R205): bits of LINK_RX in the idle wait. -/
  | loopbackIdleWaitPassed (bits : Line)
  /-- LOOPBACK_TIMEOUT (R205). -/
  | loopbackTimeout
  /-- LOOPBACK_CHECK_END (R206): the places of the test frame at which a faulty link loop hands on the other level, counted from 0 after
  the Start bit; a working loop has none (assumption log 42). -/
  | loopbackCheckEnd (disturbed : List Nat)
  /-- START_BIT (R135). -/
  | startBit
  deriving DecidableEq, Repr

end Sys2Proof
end

