-- ==== Sys2Proof/Decode.lean ====
section
/-! DEFINITION. Reading a command from bits. No row of spec/opcode_table.json has bits (every row's "fields" is empty and none has
"fixed"), so no word spells a command (assumption log 5). -/

namespace Sys2Proof

/-- The command that a word spells by the table's bits: none, since the table gives no row any. -/
def decodeTableWord (_nbits _w : Nat) : Option Instr := none

end Sys2Proof
end

