-- ==== Sys2Proof/Config.lean ====
section
/-! DEFINITION. What is fixed for a machine: the settled configuration fields (R131, R132, R202, R203) and the constants of the part.
No field here is a free value: the specification leaves no result of a step undefined (assumption log 30). -/

namespace Sys2Proof

/-- One bank of control parameters of a zone: target and gains (R60). -/
structure Bank where
  target : Int
  kp : Nat
  ki : Nat
  deriving DecidableEq, Repr

/-- The fields of one zone block of the image (R132, R203). -/
structure ZoneSettings where
  enabled : Bool
  ratedLu : Nat
  tripLimit : Int
  flowing : Bank
  standing : Bank
  deriving DecidableEq, Repr

/-- The settled fields of the configuration image (R131, R202, R204). -/
structure Settings where
  address : Nat
  group : Nat
  upstreamAddr : Nat
  downstreamAddr : Nat
  bitRate : Nat
  flowSensing : Bool
  slotLen : Nat
  budget : Nat
  luWatts : Nat
  inrushCold : Nat
  minRun : Nat
  tCold : Int
  tWarm : Int
  blindMargin : Nat
  ration : Nat
  sagDerate : Nat
  sagHold : Nat
  vNom : Nat
  sagPct : Nat
  silentLimit : Nat
  joinCycles : Nat
  jumpLimit : Nat
  syncTimeout : Nat
  lineTimeout : Nat
  statusPeriod : Nat
  filterShift : Nat
  rateLimit : Nat
  holdCycles : Nat
  fallbackDemand : Nat
  substPenalty : Nat
  coldFloor : Int
  warmPreset : Nat
  zones : Six ZoneSettings
  deriving DecidableEq, Repr

/-- The settings of one zone. -/
def Settings.zone (cfg : Settings) (z : Index) : ZoneSettings := cfg.zones.get z

/-- A peer entry table of 20 entries (R101). -/
def Config.maxEntries : Nat := 20

/-- The receive queue holds at most 4 frames (R169). -/
def Config.queueSize : Nat := 4

/-- The transmit ring has six descriptors (R158). -/
def Config.ringSize : Nat := 6

/-- The own contribution's order while it is not the announced placement (R72). -/
def Config.ownOrder : Nat := 256

/-- The image is 128 bytes (R131). -/
def Config.imageSize : Nat := 128

/-- The loopback check's idle wait ends after this many bit times (R205). -/
def Config.loopbackLimit : Nat := 2048

end Sys2Proof
end

