-- ==== Sys2Proof/Machine/State.lean ====
section
/-! DEFINITION. The state of the TZ6 as plain data, block by block as the chapters give it, and the state after a power-on reset. -/

namespace Sys2Proof.Machine

/-! ### Time Base (R1 to R18) -/

/-- What ends mains cycles (R1 to R3). -/
inductive TimingSource where
  | mains
  | oscillator
  deriving DecidableEq, Repr

/-- The nominal class of the mains (R1). -/
inductive MainsClass where
  | hz50
  | hz60
  deriving DecidableEq, Repr

/-- The sync state (R17). -/
inductive SyncState where
  | synced
  | drifting
  | freeRunning
  deriving DecidableEq, Repr

/-- The cycle number and position recorded at a Start bit (R8). -/
structure Timestamp where
  cycle : Cycle
  position : Nat
  deriving DecidableEq, Repr

/-- The Time Base. Intervals are in microseconds. -/
structure TimeBase where
  position : Nat
  takenSlot : Nat
  cycle : Cycle
  pendingOffset : Cycle
  source : TimingSource
  measuredPeriod : Option Nat
  mainsClass : MainsClass
  run : Nat
  /-- An accepted crossing has been taken since the reset (R1, R2). -/
  crossingSeen : Bool
  /-- The last accepted crossing was accepted on MAINS, with no loss since (R1). -/
  periodBase : Bool
  sync : SyncState
  timeAge : Nat
  goodAge : Option Nat
  joinFlag : Bool
  heardNow : Option Nat
  heardBefore : Option Nat
  reference : Option Nat
  timestamp : Option Timestamp
  deriving DecidableEq, Repr

/-! ### Measurement Scanner (R19 to R36) -/

/-- The state of an RTD channel (R23 to R26). -/
inductive ChannelState where
  | unseeded
  | tracking
  | faulted
  deriving DecidableEq, Repr

/-- The fault class of an RTD channel (R24, R25). -/
inductive FaultClass where
  | none
  | opened
  | short
  | rate
  deriving DecidableEq, Repr

/-- The record of one RTD channel. -/
structure Channel where
  state : ChannelState
  fault : FaultClass
  filtered : Option Int
  seed : Option Int
  rejections : Nat
  good : Nat
  /-- Whether the fault class changed at the sample last reported (R27). -/
  changed : Bool
  deriving DecidableEq, Repr

/-- The window gate state (R28). -/
inductive GateReading where
  | on
  | off
  | mixed
  deriving DecidableEq, Repr

/-- A last on-load with the slot and cycle number of its window (R31). -/
structure OnLoad where
  load : Nat
  slot : Nat
  cycle : Cycle
  deriving DecidableEq, Repr

/-- The measurement record of one zone. -/
structure Measurement where
  current : Option Nat
  gate : Option GateReading
  load : Option Nat
  lastOn : Option OnLoad
  deriving DecidableEq, Repr

/-- The feeder voltage class (R32). -/
inductive VoltageClass where
  | normal
  | sag
  | collapse
  deriving DecidableEq, Repr

/-- A current and voltage window (R20, R28). -/
structure Window where
  /-- Mains-cycle ends since its slot-boundary event: 0 and 1 while it is armed, 2 while it is open; the third end closes it. -/
  ends : Nat
  slot : Nat
  cycle : Cycle
  /-- The gate levels when the window opened. -/
  level : Six Bool
  /-- The zones whose gate changed while it was open. -/
  changed : Six Bool
  deriving DecidableEq, Repr

/-- The Measurement Scanner. -/
structure Scanner where
  control : Six Channel
  limiter : Six Channel
  zones : Six Measurement
  voltage : Option Nat
  voltageClass : Option VoltageClass
  /-- A scan is in progress: no mains-cycle end has come since its event (R19). -/
  scan : Bool
  /-- The last mains-cycle end was the first one after the event of a scan: the scan completes at it (R19; assumption log 10). -/
  scanDue : Bool
  /-- The window armed or open. -/
  window : Option Window
  /-- The window that the last mains-cycle end has closed, as the third after its event: it completes at that end (R20; assumption
  log 10). -/
  windowDue : Option Window
  deriving DecidableEq, Repr

/-! ### Zone Controller (R37 to R67) -/

/-- The condition of a zone. -/
inductive Condition where
  | disabled
  | normal
  | tripped
  | openFault
  | stuckOn
  deriving DecidableEq, Repr

/-- The mode of a zone (R56, R57). -/
inductive Mode where
  | coldStart
  | regulating
  deriving DecidableEq, Repr

/-- The source of a zone's temperature (R50 to R53). -/
inductive Source where
  | own
  | substitute
  | holding
  | fallback
  deriving DecidableEq, Repr

/-- A zone record. -/
structure Zone where
  condition : Condition
  mode : Option Mode
  source : Option Source
  tc : Option Int
  deficit : Int
  acc : Nat
  demand : Nat
  lastDemand : Nat
  curtailed : Bool
  holdCount : Nat
  openCount : Nat
  stuckCount : Nat
  followsRun : Bool
  permit : Bool
  deriving DecidableEq, Repr

/-! ### Load Placement Unit (R68 to R98) -/

/-- A run record (R68). The zone is its number, 1 to 6. -/
structure Run where
  zone : Nat
  start : Nat
  length : Nat
  load : Nat
  surcharge : Nat
  stuck : Bool
  deriving DecidableEq, Repr

/-- Whose load a contribution is (R71). An entry, a row set and a silent peer are all known by their address. -/
inductive Contributor where
  | own
  | peer (address : Nat)
  deriving DecidableEq, Repr

/-- What one contributor puts into the slot load map: its runs, or a ration in every slot (R71, R90). -/
structure Contribution where
  source : Contributor
  order : Nat
  runs : List Run
  ration : Option Nat
  deriving DecidableEq, Repr

/-- The reason of a failed frame (R86, R145). -/
inductive FailReason where
  | noAck
  | errors
  | detached
  | cancelled
  deriving DecidableEq, Repr

/-- The unit's request (R81 to R83), with the descriptor that holds it. -/
inductive Request where
  | none
  | waiting
  | queued (descriptor : Index)
  | cancelRecorded (descriptor : Index)
  deriving DecidableEq, Repr

/-- A computed placement with the zones curtailed in it (R79). -/
structure Working where
  runs : List Run
  curtailed : List Nat
  deriving DecidableEq, Repr

/-- The announced placement (R84). -/
structure Announced where
  runs : List Run
  order : Nat
  revision : Nat
  deriving DecidableEq, Repr

/-- What "demands ready" hands over for one zone (R59). -/
structure Handed where
  demand : Nat
  deficit : Int
  tc : Option Int
  deriving DecidableEq, Repr

/-- The inputs of a computation for one zone, as they stand at its start (R69, R70, R76, R77). -/
structure ZoneInput where
  stuck : Bool
  placed : Bool
  demand : Nat
  deficit : Int
  load : Nat
  stuckLoad : Nat
  surcharge : Nat
  continues : Bool
  deriving DecidableEq, Repr

/-- The inputs of a computation (R76). -/
structure Computation where
  budget : Nat
  others : List Contribution
  zones : Six ZoneInput
  deriving DecidableEq, Repr

/-- The Load Placement Unit. -/
structure PlacementUnit where
  current : List Run
  working : Option Working
  request : Request
  requestRuns : List Run
  requestRevision : Nat
  announced : Option Announced
  lastFailure : Option FailReason
  frozen : Option (List Run)
  map : List Contribution
  orderCounter : Nat
  revisionsSent : Nat
  revisionsBefore : Nat
  viewFlag : Bool
  unannounced : Nat
  sagCount : Nat
  computation : Option Computation
  handed : Option (Six Handed)
  deriving DecidableEq, Repr

/-! ### Peer Table (R99 to R116) -/

/-- The state of a peer entry. -/
inductive EntryState where
  | fresh
  | silent
  deriving DecidableEq, Repr

/-- A peer entry. -/
structure Entry where
  address : Nat
  state : EntryState
  silentCount : Nat
  next : Option (List Run)
  order : Option Nat
  lastHeard : Byte
  deriving DecidableEq, Repr

/-- A set of the unlisted-load row (R102). -/
structure RowSet where
  address : Nat
  runs : List Run
  order : Nat
  deriving DecidableEq, Repr

/-- A boundary record (R108, R109). -/
structure BoundaryRecord where
  temperature : Option Int
  age : Nat
  deriving DecidableEq, Repr

/-- The line state (R110, R111). -/
inductive LineState where
  | flowing
  | standing
  | unknown
  deriving DecidableEq, Repr

/-- The line state record. -/
structure LineRecord where
  state : LineState
  source : Option Nat
  age : Nat
  deriving DecidableEq, Repr

/-- A level of the FLOW input (R112). -/
inductive FlowLevel where
  | flowing
  | standing
  deriving DecidableEq, Repr

/-- The flow sender's request (R113). -/
inductive LineRequest where
  | none
  | waiting
  | queued
  deriving DecidableEq, Repr

/-- The flow sender record. -/
structure FlowSender where
  confirmed : Option FlowLevel
  changeCycle : Byte
  candidate : Option FlowLevel
  candidateCount : Nat
  request : LineRequest
  /-- The line state that the standing frame carries. -/
  carried : Option FlowLevel
  periodCount : Nat
  deriving DecidableEq, Repr

/-- The Peer Table. -/
structure PeerTable where
  entries : List Entry
  row : List RowSet
  upstream : BoundaryRecord
  downstream : BoundaryRecord
  line : LineRecord
  flow : FlowSender
  deriving DecidableEq, Repr

/-! ### Link Controller (R134 to R157) -/

/-- The link state (R148). -/
inductive LinkState where
  | listenOnly
  | active
  | passive
  | detached
  deriving DecidableEq, Repr

/-- The result of the loopback check (R206). -/
inductive LoopbackResult where
  | passed
  | failed
  deriving DecidableEq, Repr

/-- Line tracking (R135). -/
inductive Tracking where
  | waitingIdle (run : Nat)
  | idle (count : Nat)
  | inFrame (position : Nat)
  /-- IN_FRAME still, with the own reject burst on the line and a number of its bits to come (R141). -/
  | rejecting (left : Nat)
  deriving DecidableEq, Repr

/-- One bit of a frame being sent, after the Start bit: its level, and whether it is an arbitration bit or a stuff bit (R119, R137). -/
structure SentBit where
  level : Bool
  arbitration : Bool
  stuff : Bool
  deriving DecidableEq, Repr

/-- The loopback check in progress (R205, R206). -/
inductive Loopback where
  | notRunning
  | waiting (run bitTimes : Nat)
  /-- The transmit engine sends the bits of the test frame, after its Start bit, into the link loop. -/
  | sending (sent : List SentBit)
  deriving DecidableEq, Repr

/-- The bit timing: where in a bit the station stands (R134). -/
structure BitClock where
  /-- Steps of 1.25 µs of the quantum in progress that have passed. -/
  unit : Nat
  /-- The quantum in progress, 0 to 19 from the bit's leading edge. -/
  quantum : Nat
  /-- An edge of this bit has been taken already. -/
  resynced : Bool
  /-- The station drives the line dominant in this bit. -/
  driving : Bool
  deriving DecidableEq, Repr

/-- Where the frame in hand comes from (R136). -/
inductive InHand where
  | mailbox
  | ring
  deriving DecidableEq, Repr

/-- An own attempt on the line: the bits to send up to the end of the Check, and the bits sampled so far. -/
structure Attempt where
  sent : List SentBit
  samples : List Bool
  deriving DecidableEq, Repr

/-- The attempt count and no-acknowledge mark of a frame (R145). -/
structure Tries where
  count : Nat
  noAck : Bool
  deriving DecidableEq, Repr

/-- A frame being received. -/
structure Reception where
  /-- The bits sampled since its Start bit. -/
  bits : List Bool
  /-- This station stays off its Acknowledge bit, as a PASSIVE sender that stopped at a bit error does (R138). -/
  mute : Bool
  /-- Whether this station drove the Acknowledge bit dominant; none before that bit (R140). -/
  ack : Option Bool
  deriving DecidableEq, Repr

/-- The Link Controller. -/
structure Link where
  state : LinkState
  tec : Nat
  recv : Nat
  clash : Bool
  loopResult : Option LoopbackResult
  quietRun : Nat
  quietCount : Nat
  tracking : Tracking
  inHand : Option InHand
  ringTries : Tries
  timeTries : Tries
  attempt : Option Attempt
  reception : Option Reception
  loopback : Loopback
  clock : BitClock
  /-- Whether the station drove the Acknowledge bit of the frame that ended last. -/
  ackDriven : Bool
  /-- Whether the station sent a reject burst for the frame that ended last. -/
  rejectDriven : Bool
  deriving DecidableEq, Repr

/-! ### Transmit ring, TIME mailbox and receive queue (R158 to R175) -/

/-- The state of a descriptor. -/
inductive DescriptorState where
  | free
  | ready
  | sending
  | void
  | doneOk
  | doneFail
  deriving DecidableEq, Repr

/-- The producer of a descriptor's frame, and so its kind. -/
inductive Producer where
  | place
  | line
  | status
  deriving DecidableEq, Repr

/-- A ring descriptor. -/
structure Descriptor where
  state : DescriptorState
  reason : Option FailReason
  producer : Option Producer
  payload : List Byte
  cancel : Bool
  deriving DecidableEq, Repr

/-- A request on the waiting list (R159). -/
structure WaitingRequest where
  producer : Producer
  payload : List Byte
  deriving DecidableEq, Repr

/-- The TIME mailbox (R165). -/
inductive Mailbox where
  | empty
  | offered
  | started
  deriving DecidableEq, Repr

/-- The transmit ring and the TIME mailbox. -/
structure Ring where
  descriptors : Six Descriptor
  head : Index
  fill : Index
  occupancy : Nat
  waiting : List WaitingRequest
  mailbox : Mailbox
  deriving DecidableEq, Repr

/-- The routes of an admitted frame (R167). -/
structure Routes where
  placement : Bool
  upstream : Bool
  downstream : Bool
  line : Bool
  deriving DecidableEq, Repr

/-- An entry of the receive queue (R169). The kind follows from the line route. -/
structure QueueEntry where
  source : Nat
  group : Nat
  payload : List Byte
  routes : Routes
  /-- The order number of a PLACE; none for a LINE. -/
  order : Option Nat
  /-- The target cycle of a PLACE; none for a LINE. -/
  target : Option Byte
  deriving DecidableEq, Repr

/-- The receive queue. -/
structure ReceiveQueue where
  entries : List QueueEntry
  overflow : Nat
  refusalMark : Bool
  deriving DecidableEq, Repr

/-! ### Station Supervisor and Configuration Loader (R176 to R208) -/

/-- The station state (R176 to R184). -/
inductive StationState where
  | starting
  | configFault
  | listening
  | running
  | held
  | mainsLost
  deriving DecidableEq, Repr

/-- The kind of a reset (R195). -/
inductive ResetKind where
  | powerOn
  | supplyDip
  | clockStop
  | external
  deriving DecidableEq, Repr

/-- The Station Supervisor. -/
structure Supervisor where
  station : StationState
  joinCount : Nat
  mainsLost : Bool
  recovery : Nat
  holdRequest : Bool
  stepRecord : Bool
  contactorLatch : Bool
  cause : ResetKind
  periodCount : Nat
  changeMark : Bool
  gates : Six Bool
  deriving DecidableEq, Repr

/-- The Loader state. -/
inductive LoaderState where
  | reading
  | validating
  | settled
  | bad
  deriving DecidableEq, Repr

/-- The Configuration Loader, with the levels it drives on CFG_SCK and CFG_MOSI. `retained` holds the meaningful bytes of the
retained image from byte 0: none after a power-on, 128 once an image has been read (assumption log 8). -/
structure Loader where
  state : LoaderState
  retained : List Byte
  complete : Bool
  runningCheck : BitVec 16
  /-- Rising edges of CFG_SCK in the read in progress: 24 for the command and its address, then 8 for each byte (R198). -/
  clocks : Nat
  /-- The bits of the byte that is arriving on CFG_MISO, bit 7 first (R198). -/
  shift : List Bool
  /-- The level of CFG_SCK (R198). -/
  sck : Bool
  /-- The level of CFG_MOSI (R198). -/
  mosi : Bool
  settled : Option Settings
  deriving DecidableEq, Repr

/-- The kinds of the reset in progress (R196); no reset is in progress when all are clear. -/
structure ResetKinds where
  powerOn : Bool
  supplyDip : Bool
  clockStop : Bool
  external : Bool
  deriving DecidableEq, Repr

/-- The whole machine. -/
structure State where
  timeBase : TimeBase
  scanner : Scanner
  zones : Six Zone
  placement : PlacementUnit
  peers : PeerTable
  link : Link
  ring : Ring
  queue : ReceiveQueue
  supervisor : Supervisor
  loader : Loader
  resets : ResetKinds
  /-- The level of HOLD at the pin. -/
  holdPin : Bool
  /-- The level of FLOW as last given. -/
  flowPin : Bool
  /-- The commands waiting, first in first out. -/
  pending : List Instr
  deriving DecidableEq, Repr

/-- The reasons a step could stop with a fault: there is none. The spec gives every command an effect in every state, so no
command of this model faults (safe: nothing is cut short). -/
inductive Fault where
  deriving DecidableEq, Repr

/-- The reasons a step could refuse a command. -/
inductive Refusal where
  /-- Raised by an arm of `exec` whose command has no meaning yet: no arm raises it now. Safe: the run stops. -/
  | notModelled (mnemonic : String)
  deriving DecidableEq, Repr

/-! ### Reset values -/

/-- The Time Base after every reset (R18). -/
def TimeBase.reset : TimeBase where
  position := 0
  takenSlot := 0
  cycle := 0
  pendingOffset := 0
  source := .mains
  measuredPeriod := none
  mainsClass := .hz50
  run := 0
  crossingSeen := false
  periodBase := false
  sync := .drifting
  timeAge := 0
  goodAge := none
  joinFlag := false
  heardNow := none
  heardBefore := none
  reference := none
  timestamp := none

/-- An RTD channel after every reset (R35). The table of R35 names no fault-change flag: clear, DESIGN CHOICE (assumption log 7). -/
def Channel.reset : Channel where
  state := .unseeded
  fault := .none
  filtered := none
  seed := none
  rejections := 0
  good := 0
  changed := false

/-- A measurement record after every reset (R35). -/
def Measurement.reset : Measurement where
  current := none
  gate := none
  load := none
  lastOn := none

/-- The Measurement Scanner after every reset (R35). -/
def Scanner.reset : Scanner where
  control := Six.fill Channel.reset
  limiter := Six.fill Channel.reset
  zones := Six.fill Measurement.reset
  voltage := none
  voltageClass := none
  scan := false
  scanDue := false
  window := none
  windowDue := none

/-- A zone record after a reset that leaves it in a condition (R66). -/
def Zone.resetIn (c : Condition) : Zone where
  condition := c
  mode := none
  source := none
  tc := none
  deficit := 0
  acc := 0
  demand := 0
  lastDemand := 0
  curtailed := false
  holdCount := 0
  openCount := 0
  stuckCount := 0
  followsRun := false
  permit := decide (c = .normal)

/-- The Load Placement Unit after every reset (R98). -/
def PlacementUnit.reset : PlacementUnit where
  current := []
  working := none
  request := .none
  requestRuns := []
  requestRevision := 0
  announced := none
  lastFailure := none
  frozen := none
  map := []
  orderCounter := 0
  revisionsSent := 0
  revisionsBefore := 0
  viewFlag := false
  unannounced := 0
  sagCount := 0
  computation := none
  handed := none

/-- A boundary record after every reset (R115). -/
def BoundaryRecord.reset : BoundaryRecord where
  temperature := none
  age := 255

/-- The flow sender record after every reset (R115). -/
def FlowSender.reset : FlowSender where
  confirmed := none
  changeCycle := 0
  candidate := none
  candidateCount := 0
  request := .none
  carried := none
  periodCount := 0

/-- The Peer Table after every reset (R115). -/
def PeerTable.reset : PeerTable where
  entries := []
  row := []
  upstream := BoundaryRecord.reset
  downstream := BoundaryRecord.reset
  line := { state := .unknown, source := none, age := 0 }
  flow := FlowSender.reset

/-- The attempt record of a frame when it is first taken (R145). -/
def Tries.fresh : Tries where
  count := 0
  noAck := true

/-- The bit timing after every reset, at the leading edge of a bit; DESIGN CHOICE: the spec gives no value (assumption log 27). -/
def BitClock.reset : BitClock where
  unit := 0
  quantum := 0
  resynced := false
  driving := false

/-- The Link Controller after every reset (R157). -/
def Link.reset : Link where
  state := .listenOnly
  tec := 0
  recv := 0
  clash := false
  loopResult := none
  quietRun := 0
  quietCount := 0
  tracking := .waitingIdle 0
  inHand := none
  ringTries := Tries.fresh
  timeTries := Tries.fresh
  attempt := none
  reception := none
  loopback := .notRunning
  clock := BitClock.reset
  ackDriven := false
  rejectDriven := false

/-- A FREE descriptor (R161, R174). -/
def Descriptor.freed : Descriptor where
  state := .free
  reason := none
  producer := none
  payload := []
  cancel := false

/-- The transmit ring and TIME mailbox after every reset (R174). -/
def Ring.reset : Ring where
  descriptors := Six.fill Descriptor.freed
  head := 0
  fill := 0
  occupancy := 0
  waiting := []
  mailbox := .empty

/-- The receive queue after every reset (R128, R175). -/
def ReceiveQueue.reset : ReceiveQueue where
  entries := []
  overflow := 0
  refusalMark := false

/-- The Station Supervisor after a reset with a recorded cause and a state of the contactor latch (R193). -/
def Supervisor.resetWith (cause : ResetKind) (latch : Bool) : Supervisor where
  station := .starting
  joinCount := 0
  mainsLost := false
  recovery := 0
  holdRequest := false
  stepRecord := false
  contactorLatch := latch
  cause := cause
  periodCount := 0
  changeMark := false
  gates := Six.fill false

/-- No reset in progress. -/
def ResetKinds.clear : ResetKinds where
  powerOn := false
  supplyDip := false
  clockStop := false
  external := false

/-- The Loader at the end of a power-on reset: a read begins, with CFG_SCK low and the first bit of the read command on CFG_MOSI (R197,
R198, R208). -/
def Loader.reset : Loader where
  state := .reading
  retained := []
  complete := false
  runningCheck := 0xFFFF#16
  clocks := 0
  shift := []
  sck := false
  mosi := false
  settled := none

/-- The machine at the end of a power-on reset (R18, R35, R66, R98, R115, R157, R174, R175, R193, R208), with no command waiting.
The levels of HOLD and FLOW are inputs: released, DESIGN CHOICE (assumption log 7). -/
def State.reset : State where
  timeBase := TimeBase.reset
  scanner := Scanner.reset
  zones := Six.fill (Zone.resetIn .normal)
  placement := PlacementUnit.reset
  peers := PeerTable.reset
  link := Link.reset
  ring := Ring.reset
  queue := ReceiveQueue.reset
  supervisor := Supervisor.resetWith .powerOn false
  loader := Loader.reset
  resets := ResetKinds.clear
  holdPin := false
  flowPin := false
  pending := []

end Sys2Proof.Machine
end

