-- ==== Sys2Proof/Machine/Ops.lean ====
section
/-! DEFINITION. The shared operations over State: replacing a block, the tests every command makes first, the gates, and the
arithmetic the chapters share. -/

namespace Sys2Proof.Machine

/-! ### Replacing a block -/

/-- The state with the Time Base replaced. -/
def State.setTimeBase (s : State) (x : TimeBase) : State := { s with timeBase := x }

/-- The state with the Measurement Scanner replaced. -/
def State.setScanner (s : State) (x : Scanner) : State := { s with scanner := x }

/-- The state with the zone records replaced. -/
def State.setZones (s : State) (x : Six Zone) : State := { s with zones := x }

/-- The state with the Load Placement Unit replaced. -/
def State.setPlacement (s : State) (x : PlacementUnit) : State := { s with placement := x }

/-- The state with the Peer Table replaced. -/
def State.setPeers (s : State) (x : PeerTable) : State := { s with peers := x }

/-- The state with the Link Controller replaced. -/
def State.setLink (s : State) (x : Link) : State := { s with link := x }

/-- The state with the transmit ring and mailbox replaced. -/
def State.setRing (s : State) (x : Ring) : State := { s with ring := x }

/-- The state with the receive queue replaced. -/
def State.setQueue (s : State) (x : ReceiveQueue) : State := { s with queue := x }

/-- The state with the Station Supervisor replaced. -/
def State.setSupervisor (s : State) (x : Supervisor) : State := { s with supervisor := x }

/-- The state with the Configuration Loader replaced. -/
def State.setLoader (s : State) (x : Loader) : State := { s with loader := x }

/-- The state with the kinds of the reset in progress replaced. -/
def State.setResets (s : State) (x : ResetKinds) : State := { s with resets := x }

/-- The state with the level of HOLD replaced. -/
def State.setHoldPin (s : State) (x : Bool) : State := { s with holdPin := x }

/-- The state with the level of FLOW replaced. -/
def State.setFlowPin (s : State) (x : Bool) : State := { s with flowPin := x }

/-- The state with the waiting commands replaced. -/
def State.setPending (s : State) (x : List Instr) : State := { s with pending := x }

/-! ### Arithmetic of the chapters ("Conventions" of the manual) -/

/-- A count that saturates at `top`. -/
def saturate (top n : Nat) : Nat := min top n

/-- A result clamped to a range. -/
def clampInt (lo hi x : Int) : Int := max lo (min hi x)

/-- The smallest whole number not below `a / b`. -/
def ceilDiv (a b : Nat) : Nat := (a + b - 1) / b

/-- A temperature clamped to −500 to 2000 (R22, R54). -/
def clampTemperature (t : Int) : Int := clampInt (-500) 2000 t

/-! ### Where the station is -/

/-- A reset of some kind is in progress (R195, R196). -/
def resetInProgress (s : State) : Bool :=
  s.resets.powerOn || s.resets.supplyDip || s.resets.clockStop || s.resets.external

/-- The station states in which the blocks take their events (R7, R99, R122). -/
def joinedState : StationState → Bool
  | .starting => false
  | .configFault => false
  | .listening => true
  | .running => true
  | .held => true
  | .mainsLost => true

/-- RUNNING, HELD and MAINS_LOST (R12, R88, R113, R190). -/
def settledState : StationState → Bool
  | .starting => false
  | .configFault => false
  | .listening => false
  | .running => true
  | .held => true
  | .mainsLost => true

/-- The settled fields while the blocks act: no reset is in progress, and the station state is LISTENING, RUNNING, HELD or
MAINS_LOST. While there are no settled fields no block acts on a field (R208). -/
def activeSettings (s : State) : Option Settings :=
  if !resetInProgress s && joinedState s.supervisor.station then s.loader.settled else none

/-- Zero-cross monitoring runs from the end of every reset, in every station state but CONFIG_FAULT (R1). -/
def monitoring (s : State) : Bool :=
  !resetInProgress s && decide (s.supervisor.station ≠ .configFault)

/-- The part is STARTING with no reset in progress (R176). -/
def startingUp (s : State) : Bool :=
  !resetInProgress s && decide (s.supervisor.station = .starting)

/-- Run `f` with the settled fields while the blocks act; change nothing otherwise (assumption log 2). -/
def whenActive (s : State) (f : Settings → State) : State :=
  match activeSettings s with
  | none => s
  | some cfg => f cfg

/-! ### Zones, gates and the change mark -/

/-- One zone record replaced. -/
def State.setZone (s : State) (z : Index) (x : Zone) : State := s.setZones (s.zones.set z x)

/-- The gates set to new levels. A gate that changes while a window is open marks its zone MIXED in that window (R28); the window
is open between the second and the third mains-cycle end after its event (R20). -/
def setGates (s : State) (g : Six Bool) : State :=
  let sc := s.scanner
  let window := sc.window.map fun w =>
    if w.ends = 2 then
      { w with changed := Six.ofFn fun z => w.changed.get z || (s.supervisor.gates.get z != g.get z) }
    else w
  (s.setScanner { sc with window := window }).setSupervisor { s.supervisor with gates := g }

/-- One gate turned off between slot-boundary events (R186). -/
def gateOff (s : State) (z : Index) : State := setGates s (s.supervisor.gates.set z false)

/-- Every gate turned off (R183, R186). -/
def allGatesOff (s : State) : State := setGates s (Six.fill false)

/-- The change mark of the status schedule set (R190). -/
def markChange (s : State) : State := s.setSupervisor { s.supervisor with changeMark := true }

/-- The station state set, with the change mark when it differs from the state before (R179, R190). -/
def setStation (s : State) (x : StationState) : State :=
  if s.supervisor.station = x then s
  else s.setSupervisor { s.supervisor with station := x, changeMark := true }

/-- A zone leaves for a condition other than NORMAL: its permit is withdrawn, its gate goes off at once, and the change of condition
is reported (R38, R186, R190). The new record gives the rest. -/
def leaveNormal (s : State) (z : Index) (x : Zone) : State :=
  markChange (gateOff (s.setZone z { x with permit := false }) z)

/-! ### Runs (R68) -/

/-- Whether a run covers a slot, counted modulo 32 (R68). -/
def Run.covers (r : Run) (k : Nat) : Bool := decide ((k + 32 - r.start) % 32 < r.length)

/-- The load a run draws in a slot: its load, with the surcharge in its first slot (R68). -/
def Run.loadIn (r : Run) (k : Nat) : Nat :=
  if r.covers k then r.load + (if k = r.start then r.surcharge else 0) else 0

/-- The run of a zone in a placement (R68). -/
def runOf (runs : List Run) (z : Index) : Option Run := runs.find? fun r => decide (r.zone = zoneNumber z)

/-- The slots of a cycle in rising order. -/
def slots : List Nat := List.range 32

end Sys2Proof.Machine
end

