-- ==== Sys2Proof/Machine/Flags.lean ====
section
/-! DEFINITION. The flags and outputs computed from the state: CONTACTOR, ALARM, HELD, CFG_CS, the view, the sag response, the
reference, validity of a boundary record, and the stalls and locks of the queue. -/

namespace Sys2Proof.Machine

/-- CONTACTOR is open in STARTING and CONFIG_FAULT, while a reset is in progress, and while the latch is set; else closed (R188). -/
def contactorClosed (s : State) : Bool :=
  !resetInProgress s && joinedState s.supervisor.station && !s.supervisor.contactorLatch

/-- HELD is asserted while the station state is HELD and no reset is in progress (R187). -/
def heldOutput (s : State) : Bool := !resetInProgress s && decide (s.supervisor.station = .held)

/-- A zone condition that is a cause of ALARM (R189); a DISABLED zone is none. -/
def conditionAlarms : Condition → Bool
  | .disabled => false
  | .normal => false
  | .tripped => true
  | .openFault => true
  | .stuckOn => true

/-- ALARM is asserted while any of its causes holds (R189). -/
def alarm (s : State) : Bool :=
  resetInProgress s || decide (s.supervisor.station = .starting) || decide (s.supervisor.station = .configFault) ||
  decide (s.supervisor.station = .mainsLost) || s.supervisor.mainsLost ||
  indexes.any (fun z => conditionAlarms (s.zones.get z).condition) ||
  s.supervisor.contactorLatch || s.link.clash || decide (s.link.loopResult = some .failed)

/-- The link state lets the station send frames (R148). -/
def linkSends : LinkState → Bool
  | .listenOnly => false
  | .active => true
  | .passive => true
  | .detached => false

/-- The line driver may drive dominant: only in ACTIVE and PASSIVE, with no reset in progress (R148, R187). -/
def lineDriverEnabled (s : State) : Bool := !resetInProgress s && linkSends s.link.state

/-- CFG_CS is asserted through a read, and released at a reset (R198, R199). -/
def cfgSelect (s : State) : Bool := startingUp s && decide (s.loader.state = .reading)

/-- The sag response is active while its count is above 0 (R95). -/
def sagActive (p : PlacementUnit) : Bool := decide (0 < p.sagCount)

/-- The view for cycle n+1 is incomplete (R74). -/
def viewIncomplete (s : State) : Bool := s.placement.viewFlag || decide (s.timeBase.sync = .freeRunning)

/-- A boundary record is valid (R109). -/
def BoundaryRecord.valid (r : BoundaryRecord) : Bool := decide (r.age ≤ 2) && r.temperature.isSome

/-- The feeder voltage state reads above the sag level while its class is NORMAL (R32). -/
def aboveSag (s : State) : Bool := decide (s.scanner.voltageClass = some .normal)

/-- The station is the reference: its own address is elected, in RUNNING, HELD or MAINS_LOST (R14). -/
def isReference (cfg : Settings) (station : StationState) (t : TimeBase) : Bool :=
  settledState station && decide (t.reference = some cfg.address)

/-- The receive queue is locked (R169). -/
def queueLocked (q : ReceiveQueue) : Bool := decide (Config.queueSize ≤ q.entries.length)

/-- The slot load map is in use, and the dispatcher stalled, while a computation is in flight (R76, R172). -/
def mapInUse (p : PlacementUnit) : Bool := p.computation.isSome

/-- The peer count: entries and row sets (R107). -/
def peerCount (p : PeerTable) : Nat := p.entries.length + p.row.length

/-- The announce window: from the demand point to the freeze, slots 8 to 27 by the slot-boundary events taken (R82). -/
def inAnnounceWindow (t : TimeBase) : Bool := decide (8 ≤ t.takenSlot ∧ t.takenSlot < 28)

/-- After the freeze and before rollover (R87). -/
def afterFreeze (t : TimeBase) : Bool := decide (28 ≤ t.takenSlot)

end Sys2Proof.Machine
end

