-- ==== Sys2Proof/Machine/Operands.lean ====
section
/-! DEFINITION. The layouts of chapter 06: bits and stuffing of the link frame, its check, the four payloads, their tests, and the
fields of the configuration image with their ranges. A line bit is `true` when recessive (R118). -/

namespace Sys2Proof.Machine

/-! ### Numbers in bits and bytes (R117) -/

/-- The bits of a byte, bit 7 first. -/
def byteBits (b : Byte) : List Bool :=
  [b.getLsbD 7, b.getLsbD 6, b.getLsbD 5, b.getLsbD 4, b.getLsbD 3, b.getLsbD 2, b.getLsbD 1, b.getLsbD 0]

/-- The low `w` bits of a number, most significant first. -/
def natBits : Nat → Nat → List Bool
  | 0, _ => []
  | w + 1, n => n.testBit w :: natBits w n

/-- The number whose bits, most significant first, are given. -/
def bitsNat (l : List Bool) : Nat := l.foldl (fun a b => 2 * a + b.toNat) 0

/-- The first `n` bytes of a list of bits. -/
def bitsBytes : Nat → List Bool → List Byte
  | 0, _ => []
  | n + 1, l => BitVec.ofNat 8 (bitsNat (l.take 8)) :: bitsBytes n (l.drop 8)

/-- A byte of a payload or image, 0 where the list is shorter. -/
def byteAt (l : List Byte) (i : Nat) : Byte := l.getD i 0

/-- An unsigned byte field. -/
def u8At (l : List Byte) (i : Nat) : Nat := (byteAt l i).toNat

/-- An unsigned two-byte field, high byte first (R117). -/
def u16At (l : List Byte) (i : Nat) : Nat := 256 * u8At l i + u8At l (i + 1)

/-- A signed two-byte field in two's complement (R117). -/
def i16At (l : List Byte) (i : Nat) : Int :=
  if u16At l i < 32768 then (u16At l i : Int) else (u16At l i : Int) - 65536

/-- A temperature field: −32768 stands for absent (R117). -/
def temperatureAt (l : List Byte) (i : Nat) : Option Int :=
  if i16At l i = -32768 then none else some (i16At l i)

/-- The two bytes of an unsigned field, high byte first. -/
def u16Bytes (n : Nat) : List Byte := [BitVec.ofNat 8 (n / 256), BitVec.ofNat 8 n]

/-- The two bytes of a temperature field (R117). -/
def temperatureBytes (t : Option Int) : List Byte :=
  u16Bytes ((t.getD (-32768)) % 65536).toNat

/-! ### The check (R120, R133) -/

/-- One bit taken into the check register (R120). -/
def checkStep (r : BitVec 16) (b : Bool) : BitVec 16 :=
  let moved := r <<< 1
  if (r.getLsbD 15) != b then moved ^^^ 4129#16 else moved

/-- The check register over a list of bits, from all ones (R120). -/
def checkBits (l : List Bool) : BitVec 16 := l.foldl checkStep 0xFFFF#16

/-- The check register worked on over one whole byte, bit 7 first (R133). -/
def checkByte (r : BitVec 16) (b : Byte) : BitVec 16 := (byteBits b).foldl checkStep r

/-! ### Frames (R118, R119, R121) -/

/-- The fields of a frame as received or to be sent. -/
structure Frame where
  kind : Nat
  source : Nat
  group : Nat
  length : Nat
  payload : List Byte
  deriving DecidableEq, Repr

/-- The kind code of a producer's frame (R118). -/
def producerKind : Producer → Nat
  | .place => 2
  | .line => 1
  | .status => 3

/-- Kind through Payload of a frame, the bits the check is worked over (R118, R120). -/
def frameFields (kind source group : Nat) (payload : List Byte) : List Bool :=
  natBits 3 kind ++ natBits 6 source ++ natBits 4 group ++ natBits 6 payload.length ++ payload.flatMap byteBits

/-- Kind through Check. -/
def frameData (kind source group : Nat) (payload : List Byte) : List Bool :=
  let fields := frameFields kind source group payload
  fields ++ natBits 16 (checkBits fields).toNat

/-- The stuffed bits after the Start bit, from the value and length of the run so far. The first `arb` data bits are arbitration
bits: Kind and Source, nine of them (R119, R137). DESIGN CHOICE: a stuff bit inserted among them is no arbitration bit, so a dominant
sample on a recessive one is a bit error (R138) and no lost arbitration (R137; assumption log 41). -/
def stuffBits : Bool → Nat → Nat → List Bool → List SentBit
  | v, n, _, [] => if n = 6 then [⟨!v, false, true⟩] else []
  | v, n, arb, b :: bs =>
    if n = 6 then
      ⟨!v, false, true⟩ :: ⟨b, decide (0 < arb), false⟩ :: stuffBits b (if b = !v then 2 else 1) (arb - 1) bs
    else
      ⟨b, decide (0 < arb), false⟩ :: stuffBits b (if b = v then n + 1 else 1) (arb - 1) bs

/-- The bits a station sends after the Start bit through the end of the stuffed part (R118, R119). The Start bit opens a run of
one dominant bit. -/
def sentBits (kind source group : Nat) (payload : List Byte) : List SentBit :=
  stuffBits false 1 9 (frameData kind source group payload)

/-- How a frame being received stands after the bits taken so far (R140, R142), with the bits left over. -/
inductive RxResult where
  /-- Neither an error nor the end of the frame has come. -/
  | incomplete
  /-- A seventh equal bit (R119). -/
  | stuffError (rest : List Bool)
  /-- The received check differs (R120). -/
  | checkError (rest : List Bool)
  /-- A dominant End bit (R142). -/
  | void (rest : List Bool)
  /-- The seventh End bit was recessive (R142). -/
  | received (f : Frame) (rest : List Bool)
  deriving DecidableEq, Repr

/-- The fields of a frame from its data bits in order, Kind through Check. -/
def frameOfData (d : List Bool) : Frame :=
  let len := bitsNat ((d.drop 13).take 6)
  { kind := bitsNat (d.take 3)
    source := bitsNat ((d.drop 3).take 6)
    group := bitsNat ((d.drop 9).take 4)
    length := len
    payload := bitsBytes len (d.drop 19) }

/-- Whether the check of a frame's data bits passes (R120). -/
def dataCheckPasses (d : List Bool) : Bool :=
  let n := 19 + 8 * bitsNat ((d.drop 13).take 6)
  decide (bitsNat (d.drop n) = (checkBits (d.take n)).toNat)

/-- The End field: seven bits, each recessive, or the frame is void (R142). -/
def rxEnd (f : Frame) : Nat → List Bool → RxResult
  | 0, rest => .received f rest
  | _ + 1, [] => .incomplete
  | n + 1, b :: rest => if b then rxEnd f n rest else .void rest

/-- The Acknowledge bit, which a receiver does not test, and then the End field (R140). -/
def rxTail (f : Frame) : List Bool → RxResult
  | [] => .incomplete
  | _ :: rest => rxEnd f 7 rest

/-- How the stuffed part of a frame being received stands (R119, R120, R140). -/
inductive StuffedResult where
  | more
  | stuffError (rest : List Bool)
  | checkError (rest : List Bool)
  /-- The check has passed: the fields, and the bits from the Acknowledge bit on. -/
  | passed (f : Frame) (tail : List Bool)
  deriving DecidableEq, Repr

/-- The stuffed part of a frame being received: the run so far, the data bits so far (latest first) with their number, and the
number of data bits in all, known once Length has been taken at the 19th (R119, R121, R140). -/
def rxStuffed : Bool → Nat → List Bool → Nat → Nat → List Bool → StuffedResult
  | _, _, _, _, _, [] => .more
  | v, run, acc, n, need, b :: bs =>
    if run = 6 then
      if b = v then .stuffError bs
      else if n = need then .passed (frameOfData acc.reverse) bs
      else rxStuffed b 1 acc n need bs
    else
      let run' := if b = v then run + 1 else 1
      let acc' := b :: acc
      let need' := if n + 1 = 19 then 35 + 8 * bitsNat (acc'.take 6).reverse else need
      if n + 1 = need' then
        if dataCheckPasses acc'.reverse then
          if run' = 6 then rxStuffed b 6 acc' (n + 1) need' bs else .passed (frameOfData acc'.reverse) bs
        else .checkError bs
      else rxStuffed b run' acc' (n + 1) need' bs

/-- The stuffed part of a frame, from the bits sampled after its Start bit. -/
def rxPart (bits : List Bool) : StuffedResult := rxStuffed false 1 [] 0 19 bits

/-- A frame being received, from the bits sampled after its Start bit. -/
def rxFrame (bits : List Bool) : RxResult :=
  match rxPart bits with
  | .more => .incomplete
  | .stuffError rest => .stuffError rest
  | .checkError rest => .checkError rest
  | .passed f tail => rxTail f tail

/-- The bits from the Acknowledge bit on, once that bit has come (R140). -/
def ackTail (bits : List Bool) : Option (List Bool) :=
  match rxPart bits with
  | .more => none
  | .stuffError _ => none
  | .checkError _ => none
  | .passed _ [] => none
  | .passed _ (b :: rest) => some (b :: rest)

/-- The outcome of the link loop's frame, which ends at the last bit of the Check: its fields when no stuff error is found and the
check passes (R206). -/
def loopFrame : Bool → Nat → List Bool → Nat → Nat → List Bool → Option Frame
  | _, _, _, _, _, [] => none
  | v, run, acc, n, need, b :: bs =>
    if run = 6 then
      if b = v then none else loopFrame b 1 acc n need bs
    else
      let acc' := b :: acc
      let need' := if n + 1 = 19 then 35 + 8 * bitsNat (acc'.take 6).reverse else need
      if n + 1 = need' then
        if dataCheckPasses acc'.reverse then some (frameOfData acc'.reverse) else none
      else loopFrame b (if b = v then run + 1 else 1) acc' (n + 1) need' bs

/-- How an own attempt stands after the bits sampled so far (R137 to R139), with the bits left over. -/
inductive TxResult where
  | pending
  | lost (rest : List Bool)
  | bitError (rest : List Bool)
  | ackError (rest : List Bool)
  | endReject (rest : List Bool)
  | success (rest : List Bool)
  deriving DecidableEq, Repr

/-- The End field of an own attempt: a dominant bit is a receiver's reject (R139). -/
def txEnd : Nat → List Bool → TxResult
  | 0, rest => .success rest
  | _ + 1, [] => .pending
  | n + 1, b :: rest => if b then txEnd n rest else .endReject rest

/-- An own attempt compared bit by bit: a dominant sample on a recessive arbitration bit loses arbitration (R137), any other
difference is a bit error (R138), on a stuff bit among the arbitration bits too (DESIGN CHOICE, assumption log 41); then the
Acknowledge bit and the End field (R139). -/
def txCompare : List SentBit → List Bool → TxResult
  | [], [] => .pending
  | [], ack :: rest => if ack then .ackError rest else txEnd 7 rest
  | _ :: _, [] => .pending
  | s :: ss, x :: xs =>
    if x = s.level then txCompare ss xs
    else if s.arbitration && s.level then .lost xs
    else .bitError xs

/-! ### Payloads and their tests (R122 to R126, R130) -/

/-- The fields of a TIME payload (R123). -/
structure TimePayload where
  cycle : Cycle
  slot : Nat
  mainsIndex : Nat
  slotLen : Nat
  frequency : Nat
  deriving DecidableEq, Repr

/-- A TIME payload read from its bytes (R123). -/
def timePayload (l : List Byte) : TimePayload where
  cycle := BitVec.ofNat 16 (u16At l 0)
  slot := u8At l 2
  mainsIndex := u8At l 3
  slotLen := u8At l 4
  frequency := u8At l 5

/-- The mains frequency code of a class (R123). -/
def frequencyCode : MainsClass → Nat
  | .hz50 => 50
  | .hz60 => 60

/-- The bytes of a TIME payload (R123). -/
def timeBytes (cycle : Cycle) (slot mainsIndex slotLen : Nat) (c : MainsClass) : List Byte :=
  u16Bytes cycle.toNat ++ [BitVec.ofNat 8 slot, BitVec.ofNat 8 mainsIndex, BitVec.ofNat 8 slotLen, BitVec.ofNat 8 (frequencyCode c)]

/-- The line state byte of a level (R124). -/
def flowCode : FlowLevel → Nat
  | .flowing => 1
  | .standing => 2

/-- The bytes of a LINE payload (R124): the report cycle is the low 8 bits of the cycle number at the request. -/
def lineBytes (level : FlowLevel) (changeCycle : Byte) (change held : Bool) (report : Cycle) : List Byte :=
  [BitVec.ofNat 8 (flowCode level), changeCycle,
   BitVec.ofNat 8 (128 * change.toNat + 64 * held.toNat), report.setWidth 8]

/-- Bits `lo` to `lo + w − 1` of a byte. -/
def bitField (b : Byte) (lo w : Nat) : Nat := b.toNat / 2 ^ lo % 2 ^ w

/-- The fields of a PLACE payload (R125). -/
structure PlacePayload where
  target : Byte
  revision : Nat
  viewIncomplete : Bool
  sagActive : Bool
  held : Bool
  runCount : Nat
  upstream : Option Int
  downstream : Option Int
  runs : List Run
  deriving DecidableEq, Repr

/-- Run record `r` of a PLACE payload (R125). -/
def placeRun (l : List Byte) (r : Nat) : Run where
  zone := bitField (byteAt l (6 + 4 * r)) 5 3
  start := bitField (byteAt l (6 + 4 * r)) 0 5
  length := u8At l (7 + 4 * r)
  load := u8At l (8 + 4 * r)
  surcharge := u8At l (9 + 4 * r)
  stuck := false

/-- A PLACE payload read from its bytes (R125). -/
def placePayload (l : List Byte) : PlacePayload :=
  let count := bitField (byteAt l 1) 0 3
  { target := byteAt l 0
    revision := bitField (byteAt l 1) 6 2
    viewIncomplete := (byteAt l 1).getLsbD 5
    sagActive := (byteAt l 1).getLsbD 4
    held := (byteAt l 1).getLsbD 3
    runCount := count
    upstream := temperatureAt l 2
    downstream := temperatureAt l 4
    runs := (List.range count).map (placeRun l) }

/-- The bytes of one run record (R125). -/
def runBytes (r : Run) : List Byte :=
  [BitVec.ofNat 8 (32 * r.zone + r.start), BitVec.ofNat 8 r.length, BitVec.ofNat 8 r.load, BitVec.ofNat 8 r.surcharge]

/-- The bytes of a PLACE payload (R125). -/
def placeBytes (target : Byte) (revision : Nat) (viewIncomplete sagActive held : Bool) (upstream downstream : Option Int)
    (runs : List Run) : List Byte :=
  [target, BitVec.ofNat 8 (64 * revision + 32 * viewIncomplete.toNat + 16 * sagActive.toNat + 8 * held.toNat + runs.length)] ++
    temperatureBytes upstream ++ temperatureBytes downstream ++ runs.flatMap runBytes

/-- An end temperature passes when it is absent or within −500 to 2000 (R126). -/
def temperatureInRange (t : Option Int) : Bool :=
  match t with
  | none => true
  | some x => decide (-500 ≤ x ∧ x ≤ 2000)

/-- A run record passes its tests (R126). -/
def runInRange (r : Run) : Bool :=
  decide (1 ≤ r.zone ∧ r.zone ≤ 6 ∧ 1 ≤ r.length ∧ r.length ≤ 32 ∧ 1 ≤ r.load)

/-- The payload tests of PLACE (R126). -/
def placeValid (l : List Byte) : Bool :=
  let p := placePayload l
  decide (6 ≤ l.length) && decide (l.length = 6 + 4 * p.runCount) && decide (p.runCount ≠ 7) &&
    p.runs.all runInRange && decide ((p.runs.map Run.zone).Nodup) &&
    temperatureInRange p.upstream && temperatureInRange p.downstream

/-- The payload tests of LINE (R124). -/
def lineValid (l : List Byte) : Bool :=
  decide (l.length = 4) && (decide (u8At l 0 = 1) || decide (u8At l 0 = 2)) && decide (bitField (byteAt l 2) 0 6 = 0)

/-- The header and payload tests (R122, R123, R124, R126, R130): a frame that passes is valid, one that fails is refused. -/
def frameValid (f : Frame) : Bool :=
  decide (f.source ≠ 0) && decide (f.length ≤ 32) &&
    match f.kind with
    | 0 => decide (f.length = 6)
    | 1 => lineValid f.payload
    | 2 => placeValid f.payload
    | 3 => decide (f.length = 24)
    | _ => false

/-! ### The configuration image (R131 to R133, R202, R203) -/

/-- The check of an image: over bytes 0 to 125 (R133). -/
def imageCheck (image : List Byte) : BitVec 16 := (image.take 126).foldl checkByte 0xFFFF#16

/-- The check stored in bytes 126 and 127 (R133). -/
def storedCheck (image : List Byte) : BitVec 16 := BitVec.ofNat 16 (u16At image 126)

/-- A bank of a zone block, from its first byte (R132). -/
def bankAt (image : List Byte) (i : Nat) : Bank where
  target := i16At image i
  kp := u8At image (i + 2)
  ki := u8At image (i + 3)

/-- The block of a zone (R132). -/
def zoneSettingsAt (image : List Byte) (z : Index) : ZoneSettings :=
  let b := 40 + 12 * z.val
  { enabled := decide (u8At image b = 1)
    ratedLu := u8At image (b + 1)
    tripLimit := i16At image (b + 2)
    flowing := bankAt image (b + 4)
    standing := bankAt image (b + 8) }

/-- The fields of an image (R131, R132). -/
def settingsOf (image : List Byte) : Settings where
  address := u8At image 0
  group := u8At image 1
  upstreamAddr := u8At image 2
  downstreamAddr := u8At image 3
  bitRate := bitField (byteAt image 4) 0 2
  flowSensing := (byteAt image 4).getLsbD 7
  slotLen := u8At image 5
  budget := u16At image 6
  luWatts := u16At image 8
  inrushCold := u8At image 10
  minRun := u8At image 11
  tCold := i16At image 12
  tWarm := i16At image 14
  blindMargin := u16At image 16
  ration := u16At image 18
  sagDerate := u8At image 20
  sagHold := u8At image 21
  vNom := u16At image 22
  sagPct := u8At image 24
  silentLimit := u8At image 25
  joinCycles := u8At image 26
  jumpLimit := u8At image 27
  syncTimeout := u8At image 28
  lineTimeout := u8At image 29
  statusPeriod := u8At image 30
  filterShift := u8At image 31
  rateLimit := u8At image 32
  holdCycles := u8At image 33
  fallbackDemand := u8At image 34
  substPenalty := u8At image 35
  coldFloor := i16At image 36
  warmPreset := u16At image 38
  zones := Six.ofFn (zoneSettingsAt image)

/-- A whole number within a range. -/
def within (lo hi n : Nat) : Bool := decide (lo ≤ n ∧ n ≤ hi)

/-- A signed number within a range. -/
def withinInt (lo hi n : Int) : Bool := decide (lo ≤ n ∧ n ≤ hi)

/-- The ranges of the station fields (R202). -/
def stationFieldsInRange (c : Settings) : Bool :=
  within 1 63 c.address && within 0 15 c.group && within 0 63 c.upstreamAddr && within 0 63 c.downstreamAddr &&
  within 0 2 c.bitRate && within 4 16 c.slotLen && within 1 65535 c.budget && within 50 1000 c.luWatts &&
  within 8 40 c.inrushCold && within 1 8 c.minRun && withinInt (-500) 2000 c.tCold && withinInt (-500) 2000 c.tWarm &&
  within 0 65535 c.blindMargin && within 0 65535 c.ration && within 0 50 c.sagDerate && within 0 15 c.sagHold &&
  within 500 5000 c.vNom && within 70 95 c.sagPct && within 1 14 c.silentLimit && within 2 16 c.joinCycles &&
  within 1 4 c.jumpLimit && within 2 255 c.syncTimeout && within 4 255 c.lineTimeout && within 1 255 c.statusPeriod &&
  within 0 4 c.filterShift && within 1 255 c.rateLimit && within 0 15 c.holdCycles && within 0 32 c.fallbackDemand &&
  within 0 100 c.substPenalty && withinInt (-500) 1500 c.coldFloor && within 0 8192 c.warmPreset

/-- The ranges of a bank (R203). The gains are whole bytes. -/
def bankInRange (b : Bank) : Bool := withinInt 0 1500 b.target && within 0 255 b.kp && within 0 255 b.ki

/-- The ranges of a zone block, enabled or not (R203). -/
def zoneFieldsInRange (s : ZoneSettings) : Bool :=
  within 1 255 s.ratedLu && withinInt 300 1500 s.tripLimit && bankInRange s.flowing && bankInRange s.standing

/-- The cross-field tests (R203). -/
def crossFieldsPass (c : Settings) : Bool :=
  decide (c.tCold < c.tWarm) && indexes.any (fun z => (c.zone z).enabled) &&
    decide (c.upstreamAddr ≠ c.address) && decide (c.downstreamAddr ≠ c.address)

/-- The tests of fields on the image itself: bits 6 to 2 of the link options are 0 and every enabled byte is 0 or 1 (R131, R132). -/
def imageBitsInRange (image : List Byte) : Bool :=
  decide (bitField (byteAt image 4) 2 5 = 0) && indexes.all (fun z => within 0 1 (u8At image (40 + 12 * z.val)))

/-- The field tests of validation (R201, tests 2 to 4). -/
def imageFieldsGood (image : List Byte) : Bool :=
  let c := settingsOf image
  imageBitsInRange image && stationFieldsInRange c && indexes.all (fun z => zoneFieldsInRange (c.zone z)) && crossFieldsPass c

/-! ### Bit timing (R134) -/

/-- The bit time of a bit rate code, in microseconds (R134). -/
def bitTimeMicros (code : Nat) : Nat :=
  match code with
  | 0 => 100
  | 1 => 50
  | _ => 25

/-- The steps of 1.25 µs in a quantum, the twentieth part of a bit time (R134). -/
def quantumUnits (code : Nat) : Nat := bitTimeMicros code / 25

/-- The quanta of a bit (R134). -/
def quantaPerBit : Nat := 20

/-- The quantum at whose end the line is sampled (R134). -/
def sampleQuantum : Nat := 13

/-- The resynchronisation of a recessive-to-dominant edge seen in a quantum of a bit within a frame: the quanta by which that bit
becomes longer (late edge) or shorter (early edge, negative), at most 2 (R134). -/
def resyncQuanta (quantum : Nat) : Int :=
  if quantum ≤ 13 then (min quantum 2 : Nat) else -((min (20 - quantum) 2 : Nat) : Int)

/-- The bit timing right after the sample of a Start bit, whose leading edge has aligned it outright (R134). -/
def BitClock.started (driving : Bool) : BitClock where
  unit := 0
  quantum := 14
  resynced := true
  driving := driving

end Sys2Proof.Machine
end

