-- ==== Sys2Proof/Machine/Peers.lean ====
section
/-! DEFINITION. The Peer Table (chapter 05): entries, the unlisted-load row, boundary records, the line state record and the flow
sender. -/

namespace Sys2Proof.Machine

/-- An address holds an entry (R99). -/
def hasEntry (t : PeerTable) (address : Nat) : Bool := t.entries.any fun e => decide (e.address = address)

/-- An address holds a set in the row (R99). -/
def hasSet (t : PeerTable) (address : Nat) : Bool := t.row.any fun e => decide (e.address = address)

/-- An entry takes a delivered placement (R100). -/
def takePlacement (runs : List Run) (order : Nat) (target : Byte) (e : Entry) : Entry :=
  { e with state := .fresh, next := some runs, order := some order, lastHeard := target }

/-- A new entry (R101). -/
def newEntry (address : Nat) (runs : List Run) (order : Nat) (target : Byte) : Entry where
  address := address
  state := .fresh
  silentCount := 0
  next := some runs
  order := some order
  lastHeard := target

/-- A row with a set added or replaced (R102). -/
def putSet (address : Nat) (runs : List Run) (order : Nat) (row : List RowSet) : List RowSet :=
  (row.filter fun x => decide (x.address ≠ address)) ++ [{ address := address, runs := runs, order := order }]

/-- A delivery on the placement route, from an address other than the own (R99 to R102). -/
def recordPlacement (address : Nat) (runs : List Run) (order : Nat) (target : Byte) (t : PeerTable) : PeerTable :=
  if hasEntry t address then
    { t with entries := t.entries.map fun e => if e.address = address then takePlacement runs order target e else e }
  else if hasSet t address || decide (Config.maxEntries ≤ t.entries.length) then
    { t with row := putSet address runs order t.row }
  else { t with entries := t.entries ++ [newEntry address runs order target] }

/-- A boundary delivery from another group by an address that holds an entry: the entry is removed, and a placement it held moves
into the row (R103). -/
def groupChange (address : Nat) (t : PeerTable) : PeerTable :=
  match t.entries.find? fun e => decide (e.address = address) with
  | none => t
  | some e =>
    let row :=
      match e.next, e.order with
      | some runs, some order => putSet address runs order t.row
      | _, _ => t.row
    { t with entries := t.entries.filter fun x => decide (x.address ≠ address), row := row }

/-- A boundary record updated by a delivery (R108). -/
def updateRecord (temperature : Option Int) : BoundaryRecord where
  temperature := temperature
  age := 0

/-- The boundary routes of a delivery: each side takes the end temperature that faces this station (R108). -/
def updateBoundaries (upstream downstream : Bool) (p : PlacePayload) (t : PeerTable) : PeerTable :=
  { t with
    upstream := if upstream then updateRecord p.downstream else t.upstream
    downstream := if downstream then updateRecord p.upstream else t.downstream }

/-- A line state of a FLOW level. -/
def lineOfLevel : FlowLevel → LineState
  | .flowing => .flowing
  | .standing => .standing

/-- The line state a station adopts (R110, R113, R114). -/
def adoptLine (state : LineState) (source : Nat) (t : PeerTable) : PeerTable :=
  { t with line := { state := state, source := some source, age := 0 } }

/-- The line state of a LINE payload's first byte (R124). -/
def lineOfPayload (l : List Byte) : LineState := if u8At l 0 = 1 then .flowing else .standing

/-- The silent addresses named at the freeze (R104). -/
def silentAddresses (t : PeerTable) : List Nat :=
  (t.entries.filter fun e => decide (e.state = .silent)).map Entry.address

/-- An entry at a cycle boundary (R105). -/
def ageEntry (now : Byte) (e : Entry) : Entry :=
  let count := if e.state = .fresh ∧ e.lastHeard = now then 0 else saturate 15 (e.silentCount + 1)
  { e with state := .silent, silentCount := count, next := none, order := none }

/-- A boundary record a cycle older (R109). -/
def ageRecord (r : BoundaryRecord) : BoundaryRecord := { r with age := saturate 255 (r.age + 1) }

/-- The line state record a cycle older (R111). -/
def ageLine (cfg : Settings) (r : LineRecord) : LineRecord :=
  let age := saturate 255 (r.age + 1)
  if cfg.lineTimeout ≤ age then { state := .unknown, source := none, age := age } else { r with age := age }

/-- The Peer Table's rollover at a cycle boundary: entries age and those above `silent_limit` are removed, the row is emptied, and
the boundary records and the line state record age (R105, R106, R109, R111). -/
def rolloverPeers (cfg : Settings) (now : Cycle) (t : PeerTable) : PeerTable :=
  { t with
    entries := (t.entries.map (ageEntry (now.setWidth 8))).filter fun e => decide (e.silentCount ≤ cfg.silentLimit)
    row := []
    upstream := ageRecord t.upstream
    downstream := ageRecord t.downstream
    line := ageLine cfg t.line }

/-- A sample of FLOW (R112). -/
def flowLevel (asserted : Bool) : FlowLevel := if asserted then .flowing else .standing

/-- A sample taken against the confirmed level; whether it confirmed a new level (R112). -/
def sampleFlow (sample : FlowLevel) (now : Cycle) (f : FlowSender) : FlowSender × Bool :=
  if f.confirmed = some sample then ({ f with candidate := none, candidateCount := 0 }, false)
  else if f.candidate = some sample then
    ({ f with confirmed := some sample, changeCycle := now.setWidth 8, candidate := none, candidateCount := 0 }, true)
  else ({ f with candidate := some sample, candidateCount := 1 }, false)

end Sys2Proof.Machine
end

