-- ==== Sys2Proof/Machine/Scanner.lean ====
section
/-! DEFINITION. The Measurement Scanner (chapter 02): samples, channel state machines, the window's loads and classes. -/

namespace Sys2Proof.Machine

/-- The class of a sample (R21). -/
inductive Sample where
  | opened
  | short
  | inRange (temperature : Int)
  deriving DecidableEq, Repr

/-- The channel resistance in milliohms of a ratiometric count (R21). -/
def resistanceOf (count : BitVec 16) : Nat := count.toNat * 200000 / 65536

/-- A quotient rounded to the nearest integer, halves away from zero, for a positive divisor (R22). -/
def roundHalfAway (a : Int) (b : Nat) : Int :=
  if 0 ≤ a then (2 * a + b) / (2 * b) else -((2 * (-a) + b) / (2 * b))

/-- The sample temperature of a resistance (R22). -/
def temperatureOf (r : Nat) : Int := clampTemperature (roundHalfAway (((r : Int) - 100000) * 10) 385)

/-- The sample of a count (R21, R22). -/
def sampleOf (count : BitVec 16) : Sample :=
  let r := resistanceOf count
  if 180000 < r then .opened else if r < 78000 then .short else .inRange (temperatureOf r)

/-- A fault recorded on a channel (R24, R25). -/
def faultChannel (f : FaultClass) (c : Channel) : Channel :=
  { c with state := .faulted, fault := f, filtered := none, seed := none, rejections := 0, good := 0 }

/-- The size of a difference. -/
def apart (a b : Int) : Nat := (a - b).natAbs

/-- An IN_RANGE sample in TRACKING: the rate check, then the filter or a rejection (R23, R24). -/
def trackSample (cfg : Settings) (t : Int) (c : Channel) : Channel :=
  match c.filtered with
  | none => c
  | some tf =>
    if apart t tf ≤ cfg.rateLimit then
      { c with filtered := some (tf + (t - tf).tdiv (2 ^ cfg.filterShift)), rejections := 0 }
    else if c.rejections + 1 = 3 then faultChannel .rate c
    else { c with rejections := c.rejections + 1 }

/-- An IN_RANGE sample in FAULTED: recovery on two agreeing samples (R26). -/
def recoverSample (cfg : Settings) (t : Int) (c : Channel) : Channel :=
  match c.seed with
  | none => { c with seed := some t, good := 1 }
  | some s =>
    if apart t s ≤ cfg.rateLimit then
      { c with state := .tracking, fault := .none, filtered := some t, rejections := 0, good := 2 }
    else { c with seed := some t, good := 1 }

/-- One sample applied to a channel (R23 to R26), with the fault-change flag of its report (R27). -/
def channelStep (cfg : Settings) (s : Sample) (c : Channel) : Channel :=
  let c' :=
    match s with
    | .opened => faultChannel .opened c
    | .short => faultChannel .short c
    | .inRange t =>
      match c.state with
      | .unseeded => { c with state := .tracking, filtered := some t }
      | .tracking => trackSample cfg t c
      | .faulted => recoverSample cfg t c
  { c' with changed := decide (c'.fault ≠ c.fault) }

/-- The twelve samples of a completed scan applied to the channels (R19, R27). -/
def applyScan (cfg : Settings) (control limiter : Six (BitVec 16)) (sc : Scanner) : Scanner :=
  { sc with
    control := Six.ofFn fun z => channelStep cfg (sampleOf (control.get z)) (sc.control.get z)
    limiter := Six.ofFn fun z => channelStep cfg (sampleOf (limiter.get z)) (sc.limiter.get z)
    scanDue := false }

/-- A slot-boundary event starts a scan and arms a window, abandoning what was in progress. A scan or a window that the mains-cycle
end of this moment has finished is not in progress any more, and still completes (R19, R20). -/
def armScanner (slot : Nat) (cycle : Cycle) (sc : Scanner) : Scanner :=
  { sc with
    scan := true
    window := some { ends := 0, slot := slot, cycle := cycle, level := Six.fill false, changed := Six.fill false } }

/-- The window after a mains-cycle end: it opens at the second end after its event, with the gate levels of that moment, and the third
closes it (R20, R28). -/
def windowAtEnd (gates : Six Bool) (w : Window) : Option Window :=
  match w.ends with
  | 0 => some { w with ends := 1 }
  | 1 => some { w with ends := 2, level := gates }
  | _ => none

/-- The window that a mains-cycle end closes: the one that is open (R20). -/
def windowClosing (w : Window) : Option Window := if 2 ≤ w.ends then some w else none

/-- A mains-cycle end at the scanner: it finishes the scan in progress and the open window, and they complete at this end (R19, R20;
assumption log 10). -/
def scannerMainsEnd (gates : Six Bool) (sc : Scanner) : Scanner :=
  { sc with
    scan := false
    scanDue := sc.scan
    window := sc.window.bind (windowAtEnd gates)
    windowDue := sc.window.bind windowClosing }

/-- The window gate state of a zone (R28). -/
def windowGate (w : Window) (z : Index) : GateReading :=
  if w.changed.get z then .mixed else if w.level.get z then .on else .off

/-- The measured load in LU of a current and a voltage (R30). -/
def measuredLoad (cfg : Settings) (i v : Nat) : Nat := min 255 (ceilDiv (i * v) (1000 * cfg.luWatts))

/-- The voltage class (R32). -/
def voltageClassOf (cfg : Settings) (v : Nat) : VoltageClass :=
  if v * 5 < cfg.vNom * 3 then .collapse else if v * 100 < cfg.vNom * cfg.sagPct then .sag else .normal

/-- One zone's measurement record at a completed window (R28, R30, R31). -/
def measureZone (cfg : Settings) (w : Window) (i v : Nat) (z : Index) (m : Measurement) : Measurement :=
  let load := measuredLoad cfg i v
  let gate := windowGate w z
  { current := some i
    gate := some gate
    load := some load
    lastOn := if gate = .on then some { load := load, slot := w.slot, cycle := w.cycle } else m.lastOn }

/-- A completed window: readings are capped, and currents, gate states, loads, last on-loads, voltage and class are recorded
(R28 to R32). -/
def measureWindow (cfg : Settings) (w : Window) (currents : Six Nat) (voltage : Nat) (sc : Scanner) : Scanner :=
  let v := min voltage 5000
  { sc with
    zones := Six.ofFn fun z => measureZone cfg w (min (currents.get z) 6000) v z (sc.zones.get z)
    voltage := some v
    voltageClass := some (voltageClassOf cfg v) }

/-- Whether any own gate was on in a window: some window gate state is ON or MIXED (R33). -/
def windowHadGateOn (w : Window) : Bool := indexes.any fun z => decide (windowGate w z ≠ .off)

/-- The window that completes: the one closed by the last mains-cycle end, or, where the completion is taken before the end that closes
it, the open one (R20, R182; assumption log 10). -/
def windowReady (sc : Scanner) : Option Window :=
  match sc.windowDue with
  | some w => some w
  | none => sc.window.bind windowClosing

/-- The window that completes is taken from the scanner. -/
def takeWindow (sc : Scanner) : Scanner :=
  match sc.windowDue with
  | some _ => { sc with windowDue := none }
  | none => { sc with window := none }

/-- The scanner after a completed window (R20, R28 to R32). -/
def applyWindow (cfg : Settings) (w : Window) (currents : Six Nat) (voltage : Nat) (sc : Scanner) : Scanner :=
  measureWindow cfg w currents voltage (takeWindow sc)

end Sys2Proof.Machine
end

