-- ==== Sys2Proof/Machine/Zones.lean ====
section
/-! DEFINITION. The Zone Controller (chapter 03): sources, demands, trips, heater faults, release. -/

namespace Sys2Proof.Machine

/-! ### Trips and heater faults -/

/-- The limiter channel calls for a trip (R39). -/
def limiterTrips (limit : Int) (c : Channel) : Bool :=
  match c.state with
  | .unseeded => false
  | .faulted => true
  | .tracking =>
    match c.filtered with
    | none => false
    | some t => decide (limit ≤ t)

/-- A zone trips (R40). A STUCK_ON zone that trips gives the contactor latch cause, which sets the latch (R45, R188). -/
def tripZone (s : State) (z : Index) : State :=
  let x := s.zones.get z
  let s1 := leaveNormal s z { x with condition := .tripped, mode := none, openCount := 0 }
  if x.condition = .stuckOn then s1.setSupervisor { s1.supervisor with contactorLatch := true } else s1

/-- The trip test of one zone at a scan completion (R37, R39). -/
def tripTest (cfg : Settings) (s : State) (z : Index) : State :=
  if (cfg.zone z).enabled && decide ((s.zones.get z).condition ≠ .tripped) &&
      limiterTrips (cfg.zone z).tripLimit (s.scanner.limiter.get z) then
    tripZone s z
  else s

/-- The open heater test of one zone at a window completion (R41, R42). -/
def openTest (cfg : Settings) (s : State) (z : Index) : State :=
  let x := s.zones.get z
  let m := s.scanner.zones.get z
  if (cfg.zone z).enabled && decide (x.condition = .normal) && decide (m.gate = some .on) &&
      decide (s.scanner.voltageClass ≠ some .collapse) then
    match runOf s.placement.current z, m.load with
    | some r, some load =>
      if load * 4 < r.load then
        if x.openCount + 1 = 3 then
          leaveNormal s z { x with condition := .openFault, mode := none, openCount := 0 }
        else s.setZone z { x with openCount := x.openCount + 1 }
      else s.setZone z { x with openCount := 0 }
    | _, _ => s
  else s

/-- A stuck finding (R44, R45). -/
def stuckFinding (s : State) (z : Index) : State :=
  let x := { s.zones.get z with stuckCount := 0 }
  if x.condition = .tripped then
    let s1 := s.setZone z x
    s1.setSupervisor { s1.supervisor with contactorLatch := true }
  else leaveNormal s z { x with condition := .stuckOn, mode := none, openCount := 0 }

/-- The conditions under which the stuck-on test is applied (R43). -/
def stuckTested : Condition → Bool
  | .disabled => false
  | .normal => true
  | .tripped => true
  | .openFault => true
  | .stuckOn => false

/-- The stuck-on test of one zone at a window completion (R43, R44). -/
def stuckTest (cfg : Settings) (s : State) (z : Index) : State :=
  let x := s.zones.get z
  let m := s.scanner.zones.get z
  if (cfg.zone z).enabled && stuckTested x.condition then
    match m.gate, m.load with
    | some .off, some load =>
      if x.followsRun then s.setZone z { x with followsRun := false }
      else if (cfg.zone z).ratedLu ≤ load * 20 then
        if x.stuckCount + 1 = 2 then stuckFinding s z
        else s.setZone z { x with stuckCount := x.stuckCount + 1 }
      else s.setZone z { x with stuckCount := 0 }
    | some _, some _ => s.setZone z { x with stuckCount := 0, followsRun := true }
    | _, _ => s
  else s

/-- Both heater fault tests of one zone at a window completion (R41 to R45). -/
def heaterTests (cfg : Settings) (s : State) (z : Index) : State := stuckTest cfg (openTest cfg s z) z

/-! ### Release (R46 to R49) -/

/-- Tc used calls for a cold start (R49, R56). -/
def isCold (cfg : Settings) (tc : Option Int) : Bool :=
  match tc with
  | none => true
  | some t => decide (t < cfg.coldFloor)

/-- A TRIP_CLEAR edge releases a zone (R47, R48). -/
def releaseMet (cfg : Settings) (s : State) (z : Index) : Bool :=
  let zs := cfg.zone z
  let limiter := s.scanner.limiter.get z
  match (s.zones.get z).condition with
  | .disabled => false
  | .normal => false
  | .openFault => true
  | .tripped =>
    decide (limiter.state = .tracking) &&
      match limiter.filtered with
      | none => false
      | some t => decide (t < zs.tripLimit - 100)
  | .stuckOn =>
    match (s.scanner.zones.get z).load with
    | none => false
    | some load => decide (load * 20 < zs.ratedLu)

/-- A released zone (R49). -/
def releasedZone (cfg : Settings) (station : StationState) (x : Zone) : Zone :=
  { x with
    condition := .normal
    acc := 0
    openCount := 0
    stuckCount := 0
    followsRun := false
    permit := false
    mode :=
      if settledState station then some (if isCold cfg x.tc then .coldStart else .regulating) else none }

/-- The edge applied to one zone (R46). -/
def clearZone (cfg : Settings) (s : State) (z : Index) : State :=
  if (cfg.zone z).enabled && releaseMet cfg s z then
    markChange (s.setZone z (releasedZone cfg s.supervisor.station (s.zones.get z)))
  else s

/-! ### Sources (R50 to R55) -/

/-- A control channel that gives its zone an OWN temperature at this demand point (R50). -/
def ownTemperature (cfg : Settings) (sc : Scanner) (z : Index) : Option Int :=
  let c := sc.control.get z
  if (cfg.zone z).enabled && decide (c.state = .tracking) then c.filtered else none

/-- The enabled zones in rising order. -/
def enabledZones (cfg : Settings) : List Index := indexes.filter fun z => (cfg.zone z).enabled

/-- The upstream adjacent enabled zone (R51). -/
def upstreamAdjacent (cfg : Settings) (z : Index) : Option Index :=
  ((enabledZones cfg).filter fun y => decide (y < z)).getLast?

/-- The downstream adjacent enabled zone (R51). -/
def downstreamAdjacent (cfg : Settings) (z : Index) : Option Index :=
  ((enabledZones cfg).filter fun y => decide (z < y)).head?

/-- The temperature of an adjacent zone that is on source OWN at this demand point (R51). -/
def lentBy (cfg : Settings) (sc : Scanner) (y : Option Index) : Option Int :=
  match y with
  | none => none
  | some y => ownTemperature cfg sc y

/-- The temperature of a boundary record that is valid (R52). -/
def lentByRecord (r : BoundaryRecord) : Option Int := if r.valid then r.temperature else none

/-- The origin's temperature of a zone without its own: its neighbours on the station, upstream first, then the boundary record of
an end zone, upstream first (R51, R52). -/
def originTemperature (cfg : Settings) (sc : Scanner) (up down : BoundaryRecord) (z : Index) : Option Int :=
  let first := (enabledZones cfg).head? = some z
  let last := (enabledZones cfg).getLast? = some z
  lentBy cfg sc (upstreamAdjacent cfg z) <|> lentBy cfg sc (downstreamAdjacent cfg z) <|>
    (if first then lentByRecord up else none) <|> (if last then lentByRecord down else none)

/-- A zone that finds no temperature (R53). -/
def holdZone (cfg : Settings) (x : Zone) : Zone :=
  match x.source with
  | some .holding =>
    if x.holdCount + 1 < cfg.holdCycles then { x with tc := none, holdCount := x.holdCount + 1 }
    else { x with tc := none, source := some .fallback, holdCount := 0 }
  | some .fallback => { x with tc := none, holdCount := 0 }
  | _ => { x with tc := none, source := some (if cfg.holdCycles = 0 then .fallback else .holding), holdCount := 0 }

/-- Source selection of one zone (R50 to R54). -/
def selectSource (cfg : Settings) (sc : Scanner) (up down : BoundaryRecord) (z : Index) (x : Zone) : Zone :=
  if (cfg.zone z).enabled then
    match ownTemperature cfg sc z with
    | some t => { x with source := some .own, tc := some t, holdCount := 0 }
    | none =>
      match originTemperature cfg sc up down z with
      | some t =>
        { x with source := some .substitute, tc := some (clampTemperature (t - cfg.substPenalty)), holdCount := 0 }
      | none => holdZone cfg x
  else x

/-- Source selection of every zone at a demand point (R50). -/
def selectSources (s : State) (cfg : Settings) : State :=
  s.setZones (Six.ofFn fun z => selectSource cfg s.scanner s.peers.upstream s.peers.downstream z (s.zones.get z))

/-- A source with a temperature (R55, R57, R61). -/
def hasTemperature (x : Zone) : Bool := decide (x.source = some .own) || decide (x.source = some .substitute)

/-- The end temperature of an end zone (R55). -/
def endTemperature (s : State) (z : Option Index) : Option Int :=
  match z with
  | none => none
  | some z => if hasTemperature (s.zones.get z) then (s.zones.get z).tc else none

/-- The upstream end temperature for a PLACE frame (R55). -/
def upstreamEnd (cfg : Settings) (s : State) : Option Int := endTemperature s (enabledZones cfg).head?

/-- The downstream end temperature for a PLACE frame (R55). -/
def downstreamEnd (cfg : Settings) (s : State) : Option Int := endTemperature s (enabledZones cfg).getLast?

/-! ### Modes and demand (R56 to R64) -/

/-- The mode and accumulator of a NORMAL zone when the station enters RUNNING from LISTENING (R56). -/
def enterRunningZone (cfg : Settings) (x : Zone) : Zone :=
  if x.condition = .normal then
    if isCold cfg x.tc then { x with mode := some .coldStart, acc := 0 }
    else { x with mode := some .regulating, acc := cfg.warmPreset }
  else x

/-- The bank that applies at a demand point (R60). -/
def applyingBank (cfg : Settings) (line : LineState) (z : Index) : Bank :=
  if line = .flowing then (cfg.zone z).flowing else (cfg.zone z).standing

/-- The deficit of a zone (R61). -/
def deficitOf (b : Bank) (x : Zone) : Int :=
  if hasTemperature x then
    match x.tc with
    | some t => clampInt (-1000) 1000 (b.target - t)
    | none => 0
  else 0

/-- The integral step (R62). -/
def integralStep (e : Int) (ki : Nat) : Int := (e * ki).tdiv 16

/-- The accumulator after the integral step, skipped where R62 says. -/
def stepAccumulator (delta : Int) (lastDemand : Nat) (curtailed : Bool) (acc : Nat) : Nat :=
  if (decide (0 < delta) && (decide (lastDemand = 32) || curtailed)) || (decide (delta < 0) && decide (lastDemand = 0)) then acc
  else (clampInt 0 8192 (acc + delta)).toNat

/-- The demand from the proportional part and the accumulator (R63). -/
def demandOf (cfg : Settings) (e : Int) (kp acc : Nat) : Nat :=
  let d := (clampInt 0 32 ((e * kp + acc + 128) / 256)).toNat
  if 1 ≤ d && decide (d < cfg.minRun) then (if 0 < e then cfg.minRun else 0) else d

/-- A NORMAL zone in REGULATING with a temperature (R61 to R63). -/
def regulate (cfg : Settings) (b : Bank) (e : Int) (x : Zone) : Zone :=
  let acc := stepAccumulator (integralStep e b.ki) x.lastDemand x.curtailed x.acc
  let d := demandOf cfg e b.kp acc
  { x with acc := acc, demand := d, lastDemand := d }

/-- A NORMAL zone in COLD_START with a temperature (R57). -/
def coldStartStep (cfg : Settings) (b : Bank) (e : Int) (x : Zone) : Zone :=
  match x.tc with
  | some t =>
    if cfg.coldFloor + 20 ≤ t then regulate cfg b e { x with mode := some .regulating, acc := cfg.warmPreset }
    else { x with acc := 0, demand := 32, lastDemand := 32 }
  | none => x

/-- The demand of a NORMAL zone by its mode and source (R57, R59, R61 to R64). -/
def normalDemand (cfg : Settings) (b : Bank) (e : Int) (x : Zone) : Zone :=
  match x.source with
  | some .holding => { x with demand := x.lastDemand }
  | some .fallback => { x with demand := cfg.fallbackDemand, lastDemand := cfg.fallbackDemand }
  | none => x
  | some _ =>
    match x.mode with
    | some .coldStart => coldStartStep cfg b e x
    | some .regulating => regulate cfg b e x
    | none => x

/-- The mode test and demand of one zone at a demand point in RUNNING; the curtailed flag is read and then cleared (R59). -/
def computeDemand (cfg : Settings) (line : LineState) (z : Index) (x : Zone) : Zone :=
  if (cfg.zone z).enabled then
    let b := applyingBank cfg line z
    let e := deficitOf b x
    let y :=
      if x.condition = .normal then normalDemand cfg b e x
      else { x with demand := 0, lastDemand := 0 }
    { y with deficit := e, curtailed := false }
  else x

/-- The demands of every zone at a demand point in RUNNING (R59, R60). -/
def computeDemands (cfg : Settings) (s : State) : State :=
  s.setZones (Six.ofFn fun z => computeDemand cfg s.peers.line.state z (s.zones.get z))

/-- What "demands ready" hands over (R59). -/
def handDemands (s : State) : Six Handed :=
  Six.ofFn fun z => { demand := (s.zones.get z).demand, deficit := (s.zones.get z).deficit, tc := (s.zones.get z).tc }

/-- The curtailment report taken (R65). -/
def takeCurtailment (listed : List Nat) (s : State) : State :=
  s.setZones (Six.ofFn fun z => { s.zones.get z with curtailed := decide (zoneNumber z ∈ listed) })

/-- The permits granted at a cycle boundary: every NORMAL zone has its permit (R38). -/
def grantPermits (s : State) : State :=
  s.setZones (Six.ofFn fun z =>
    if (s.zones.get z).condition = .normal then { s.zones.get z with permit := true } else s.zones.get z)

/-- A zone record when the fields are settled: a zone not enabled is DISABLED, and an enabled zone is not (R37, R66; assumption log
22). -/
def settleZone (enabled : Bool) (x : Zone) : Zone :=
  if enabled then
    if x.condition = .disabled then Zone.resetIn .normal else x
  else Zone.resetIn .disabled

end Sys2Proof.Machine
end

