-- ==== Sys2Proof/Machine/Placement.lean ====
section
/-! DEFINITION. The Load Placement Unit's own arithmetic (chapter 04): the slot load map, the budget, the computation, the yield
test, the freeze base, shedding and the ration. -/

namespace Sys2Proof.Machine

/-! ### The slot load map (R71 to R73) -/

/-- The load a contribution puts into a slot (R71, R90). -/
def Contribution.loadIn (c : Contribution) (k : Nat) : Nat :=
  match c.ration with
  | some r => r
  | none => (c.runs.map fun r => r.loadIn k).sum

/-- Whether a contributor has a contribution in a cell (R71). -/
def Contribution.inCell (c : Contribution) (k : Nat) : Bool := c.ration.isSome || c.runs.any fun r => r.covers k

/-- The total of a cell (R71). -/
def cellTotal (m : List Contribution) (k : Nat) : Nat := min 65535 (m.map fun c => c.loadIn k).sum

/-- The contributions other than the own (R76). -/
def othersOf (m : List Contribution) : List Contribution := m.filter fun c => decide (c.source ≠ .own)

/-- The own contribution, if any. -/
def ownOf (m : List Contribution) : Option Contribution := m.find? fun c => decide (c.source = .own)

/-- The map with the own contribution replaced (R71). -/
def setOwn (runs : List Run) (order : Nat) (m : List Contribution) : List Contribution :=
  { source := .own, order := order, runs := runs, ration := none } :: othersOf m

/-- The map with a peer's contribution replaced (R71). -/
def setPeer (address : Nat) (runs : List Run) (order : Nat) (m : List Contribution) : List Contribution :=
  (m.filter fun c => decide (c.source ≠ .peer address)) ++
    [{ source := .peer address, order := order, runs := runs, ration := none }]

/-- The map with a silent peer's ration (R90). -/
def setRation (cfg : Settings) (m : List Contribution) (address : Nat) : List Contribution :=
  (m.filter fun c => decide (c.source ≠ .peer address)) ++
    [{ source := .peer address, order := 0, runs := [], ration := some cfg.ration }]

/-- The own contribution is latest in a cell (R73). -/
def ownLatest (m : List Contribution) (k : Nat) : Bool :=
  match ownOf m with
  | none => false
  | some o => o.inCell k && (othersOf m).all fun c => !c.inCell k || decide (c.order ≤ o.order)

/-- The order counter advanced (R72). -/
def advanceOrder (p : PlacementUnit) : PlacementUnit := { p with orderCounter := saturate 255 (p.orderCounter + 1) }

/-- The yield test fails: in some cell where the own placement has a run the total exceeds B and the own contribution is latest
(R82). -/
def yieldFails (cfg : Settings) (m : List Contribution) : Bool :=
  slots.any fun k => ownLatest m k && decide (cfg.budget < cellTotal m k)

/-! ### Budget (R75) -/

/-- The effective budget of a computation (R75). -/
def effectiveBudget (cfg : Settings) (sag incomplete : Bool) : Nat :=
  cfg.budget * (100 - if sag then cfg.sagDerate else 0) / 100 - if incomplete then cfg.blindMargin else 0

/-- The freeze limit (R75). -/
def freezeLimit (cfg : Settings) (incomplete : Bool) : Nat := cfg.budget - if incomplete then cfg.blindMargin else 0

/-! ### Loads and surcharges (R69, R70) -/

/-- The announced load of a run for a zone not STUCK_ON (R69). -/
def announcedLoad (cfg : Settings) (now : Cycle) (z : Index) (m : Measurement) : Nat :=
  match m.lastOn with
  | none => (cfg.zone z).ratedLu
  | some l => if (now - l.cycle).toNat ≤ 3 then max 1 l.load else (cfg.zone z).ratedLu

/-- The load of a STUCK_ON run (R69). -/
def stuckLoad (cfg : Settings) (z : Index) (m : Measurement) : Nat :=
  match m.load with
  | none => (cfg.zone z).ratedLu
  | some l => max 1 l

/-- A zone continues from slot 31 (R70). -/
def continuesFrom31 (current : List Run) (z : Index) (x : Zone) : Bool :=
  x.permit &&
    match runOf current z with
    | none => false
    | some r => r.covers 31

/-- The inrush multiplier in eighths (R70). -/
def inrushMultiplier (cfg : Settings) (tc : Option Int) : Nat :=
  match tc with
  | none => cfg.inrushCold
  | some t =>
    if t ≤ cfg.tCold then cfg.inrushCold
    else if cfg.tWarm ≤ t then 8
    else 8 + ceilDiv ((cfg.inrushCold - 8) * (cfg.tWarm - t).toNat) (cfg.tWarm - cfg.tCold).toNat

/-- The surcharge of a run that is charged one (R70). -/
def surchargeOf (load m : Nat) : Nat := min 255 (ceilDiv (load * (m - 8)) 8)

/-- The inputs of a computation for one zone (R69, R70, R76, R77). -/
def zoneInput (cfg : Settings) (s : State) (z : Index) : ZoneInput :=
  let x := s.zones.get z
  let m := s.scanner.zones.get z
  let h := s.placement.handed.map fun h => h.get z
  let demand := (h.map Handed.demand).getD 0
  let load := announcedLoad cfg s.timeBase.cycle z m
  { stuck := decide (x.condition = .stuckOn)
    placed := decide (s.supervisor.station = .running) && decide (x.condition = .normal) && decide (0 < demand)
    demand := demand
    deficit := (h.map Handed.deficit).getD 0
    load := load
    stuckLoad := stuckLoad cfg z m
    surcharge := surchargeOf load (inrushMultiplier cfg (h.bind Handed.tc))
    continues := continuesFrom31 s.placement.current z x }

/-- The inputs of a computation, taken at its start (R76). -/
def computationInputs (cfg : Settings) (s : State) : Computation where
  budget := effectiveBudget cfg (sagActive s.placement) (viewIncomplete s)
  others := othersOf s.placement.map
  zones := Six.ofFn (zoneInput cfg s)

/-- A computation begins, where one may: the station is RUNNING or HELD and none is in flight (R76, R80). -/
def beginComputation (cfg : Settings) (s : State) : State :=
  if (decide (s.supervisor.station = .running) || decide (s.supervisor.station = .held)) && !mapInUse s.placement then
    s.setPlacement { s.placement with computation := some (computationInputs cfg s) }
  else s

/-! ### The search (R77 to R79) -/

/-- Insertion into a list of zones in descending order of deficit; an equal deficit goes after those already there (R77). -/
def insertByDeficit (c : Computation) (z : Index) : List Index → List Index
  | [] => [z]
  | y :: ys => if (c.zones.get y).deficit < (c.zones.get z).deficit then z :: y :: ys else y :: insertByDeficit c z ys

/-- The zones to be placed that are not STUCK_ON, in the order they are placed (R77). -/
def placingOrder (c : Computation) : List Index :=
  (indexes.filter fun z => (c.zones.get z).placed && !(c.zones.get z).stuck).foldl (fun l z => insertByDeficit c z l) []

/-- The preferred start of a zone (R78). -/
def preferredStart (cfg : Settings) (z : Index) : Nat := (cfg.address * 7 + zoneNumber z * 5) % 32

/-- The candidate starts of a zone in order, each with its surcharge (R78). -/
def candidates (cfg : Settings) (z : Index) (i : ZoneInput) : List (Nat × Nat) :=
  let starts := slots.map fun j => ((preferredStart cfg z + j) % 32, i.surcharge)
  if i.continues then (0, 0) :: starts.filter (fun p => decide (p.1 ≠ 0)) else starts

/-- A candidate fits the totals so far (R78). -/
def fits (budget : Nat) (totals : List Nat) (r : Run) : Bool :=
  slots.all fun k => !r.covers k || decide (totals.getD k 0 + r.loadIn k ≤ budget)

/-- The run of a candidate. -/
def candidateRun (z : Index) (i : ZoneInput) (length : Nat) (p : Nat × Nat) : Run where
  zone := zoneNumber z
  start := p.1
  length := length
  load := i.load
  surcharge := p.2
  stuck := false

/-- The lengths tried, from the demand down to `min_run`; a shorter demand is tried alone (R79). -/
def lengthsTried (minRun demand : Nat) : List Nat :=
  if demand < minRun then [demand] else (List.range (demand - minRun + 1)).map fun j => demand - j

/-- The first candidate that fits, over the lengths and the starts in order (R78, R79). -/
def searchRun (cfg : Settings) (budget : Nat) (totals : List Nat) (z : Index) (i : ZoneInput) : Option Run :=
  (lengthsTried cfg.minRun i.demand).findSome? fun len =>
    ((candidates cfg z i).map (candidateRun z i len)).find? (fits budget totals)

/-- The totals of the working copy with a run added (R77). -/
def addRun (totals : List Nat) (r : Run) : List Nat := slots.map fun k => min 65535 (totals.getD k 0 + r.loadIn k)

/-- The run of a STUCK_ON zone (R78). -/
def stuckRun (z : Index) (load : Nat) : Run where
  zone := zoneNumber z
  start := 0
  length := 32
  load := load
  surcharge := 0
  stuck := true

/-- One zone placed: the totals and the result so far, with the zone's run or without (R77 to R79). -/
def placeZone (cfg : Settings) (c : Computation) (acc : List Nat × Working) (z : Index) : List Nat × Working :=
  let i := c.zones.get z
  match searchRun cfg c.budget acc.1 z i with
  | none => (acc.1, { acc.2 with curtailed := acc.2.curtailed ++ [zoneNumber z] })
  | some r =>
    (addRun acc.1 r,
      { runs := acc.2.runs ++ [r]
        curtailed := if r.length < i.demand then acc.2.curtailed ++ [zoneNumber z] else acc.2.curtailed })

/-- The result of a computation (R77 to R79). -/
def computeResult (cfg : Settings) (c : Computation) : Working :=
  let stuck := (indexes.filter fun z => (c.zones.get z).stuck).map fun z => stuckRun z (c.zones.get z).stuckLoad
  let totals := stuck.foldl addRun (slots.map fun k => cellTotal c.others k)
  ((placingOrder c).foldl (placeZone cfg c) (totals, { runs := stuck, curtailed := [] })).2

/-! ### The freeze (R89 to R94) -/

/-- Two runs agree in zone, start, length, load and surcharge (R89). -/
def sameRun (a b : Run) : Bool :=
  decide (a.zone = b.zone ∧ a.start = b.start ∧ a.length = b.length ∧ a.load = b.load ∧ a.surcharge = b.surcharge)

/-- The base of the freeze with its order, and whether it counts as announced (R89). From an address clash on, no own placement counts as
announced; that the base is then the one of the last row of R89 is DESIGN CHOICE (R156; assumption log 47). -/
def freezeBase (peersKnown clash : Bool) (p : PlacementUnit) : List Run × Nat × Bool :=
  let working := (p.working.map Working.runs).getD []
  if clash then (working, Config.ownOrder, false)
  else
    match p.announced, p.request with
    | some a, .none => (a.runs, a.order, true)
    | some a, .cancelRecorded _ => (a.runs.filter (fun r => p.requestRuns.any (sameRun r)), a.order, true)
    | some _, _ => (working, Config.ownOrder, false)
    | none, _ => (working, Config.ownOrder, decide (p.lastFailure = some .noAck) && !peersKnown)

/-- A run cut from a cell to its end; cut at its first slot it is removed whole (R91). -/
def cutRun (k : Nat) (r : Run) : Option Run :=
  let keep := (k + 32 - r.start) % 32
  if keep = 0 then none else some { r with length := keep }

/-- The runs with one zone's run cut from a cell (R91). -/
def cutZone (k zone : Nat) (runs : List Run) : List Run :=
  runs.filterMap fun r => if r.zone = zone then cutRun k r else some r

/-- Shedding in one cell: the zones of the runs in reverse placement order, each cut in turn while the total exceeds the limit
(R91). -/
def shedCell (limit order k : Nat) (others : List Contribution) : List Nat → List Run → List Run
  | [], runs => runs
  | zone :: zones, runs =>
    if limit < cellTotal (setOwn runs order others) k && runs.any (fun r => decide (r.zone = zone) && r.covers k && !r.stuck) then
      shedCell limit order k others zones (cutZone k zone runs)
    else shedCell limit order k others zones runs

/-- Shedding over the cells in turn, where the own contribution is latest (R91). -/
def shed (limit order : Nat) (others : List Contribution) (runs : List Run) : List Run :=
  slots.foldl (fun rs k =>
    if ownLatest (setOwn rs order others) k then shedCell limit order k others (rs.reverse.map Run.zone) rs else rs) runs

/-- The own load of runs without the stuck mark stays within the ration in every cell (R92). -/
def withinRation (ration : Nat) (runs : List Run) : Bool :=
  slots.all fun k => decide (((runs.filter fun r => !r.stuck).map fun r => r.loadIn k).sum ≤ ration)

/-- Whole runs removed in reverse placement order until the rest is within the ration: the zones to try, and the runs (R92). -/
def rationRuns (ration : Nat) : List Nat → List Run → List Run
  | [], runs => runs
  | zone :: zones, runs =>
    if withinRation ration runs then runs
    else rationRuns ration zones (runs.filter fun r => r.stuck || decide (r.zone ≠ zone))

/-- The runs of an unannounced base, with the unannounced count after its increase (R92). -/
def unannouncedRuns (cfg : Settings) (count : Nat) (runs : List Run) : List Run :=
  if cfg.silentLimit ≤ count then runs.filter Run.stuck
  else rationRuns cfg.ration ((runs.filter fun r => !r.stuck).reverse.map Run.zone) runs

/-- A placement adjusted to a zone that is STUCK_ON and has no run with the stuck mark (R93). -/
def addStuckRun (z : Index) (load : Nat) (runs : List Run) : List Run :=
  if runs.any fun r => decide (r.zone = zoneNumber z) && r.stuck then runs
  else stuckRun z load :: runs.filter fun r => decide (r.zone ≠ zoneNumber z)

/-- A run with the stuck mark whose zone is no longer STUCK_ON is removed (R93, R96). -/
def dropReleased (s : State) (runs : List Run) : List Run :=
  runs.filter fun r =>
    !r.stuck || indexes.any fun z => decide (zoneNumber z = r.zone) && decide ((s.zones.get z).condition = .stuckOn)

/-- The placement adjusted to the STUCK_ON zones at the freeze; zones added are placed first, in order of zone number (R93;
assumption log 20). -/
def adjustStuck (cfg : Settings) (s : State) (runs : List Run) : List Run :=
  indexes.reverse.foldl (fun rs z =>
    if (s.zones.get z).condition = .stuckOn then addStuckRun z (stuckLoad cfg z (s.scanner.zones.get z)) rs else rs)
    (dropReleased s runs)

/-- A zone is listed in the curtailment report (R94). -/
def listedCurtailed (s : State) (frozen : List Run) (z : Index) : Bool :=
  let demand := ((s.placement.handed.map fun h => h.get z).map Handed.demand).getD 0
  decide ((s.zones.get z).condition = .normal) && decide (0 < demand) &&
    (((s.placement.working.map Working.curtailed).getD []).any (fun n => decide (n = zoneNumber z)) ||
      match runOf frozen z with
      | none => true
      | some r => decide (r.length < demand))

/-- The zones of the curtailment report (R94). -/
def curtailmentReport (s : State) (frozen : List Run) : List Nat :=
  (indexes.filter (listedCurtailed s frozen)).map zoneNumber

end Sys2Proof.Machine
end

