-- ==== Sys2Proof/Machine/Ring.lean ====
section
/-! DEFINITION. The transmit ring and the TIME mailbox (chapter 08): requests, cancels, withdrawals, releases. -/

namespace Sys2Proof.Machine

/-- The descriptor after another in circular order (R158). -/
def nextIndex (i : Index) : Index := i + 1

/-- A READY descriptor with a request's producer and frame (R158). -/
def readyDescriptor (p : Producer) (payload : List Byte) : Descriptor where
  state := .ready
  reason := none
  producer := some p
  payload := payload
  cancel := false

/-- A request given the descriptor at the fill position (R158). -/
def fillRing (p : Producer) (payload : List Byte) (r : Ring) : Ring :=
  { r with
    descriptors := r.descriptors.set r.fill (readyDescriptor p payload)
    fill := nextIndex r.fill
    occupancy := r.occupancy + 1 }

/-- The ring has no FREE descriptor (R158). -/
def ringFull (r : Ring) : Bool := decide (Config.ringSize ≤ r.occupancy)

/-- A descriptor of the occupied span (R158). -/
def occupied (r : Ring) (i : Index) : Bool := decide ((i.val + 6 - r.head.val) % 6 < r.occupancy)

/-- The ring holds a STATUS descriptor that is READY or SENDING (R159). -/
def statusStanding (r : Ring) : Bool :=
  indexes.any fun i =>
    let d := r.descriptors.get i
    decide (d.producer = some .status) && (decide (d.state = .ready) || decide (d.state = .sending))

/-- The ring refuses a STATUS request (R159). -/
def refusesStatus (r : Ring) : Bool := ringFull r || statusStanding r

/-- A PLACE or LINE request put at the tail of the waiting list (R159). -/
def putWaiting (p : Producer) (payload : List Byte) (r : Ring) : Ring :=
  { r with waiting := r.waiting ++ [{ producer := p, payload := payload }] }

/-- A WAITING request withdrawn (R163). -/
def withdrawWaiting (p : Producer) (r : Ring) : Ring :=
  { r with waiting := r.waiting.filter fun w => decide (w.producer ≠ p) }

/-- One descriptor replaced. -/
def setDescriptor (r : Ring) (i : Index) (d : Descriptor) : Ring := { r with descriptors := r.descriptors.set i d }

/-- A descriptor completed DONE_FAIL with a reason. -/
def failDescriptor (reason : FailReason) (d : Descriptor) : Descriptor := { d with state := .doneFail, reason := some reason }

/-- The answer to a cancel (R162). -/
inductive CancelAnswer where
  | voided
  | recorded
  deriving DecidableEq, Repr

/-- The ring after a cancel, with its answer; `onLine` says that an attempt of the ring frame is in progress (R162). A VOID
descriptor at the head completes CANCELLED when the head is next served (R160). -/
def cancelDescriptor (i : Index) (onLine : Bool) (r : Ring) : Ring × CancelAnswer :=
  let d := r.descriptors.get i
  match d.state with
  | .ready => (setDescriptor r i { d with state := .void }, .voided)
  | .sending =>
    if onLine then (setDescriptor r i { d with cancel := true }, .recorded)
    else (setDescriptor r i (failDescriptor .cancelled { d with cancel := true }), .recorded)
  | .free => (r, .recorded)
  | .void => (r, .recorded)
  | .doneOk => (setDescriptor r i { d with cancel := true }, .recorded)
  | .doneFail => (setDescriptor r i { d with cancel := true }, .recorded)

/-- The head descriptor. -/
def headDescriptor (r : Ring) : Descriptor := r.descriptors.get r.head

/-- The head descriptor released to FREE (R161). -/
def freeHead (r : Ring) : Ring :=
  { r with
    descriptors := r.descriptors.set r.head Descriptor.freed
    head := nextIndex r.head
    occupancy := r.occupancy - 1 }

/-- READY and SENDING descriptors completed with reason DETACHED, wherever they stand (R151, R156, R164). -/
def detachDescriptor (d : Descriptor) : Descriptor :=
  match d.state with
  | .ready => failDescriptor .detached d
  | .sending => failDescriptor .detached d
  | .free => d
  | .void => d
  | .doneOk => d
  | .doneFail => d

/-- The ring and mailbox when the link leaves ACTIVE and PASSIVE for DETACHED or a clash: the mailbox is emptied (R151, R156,
R164, R165). -/
def detachRing (r : Ring) : Ring := { r with descriptors := r.descriptors.map detachDescriptor, mailbox := .empty }

/-- The Time Base's offer of a TIME frame; a started frame continues (R16, R165). -/
def offerTime (r : Ring) : Ring :=
  match r.mailbox with
  | .empty => { r with mailbox := .offered }
  | .offered => { r with mailbox := .offered }
  | .started => r

/-- An OFFERED frame expires at the first slot-boundary event after the one of its offer (R166). -/
def expireMailbox (r : Ring) : Ring :=
  match r.mailbox with
  | .empty => r
  | .offered => { r with mailbox := .empty }
  | .started => r

end Sys2Proof.Machine
end

