-- ==== Sys2Proof/Machine/Completions.lean ====
section
/-! DEFINITION. What passes between the producers and the transmit ring: requests, completions, releases, the service of the head,
the yield test and the completion of a computation (R81 to R87, R113, R114, R158 to R163, R172, R192). -/

namespace Sys2Proof.Machine

/-! ### The Load Placement Unit's completions -/

/-- A yield with no standing request: a recompute begins, or a revision while the announced revision is below 3 (R82, R85). -/
def yieldUnrequested (cfg : Settings) (s : State) : State :=
  match s.placement.announced with
  | none => beginComputation cfg s
  | some a => if a.revision < 3 then beginComputation cfg s else s

/-- The yield test while no request stands (R82, R84, R85). -/
def yieldIdle (cfg : Settings) (s : State) : State :=
  if inAnnounceWindow s.timeBase && yieldFails cfg s.placement.map then yieldUnrequested cfg s else s

/-- The own contribution returned to the announced placement at order o, when there is one (R81, R85, R86). -/
def returnAnnounced (p : PlacementUnit) : PlacementUnit :=
  match p.announced with
  | none => p
  | some a => { p with map := setOwn a.runs a.order p.map }

/-- The unit's request stands on a descriptor. -/
def requestOn (i : Index) : Request → Bool
  | .none => false
  | .waiting => false
  | .queued d => decide (d = i)
  | .cancelRecorded d => decide (d = i)

/-- An own PLACE frame completed DONE_OK and was numbered: the counts that change before and after the freeze alike (R84 steps 1,
3 and 4, R87). -/
def countSent (p : PlacementUnit) : PlacementUnit :=
  let q := advanceOrder p
  { q with
    request := .none
    revisionsSent := if 1 ≤ q.requestRevision then q.revisionsSent + 1 else q.revisionsSent }

/-- A placement becomes the announced one, with the own contribution (R84 steps 2 and 3). -/
def announce (p : PlacementUnit) : PlacementUnit :=
  { p with
    announced := some { runs := p.requestRuns, order := p.orderCounter, revision := p.requestRevision }
    map := setOwn p.requestRuns p.orderCounter p.map
    lastFailure := none }

/-- An own PLACE completion DONE_OK taken (R84, R87). -/
def takePlaceOk (cfg : Settings) (s : State) : State :=
  if afterFreeze s.timeBase then s.setPlacement (countSent s.placement)
  else yieldIdle cfg (s.setPlacement (announce (countSent s.placement)))

/-- The request ends at a failure; a cancel is no failure of the line (R86). -/
def endRequest (reason : FailReason) (p : PlacementUnit) : PlacementUnit :=
  { p with
    request := .none
    lastFailure := if reason = .cancelled then p.lastFailure else some reason }

/-- An own PLACE completion DONE_FAIL taken (R83, R86, R87). -/
def takePlaceFail (cfg : Settings) (reason : FailReason) (s : State) : State :=
  let p := endRequest reason s.placement
  if afterFreeze s.timeBase then s.setPlacement p
  else
    let s1 := s.setPlacement (returnAnnounced p)
    if reason = .cancelled then beginComputation cfg s1
    else if p.announced.isSome then yieldIdle cfg s1
    else s1

/-- A PLACE completion taken for a descriptor. One that belongs to no standing request changes nothing (R82, R86, R96; assumption
log 25). -/
def takePlace (cfg : Settings) (i : Index) (d : Descriptor) (s : State) : State :=
  if requestOn i s.placement.request then
    match d.reason with
    | none => takePlaceOk cfg s
    | some reason => takePlaceFail cfg reason s
  else s

/-! ### The release of a descriptor and requests (R158, R159, R161) -/

/-- A producer learns that its WAITING request has been given a descriptor (R159). -/
def noteQueued (p : Producer) (i : Index) (s : State) : State :=
  match p with
  | .place => s.setPlacement { s.placement with request := .queued i }
  | .line => s.setPeers { s.peers with flow := { s.peers.flow with request := .queued } }
  | .status => s

/-- One waiting request served (R159). -/
def serveWaiting (s : State) : State :=
  match s.ring.waiting with
  | [] => s
  | w :: ws => noteQueued w.producer s.ring.fill (s.setRing (fillRing w.producer w.payload { s.ring with waiting := ws }))

/-- The head descriptor released, and a waiting request served (R161). -/
def releaseHead (s : State) : State := serveWaiting (s.setRing (freeHead s.ring))

/-- The flow sender's LINE request: a descriptor or a place on the waiting list, with the contents of this moment (R113). -/
def putLine (change : Bool) (level : FlowLevel) (s : State) : State :=
  let f := s.peers.flow
  let held := decide (s.supervisor.station = .held)
  let payload := lineBytes level f.changeCycle change held s.timeBase.cycle
  if ringFull s.ring then
    (s.setRing (putWaiting .line payload s.ring)).setPeers
      { s.peers with flow := { f with request := .waiting, carried := some level, periodCount := 0 } }
  else
    (s.setRing (fillRing .line payload s.ring)).setPeers
      { s.peers with flow := { f with request := .queued, carried := some level, periodCount := 0 } }

/-- The confirmed level adopted locally (R113, R114). -/
def adoptOwn (cfg : Settings) (level : FlowLevel) (s : State) : State :=
  s.setPeers (adoptLine (lineOfLevel level) cfg.address s.peers)

/-- The period count of the flow sender begins again (R113). -/
def restartPeriod (s : State) : State := s.setPeers { s.peers with flow := { s.peers.flow with periodCount := 0 } }

/-- A LINE request made for a cause, where one may be made: the station is RUNNING, HELD or MAINS_LOST, the confirmed level is not
none and no request stands. A link that cannot send makes the station adopt its own level (R113). -/
def lineRequest (cfg : Settings) (change : Bool) (s : State) : State :=
  match s.peers.flow.confirmed with
  | none => s
  | some level =>
    if settledState s.supervisor.station && decide (s.peers.flow.request = .none) then
      if linkSends s.link.state then putLine change level s
      else restartPeriod (adoptOwn cfg level s)
    else s

/-- The level adopted at a LINE completion (R114). -/
def adoptedLevel (d : Descriptor) (f : FlowSender) : Option FlowLevel :=
  match d.reason with
  | none => f.carried
  | some _ => f.confirmed

/-- The report a station adopts at its LINE completion (R114). -/
def adoptCompleted (cfg : Settings) (d : Descriptor) (s : State) : State :=
  match adoptedLevel d s.peers.flow with
  | none => s
  | some level => adoptOwn cfg level s

/-- The LINE request ends (R114). -/
def clearLine (s : State) : State :=
  s.setPeers { s.peers with flow := { s.peers.flow with request := .none, carried := none } }

/-- A LINE completion taken, its descriptor released, and a new change request made when the confirmed level has moved on (R114). -/
def takeLine (cfg : Settings) (d : Descriptor) (s : State) : State :=
  let t := releaseHead (clearLine (adoptCompleted cfg d s))
  if s.peers.flow.confirmed ≠ s.peers.flow.carried then lineRequest cfg true t else t

/-- A STATUS completion taken: a failure sets the change mark and the refusal mark (R128, R192; assumption log 14). -/
def takeStatus (d : Descriptor) (s : State) : State :=
  match d.reason with
  | none => s
  | some _ => (markChange s).setQueue { s.queue with refusalMark := true }

/-! ### The service of the head (R160, R161) -/

/-- The head's completion reported to its producer and taken; a PLACE completion waits while a computation is in flight (R161,
R172). -/
def takeHead (cfg : Settings) (d : Descriptor) (s : State) : Option State :=
  match d.producer with
  | none => some (releaseHead s)
  | some .place =>
    if mapInUse s.placement then none else some (releaseHead (takePlace cfg s.ring.head d s))
  | some .line => some (takeLine cfg d s)
  | some .status => some (releaseHead (takeStatus d s))

/-- One piece of service of the head, or none where the head stands (R160). -/
def serviceOnce (cfg : Settings) (s : State) : Option State :=
  let d := headDescriptor s.ring
  match d.state with
  | .free => none
  | .sending => none
  | .ready =>
    if linkSends s.link.state then none
    else some (s.setRing (setDescriptor s.ring s.ring.head (failDescriptor .detached d)))
  | .void => some (s.setRing (setDescriptor s.ring s.ring.head (failDescriptor .cancelled d)))
  | .doneOk => takeHead cfg d s
  | .doneFail => takeHead cfg d s

/-- The head served, at most `fuel` pieces of service. -/
def serviceSteps (cfg : Settings) : Nat → State → State
  | 0, s => s
  | fuel + 1, s =>
    match serviceOnce cfg s with
    | none => s
    | some s1 => serviceSteps cfg fuel s1

/-- The head served until it stands. Six descriptors, two waiting requests and one new LINE request need at most two pieces of
service each (R160, R161). -/
def serviceHead (cfg : Settings) (s : State) : State := serviceSteps cfg 24 s

/-! ### The yield test with a standing request (R82, R83) -/

/-- An attempt of the ring frame is in progress (R162). -/
def ringOnLine (s : State) : Bool := s.link.attempt.isSome && decide (s.link.inHand = some .ring)

/-- A ring frame that completed between attempts is dropped from the transmit engine (R136). -/
def dropRingFrame (s : State) : State :=
  if decide (s.link.inHand = some .ring) && !ringOnLine s && decide ((headDescriptor s.ring).state ≠ .sending) then
    s.setLink { s.link with inHand := none }
  else s

/-- The head served after a cancel of its own descriptor. A cancel behind the head changes nothing at the head (R160, R162). -/
def serviceIfHead (cfg : Settings) (i : Index) (s : State) : State := if i = s.ring.head then serviceHead cfg s else s

/-- The unit's QUEUED request cancelled: the ring's answer decides between NONE and CANCEL_RECORDED, and a cancelled head is served
(R82, R162). The Boolean says that the answer was "voided". -/
def cancelRequest (cfg : Settings) (i : Index) (s : State) : State × Bool :=
  match cancelDescriptor i (ringOnLine s) s.ring with
  | (r, .voided) => (serviceIfHead cfg i ((s.setRing r).setPlacement { s.placement with request := .none }), true)
  | (r, .recorded) =>
    (serviceIfHead cfg i (dropRingFrame ((s.setRing r).setPlacement { s.placement with request := .cancelRecorded i })), false)

/-- A yield, by the request (R82, R83, R85). A voided head's completion is taken before the recompute begins (assumption log 26). -/
def yieldBy (cfg : Settings) (s : State) : State :=
  match s.placement.request with
  | .none => yieldUnrequested cfg s
  | .waiting =>
    let s1 := s.setRing (withdrawWaiting .place s.ring)
    beginComputation cfg (s1.setPlacement (returnAnnounced { s.placement with request := .none }))
  | .queued i =>
    match cancelRequest cfg i s with
    | (s1, true) => beginComputation cfg (s1.setPlacement (returnAnnounced s1.placement))
    | (s1, false) => s1
  | .cancelRecorded _ => s

/-- The yield test (R82). -/
def yieldTest (cfg : Settings) (s : State) : State :=
  if inAnnounceWindow s.timeBase && yieldFails cfg s.placement.map then yieldBy cfg s else s

/-! ### The completion of a computation (R81, R172) -/

/-- The payload of an own PLACE frame (R81, R125). -/
def ownPlaceBytes (cfg : Settings) (revision : Nat) (runs : List Run) (s : State) : List Byte :=
  placeBytes ((s.timeBase.cycle + 1).setWidth 8) revision (viewIncomplete s) (sagActive s.placement)
    (decide (s.supervisor.station = .held)) (upstreamEnd cfg s) (downstreamEnd cfg s) runs

/-- The revision number of the next request (R81). -/
def nextRevision (p : PlacementUnit) : Nat :=
  match p.announced with
  | none => 0
  | some a => a.revision + 1

/-- A PLACE frame requested from the ring (R81, R159). -/
def putPlace (cfg : Settings) (runs : List Run) (s : State) : State :=
  let revision := nextRevision s.placement
  let payload := ownPlaceBytes cfg revision runs s
  if ringFull s.ring then
    (s.setRing (putWaiting .place payload s.ring)).setPlacement
      { s.placement with request := .waiting, requestRuns := runs, requestRevision := revision }
  else
    (s.setRing (fillRing .place payload s.ring)).setPlacement
      { s.placement with request := .queued s.ring.fill, requestRuns := runs, requestRevision := revision }

/-- The result equals the announced placement run for run (R81; assumption log 19). -/
def equalsAnnounced (p : PlacementUnit) (runs : List Run) : Bool :=
  match p.announced with
  | none => false
  | some a => decide (a.runs = runs)

/-- The decision on a request at a computation's completion. A result equal to the announced placement returns the own contribution to
order o, whatever the link state (R72, R81). -/
def decideRequest (cfg : Settings) (runs : List Run) (s : State) : State :=
  if equalsAnnounced s.placement runs then s.setPlacement (returnAnnounced s.placement)
  else if linkSends s.link.state && decide (s.placement.request = .none) then putPlace cfg runs s
  else s

/-- An own PLACE completion that the ring has reported at its head is taken and released, whether or not a computation is in flight
(R161, R172). -/
def takeReported (cfg : Settings) (s : State) : State :=
  let d := headDescriptor s.ring
  if decide (d.producer = some .place) && (decide (d.state = .doneOk) || decide (d.state = .doneFail)) then
    releaseHead (takePlace cfg s.ring.head d s)
  else s

/-- A computation in flight completes: its result is taken, a request is decided on and the yield test runs, with the recompute it may
begin; then the PLACE completion held meanwhile is taken, although a new computation may be in flight, and a completion that its release
brings to the head waits for that one (R81, R82, R161, R172). -/
def completeComputation (cfg : Settings) (s : State) : State :=
  match s.placement.computation with
  | none => s
  | some c =>
    let w := computeResult cfg c
    let s1 := s.setPlacement
      { s.placement with computation := none, working := some w, map := setOwn w.runs Config.ownOrder s.placement.map }
    serviceHead cfg (takeReported cfg (yieldTest cfg (decideRequest cfg w.runs s1)))

end Sys2Proof.Machine
end

