-- ==== Sys2Proof/Machine/Supervisor.lean ====
section
/-! DEFINITION. The Station Supervisor (chapter 09): the mains record, the decisions at a cycle boundary, gate drive, and STATUS with
its payload (chapter 06, R129, R130). -/

namespace Sys2Proof.Machine

/-! ### Loss of mains (R182, R183) -/

/-- The mains-lost mark set at a loss or collapse report, with the recovery count at 0 (R182). -/
def noteLoss (s : State) : State := s.setSupervisor { s.supervisor with mainsLost := true, recovery := 0 }

/-- The entry into MAINS_LOST: every gate off at once, the step record cleared, the change mark set (R183). -/
def enterMainsLost (s : State) : State :=
  let s1 := setStation (allGatesOff s) .mainsLost
  s1.setSupervisor { s1.supervisor with stepRecord := false }

/-- A loss of zero-cross or a collapse report taken by the supervisor (R182, R183). -/
def setMainsLost (s : State) : State :=
  match s.supervisor.station with
  | .configFault => s
  | .running => enterMainsLost (noteLoss s)
  | .held => enterMainsLost (noteLoss s)
  | .starting => noteLoss s
  | .listening => noteLoss s
  | .mainsLost => noteLoss s

/-- The recovery count at a crossing (R182). -/
def recoveryAfter (s : State) : Nat := if aboveSag s then saturate 8 (s.supervisor.recovery + 1) else 0

/-- A crossing reported to the supervisor (R182). -/
def reportCrossing (s : State) : State :=
  let n := recoveryAfter s
  s.setSupervisor { s.supervisor with recovery := n, mainsLost := s.supervisor.mainsLost && decide (n ≠ 8) }

/-! ### The decisions at a cycle boundary (R178, R179) -/

/-- A cycle boundary in LISTENING: the join count, and the end of the join (R178). -/
def joinBoundary (cfg : Settings) (s : State) : State :=
  let n := saturate 16 (s.supervisor.joinCount + 1)
  let s1 := s.setSupervisor { s.supervisor with joinCount := n }
  if cfg.joinCycles ≤ n && !s.supervisor.mainsLost then setStation s1 .running else s1

/-- The change of station state at a cycle boundary (R179). -/
def boundaryDecision (cfg : Settings) (s : State) : State :=
  match s.supervisor.station with
  | .starting => s
  | .configFault => s
  | .listening => joinBoundary cfg s
  | .running => if s.supervisor.holdRequest then setStation s .held else s
  | .held =>
    if s.supervisor.stepRecord then
      let s1 := setStation s .running
      s1.setSupervisor { s1.supervisor with stepRecord := false }
    else s
  | .mainsLost =>
    if s.supervisor.mainsLost then s else setStation s (if s.supervisor.holdRequest then .held else .running)

/-! ### Gate drive (R185) -/

/-- The level R185 gives a gate at the event of a slot. -/
def gateLevel (s : State) (slot : Nat) (z : Index) : Bool :=
  decide (s.supervisor.station = .running) && decide ((s.zones.get z).condition = .normal) && (s.zones.get z).permit &&
    match runOf s.placement.current z with
    | none => false
    | some r => r.covers slot

/-- Every gate set at a slot-boundary event (R185). -/
def driveGates (slot : Nat) (s : State) : State := setGates s (Six.ofFn (gateLevel s slot))

/-! ### The STATUS payload (R129, R130) -/

/-- The code of the station state. -/
def stationCode : StationState → Nat
  | .starting => 0
  | .configFault => 1
  | .listening => 2
  | .running => 3
  | .held => 4
  | .mainsLost => 5

/-- The code of the reset cause. -/
def causeCode : ResetKind → Nat
  | .powerOn => 0
  | .supplyDip => 1
  | .clockStop => 2
  | .external => 3

/-- The code of the link state. -/
def linkCode : LinkState → Nat
  | .active => 0
  | .passive => 1
  | .detached => 2
  | .listenOnly => 3

/-- The code of a zone's condition. -/
def conditionCode : Condition → Nat
  | .disabled => 0
  | .normal => 1
  | .tripped => 2
  | .openFault => 3
  | .stuckOn => 4

/-- The code of a zone's mode. -/
def modeCode : Option Mode → Nat
  | none => 0
  | some .coldStart => 1
  | some .regulating => 2

/-- The code of a zone's source. -/
def sourceCode : Option Source → Nat
  | none => 0
  | some .own => 1
  | some .substitute => 2
  | some .holding => 3
  | some .fallback => 4

/-- The code of the sync state. -/
def syncCode : SyncState → Nat
  | .synced => 0
  | .drifting => 1
  | .freeRunning => 2

/-- The code of the line state. -/
def lineCode : LineState → Nat
  | .unknown => 0
  | .flowing => 1
  | .standing => 2

/-- The byte of a zone's three facets (R129). -/
def zoneByte (x : Zone) : Byte := BitVec.ofNat 8 (32 * conditionCode x.condition + 8 * modeCode x.mode + sourceCode x.source)

/-- The control temperature reported: absent while the channel is UNSEEDED or FAULTED (R130). -/
def controlTemperature (c : Channel) : Option Int :=
  match c.state with
  | .unseeded => none
  | .tracking => c.filtered
  | .faulted => none

/-- Byte 0 of the payload (R129). -/
def statusByte0 (s : State) : Byte :=
  BitVec.ofNat 8 (128 * s.queue.refusalMark.toNat + 32 * linkCode s.link.state + 8 * causeCode s.supervisor.cause +
    stationCode s.supervisor.station)

/-- Byte 21 of the payload (R129). -/
def statusByte21 (s : State) : Byte :=
  BitVec.ofNat 8 (128 * (sagActive s.placement).toNat + 64 * (viewIncomplete s).toNat + 16 * syncCode s.timeBase.sync +
    4 * lineCode s.peers.line.state + 2 * s.supervisor.contactorLatch.toNat + s.link.clash.toNat)

/-- Byte 23 of the payload (R129). -/
def statusByte23 (s : State) : Byte := BitVec.ofNat 8 (4 * peerCount s.peers + s.placement.revisionsBefore)

/-- The STATUS payload, 24 bytes, from the state of each block (R129, R130). -/
def statusBytes (s : State) : List Byte :=
  [statusByte0 s, BitVec.ofNat 8 s.link.tec, BitVec.ofNat 8 s.link.recv] ++
    indexes.map (fun z => zoneByte (s.zones.get z)) ++
    indexes.flatMap (fun z => temperatureBytes (controlTemperature (s.scanner.control.get z))) ++
    [statusByte21 s, BitVec.ofNat 8 s.queue.overflow, statusByte23 s]

/-! ### The status point (R190, R191) -/

/-- A STATUS frame is due (R191). -/
def statusDue (cfg : Settings) (v : Supervisor) : Bool := v.changeMark || decide (cfg.statusPeriod ≤ v.periodCount)

/-- A STATUS frame requested: the payload takes the refusal mark, which is then cleared (R128, R191). -/
def putStatus (s : State) : State :=
  ((s.setRing (fillRing .status (statusBytes s) s.ring)).setQueue { s.queue with refusalMark := false }).setSupervisor
    { s.supervisor with periodCount := 0, changeMark := false }

/-- The status point in RUNNING, HELD or MAINS_LOST (R190, R191). -/
def statusPoint (cfg : Settings) (s : State) : State :=
  if settledState s.supervisor.station then
    let s1 := s.setSupervisor { s.supervisor with periodCount := saturate 255 (s.supervisor.periodCount + 1) }
    if statusDue cfg s1.supervisor && !refusesStatus s1.ring then serviceHead cfg (putStatus s1) else s1
  else s

end Sys2Proof.Machine
end

