-- ==== Sys2Proof/Machine/TimeBase.lean ====
section
/-! DEFINITION. The Time Base on its own record (chapter 01): the election, the sync record, the numbers of a TIME correction. -/

namespace Sys2Proof.Machine

/-! ### Positions (R4, R5) -/

/-- The number of mains cycles in a heating cycle, L. -/
def cycleLength (cfg : Settings) : Nat := 32 * cfg.slotLen

/-- The slot of a position. -/
def slotOf (cfg : Settings) (position : Nat) : Nat := position / cfg.slotLen

/-- The slot that follows the taken slot. -/
def nextSlot (t : TimeBase) : Nat := (t.takenSlot + 1) % 32

/-- A move from one position to another enters the slot that follows the taken slot (R5; assumption log 31). -/
def entersNext (cfg : Settings) (t : TimeBase) (p q : Nat) : Bool :=
  decide (slotOf cfg p ≠ slotOf cfg q) && decide (slotOf cfg q = nextSlot t)

/-- A position moved by a signed number of mains cycles, modulo L (R11, R12). -/
def movePosition (cfg : Settings) (p : Nat) (m : Int) : Nat := ((p + m) % (cycleLength cfg : Int)).toNat

/-! ### Reference election (R14) -/

/-- The lower of an address and a field that may be empty. -/
def lowerOf (a : Nat) : Option Nat → Nat
  | none => a
  | some b => min a b

/-- The reference elected: the lowest of the own address and the two heard-address fields (R14). -/
def elect (cfg : Settings) (t : TimeBase) : TimeBase :=
  { t with reference := some (lowerOf (lowerOf cfg.address t.heardNow) t.heardBefore) }

/-- The address of a valid frame given to the election (R14). -/
def hearAddress (cfg : Settings) (a : Nat) (t : TimeBase) : TimeBase :=
  elect cfg { t with heardNow := some (lowerOf a t.heardNow) }

/-- The fields at a cycle boundary, and the election after it (R6 step 3). -/
def shiftHeard (cfg : Settings) (t : TimeBase) : TimeBase :=
  elect cfg { t with heardBefore := t.heardNow, heardNow := none }

/-- The join flag looked at when the station passes from LISTENING to RUNNING (R15). -/
def checkJoinFlag (cfg : Settings) (t : TimeBase) : TimeBase :=
  if t.joinFlag then { t with joinFlag := false }
  else elect cfg { t with heardNow := none, heardBefore := none, joinFlag := false }

/-! ### The sync record (R6, R17) -/

/-- The good-TIME age is 0 or 1 (R17). -/
def goodRecently (t : TimeBase) : Bool :=
  match t.goodAge with
  | none => false
  | some a => decide (a ≤ 1)

/-- The sync state evaluated (R17). -/
def evalSync (cfg : Settings) (station : StationState) (t : TimeBase) : TimeBase :=
  { t with
    sync :=
      if isReference cfg station t || goodRecently t then .synced
      else if cfg.syncTimeout ≤ t.timeAge then .freeRunning
      else .drifting }

/-- The ages at a cycle boundary (R6 step 2). -/
def ageTimes (t : TimeBase) : TimeBase :=
  { t with timeAge := saturate 255 (t.timeAge + 1), goodAge := t.goodAge.map fun a => saturate 255 (a + 1) }

/-- The cycle number at a cycle boundary (R6 step 1). -/
def nextCycle (t : TimeBase) : TimeBase := { t with cycle := t.cycle + 1 + t.pendingOffset, pendingOffset := 0 }

/-- The Time Base's own steps at a cycle boundary, R6 steps 1 to 4. `counted` is false for the landing of an outright correction,
which has adopted its cycle number already (R11). -/
def cycleTimes (cfg : Settings) (station : StationState) (counted : Bool) (t : TimeBase) : TimeBase :=
  evalSync cfg station (shiftHeard cfg (ageTimes (if counted then nextCycle t else t)))

/-! ### TIME frames (R9 to R13) -/

/-- A TIME frame is used for alignment (R9). The station state and the Length have been tested before. -/
def timeUsed (cfg : Settings) (source : Nat) (p : TimePayload) (t : TimeBase) : Bool :=
  decide (t.reference = some source) && decide (source ≠ cfg.address) && decide (p.slotLen = cfg.slotLen) &&
    decide (p.frequency = frequencyCode t.mainsClass) && decide (p.slot ≤ 31) && decide (p.mainsIndex < cfg.slotLen)

/-- The sender's position (R10). -/
def senderPosition (cfg : Settings) (p : TimePayload) : Nat := p.slot * cfg.slotLen + p.mainsIndex

/-- The phase error of a raw difference (R10). -/
def phaseError (cfg : Settings) (d : Int) : Int :=
  let l := (cycleLength cfg : Int)
  if l / 2 < d then d - l else if d < -(l / 2 - 1) then d + l else d

/-- The expected sender cycle of a raw difference (R10). -/
def expectedCycle (cfg : Settings) (d : Int) (c : Cycle) : Cycle :=
  let l := (cycleLength cfg : Int)
  if l / 2 < d then c - 1 else if d < -(l / 2 - 1) then c + 1 else c

/-- What a used TIME frame gives: the phase error and the cycle offset (R10). -/
structure Correction where
  phase : Int
  offset : Cycle
  deriving DecidableEq, Repr

/-- The correction of a used TIME frame with its timestamp (R10). -/
def correctionOf (cfg : Settings) (p : TimePayload) (stamp : Timestamp) : Correction :=
  let d := (senderPosition cfg p : Int) - stamp.position
  { phase := phaseError cfg d, offset := p.cycle - expectedCycle cfg d stamp.cycle }

/-- The ages after a used TIME frame (R9, R10). -/
def noteUsed (cfg : Settings) (c : Correction) (t : TimeBase) : TimeBase :=
  { t with timeAge := 0, goodAge := if c.phase.natAbs ≤ cfg.jumpLimit then some 0 else t.goodAge }

/-- The move of a bounded correction (R12). -/
def boundedMove (cfg : Settings) (e : Int) : Int := clampInt (-(cfg.jumpLimit : Int)) cfg.jumpLimit e

/-- The mains cycles from a position forward to the start of the slot that follows the taken slot, 1 to L (R11). -/
def aheadToNext (cfg : Settings) (t : TimeBase) : Nat :=
  (nextSlot t * cfg.slotLen + 2 * cycleLength cfg - t.position - 1) % cycleLength cfg + 1

/-- The cycle number adopted by an outright correction (R11). -/
def adoptedCycle (cfg : Settings) (p : TimePayload) (landing : Nat) : Cycle :=
  if landing < senderPosition cfg p then p.cycle + 1 else p.cycle

/-- The Time Base at the entry into LISTENING (R4, R14, R17). -/
def startCounting (cfg : Settings) (t : TimeBase) : TimeBase :=
  evalSync cfg .listening
    (elect cfg { t with position := 0, takenSlot := 0, cycle := 0, pendingOffset := 0, timeAge := 0 })

/-- The start instant of a frame (R8). -/
def stampStart (t : TimeBase) : TimeBase := { t with timestamp := some { cycle := t.cycle, position := t.position } }

/-- The timestamp dropped at a frame's end (R8). -/
def dropStamp (t : TimeBase) : TimeBase := { t with timestamp := none }

/-! ### Crossings (R1 to R3) -/

/-- Half a nominal period in microseconds (R1). -/
def halfPeriod : MainsClass → Nat
  | .hz50 => 10000
  | .hz60 => 8350

/-- A crossing is ignored: it comes less than half a nominal period after the last accepted one (R1). -/
def crossingIgnored (interval : Nat) (t : TimeBase) : Bool := t.crossingSeen && decide (interval < halfPeriod t.mainsClass)

/-- The class of a measured period (R1). -/
def classOf (period : Nat) : MainsClass := if period < 18200 then .hz60 else .hz50

/-- The measured period and class at an accepted crossing (R1). -/
def measurePeriod (interval : Nat) (t : TimeBase) : TimeBase :=
  if decide (t.source = .mains) && t.periodBase then
    { t with measuredPeriod := some interval, mainsClass := classOf interval }
  else t

/-- A crossing ends a mains cycle: on MAINS, or when it brings the run to eight (R1, R3). -/
def crossingEnds (t : TimeBase) : Bool := decide (t.source = .mains) || decide (t.run = 7)

/-- The run, the source and the marks after an accepted crossing (R1, R3). -/
def countCrossing (t : TimeBase) : TimeBase :=
  let source := if t.source = .oscillator ∧ t.run = 7 then .mains else t.source
  { t with
    run := saturate 255 (t.run + 1)
    source := source
    crossingSeen := true
    periodBase := decide (source = .mains) }

/-- The Time Base at a loss of zero-cross (R2). -/
def loseCrossings (t : TimeBase) : TimeBase := { t with run := 0, source := .oscillator, periodBase := false }

end Sys2Proof.Machine
end

