-- ==== Sys2Proof/Machine/Slots.lean ====
section
/-! DEFINITION. The slot-boundary events and what every block does at them (R5 to R7, R59, R80, R88, R96, R105, R112, R113, R179,
R185, R191), mains-cycle ends, and the entry into LISTENING. -/

namespace Sys2Proof.Machine

/-! ### The end of the join (R15, R56, R149) -/

/-- The link state decided at the end of the join (R149). -/
def decideLink (l : Link) : Link :=
  if l.loopResult = some .passed ∧ l.clash = false then { l with state := .active } else { l with state := .listenOnly }

/-- The passage from LISTENING to RUNNING at the other blocks: the link state, the join flag, the zone modes (R15, R56, R149). -/
def passJoin (cfg : Settings) (s : State) : State :=
  ((s.setLink (decideLink s.link)).setTimeBase (checkJoinFlag cfg s.timeBase)).setZones (s.zones.map (enterRunningZone cfg))

/-- The supervisor's decision at a cycle boundary, with the end of the join when it comes (R178, R179). -/
def stationBoundary (cfg : Settings) (s : State) : State :=
  let s1 := boundaryDecision cfg s
  if s.supervisor.station = .listening ∧ s1.supervisor.station = .running then passJoin cfg s1 else s1

/-! ### The cycle boundary (R6, R38, R96, R105, R113) -/

/-- The TIME offer at a cycle boundary (R16). -/
def offerAtBoundary (cfg : Settings) (s : State) : State :=
  if isReference cfg s.supervisor.station s.timeBase && linkSends s.link.state then s.setRing (offerTime s.ring) else s

/-- The Time Base's steps at a cycle boundary (R6). -/
def cycleSteps (cfg : Settings) (counted : Bool) (s : State) : State :=
  offerAtBoundary cfg (s.setTimeBase (cycleTimes cfg s.supervisor.station counted s.timeBase))

/-- A request that rollover finds standing, at the ring: withdrawn or cancelled (R96 step 3). -/
def abandonRequest (s : State) : State :=
  match s.placement.request with
  | .none => s
  | .waiting => s.setRing (withdrawWaiting .place s.ring)
  | .queued i => dropRingFrame (s.setRing (cancelDescriptor i (ringOnLine s) s.ring).1)
  | .cancelRecorded _ => s

/-- The Load Placement Unit's record after rollover, with its new current placement (R96). -/
def rolloverRecord (current : List Run) (p : PlacementUnit) : PlacementUnit :=
  { p with
    current := current
    working := none
    request := .none
    announced := none
    lastFailure := none
    frozen := none
    map := []
    orderCounter := 0
    revisionsBefore := p.revisionsSent
    revisionsSent := 0
    viewFlag := false
    sagCount := p.sagCount - 1
    handed := none }

/-- The Load Placement Unit's rollover (R96). -/
def rollover (cfg : Settings) (s : State) : State :=
  let s1 := abandonRequest s
  serviceHead cfg (s1.setPlacement (rolloverRecord (dropReleased s (s.placement.frozen.getD [])) s1.placement))

/-- The flow sender at a cycle boundary: the first report of a station entering RUNNING, and the period count (R113; assumption
log 24). -/
def flowBoundary (cfg : Settings) (entered : Bool) (s : State) : State :=
  if cfg.flowSensing && settledState s.supervisor.station then
    let f := s.peers.flow
    let n := saturate 16 (f.periodCount + 1)
    let s1 := s.setPeers { s.peers with flow := { f with periodCount := n } }
    if entered then lineRequest cfg false s1
    else if n = 16 then
      if f.request = .none then lineRequest cfg false s1
      else restartPeriod s
    else s1
  else s

/-- What the blocks do at the event of slot 0 (R7): rollover, the Peer Table's rollover, the grant of permits, the flow sender. -/
def boundaryBlocks (cfg : Settings) (entered : Bool) (s : State) : State :=
  let s1 := rollover cfg s
  let s2 := s1.setPeers (rolloverPeers cfg s1.timeBase.cycle s1.peers)
  flowBoundary cfg entered (grantPermits s2)

/-! ### The demand point (R59, R80) -/

/-- "Demands ready": each zone's demand, deficit and Tc used are handed over (R59). -/
def handOver (s : State) : State := s.setPlacement { s.placement with handed := some (handDemands s) }

/-- A computation begun on demands ready (R59, R80). -/
def demandsReady (cfg : Settings) (s : State) : State := beginComputation cfg (handOver (computeDemands cfg s))

/-- The demand point, by station state (R50, R59, R80). -/
def demandPoint (cfg : Settings) (s : State) : State :=
  let s1 := selectSources s cfg
  match s.supervisor.station with
  | .starting => s
  | .configFault => s
  | .listening => s1
  | .running => demandsReady cfg s1
  | .held => beginComputation cfg s1
  | .mainsLost => s1

/-! ### The freeze (R88 to R94) -/

/-- A computation in flight abandoned, and the request withdrawn or cancelled (R88 steps 1 and 2). Two orders are DESIGN CHOICE
(assumption log 38): a PLACE completion held by the abandoned computation is taken and released here, and an own frame SENDING between
attempts completes CANCELLED at its cancel, both before the base is chosen. -/
def closeWindow (cfg : Settings) (s : State) : State :=
  let s1 := s.setPlacement { s.placement with computation := none }
  match s1.placement.request with
  | .none => serviceHead cfg s1
  | .waiting =>
    serviceHead cfg ((s1.setRing (withdrawWaiting .place s1.ring)).setPlacement { s1.placement with request := .none })
  | .queued i => serviceHead cfg (cancelRequest cfg i s1).1
  | .cancelRecorded _ => serviceHead cfg s1

/-- The map at the freeze: the base as the own contribution, and the silent rations (R89, R90). -/
def freezeMap (cfg : Settings) (runs : List Run) (order : Nat) (s : State) : List Contribution :=
  (silentAddresses s.peers).foldl (setRation cfg) (setOwn runs order s.placement.map)

/-- The unannounced count after the base is chosen (R92). -/
def unannouncedAfter (announced : Bool) (p : PlacementUnit) : Nat :=
  if announced then 0 else saturate 15 (p.unannounced + 1)

/-- The base settled: shed, or cut to the ration, and adjusted to the STUCK_ON zones (R91 to R93). -/
def settleBase (cfg : Settings) (runs : List Run) (order : Nat) (announced : Bool) (m : List Contribution) (s : State) : List Run :=
  adjustStuck cfg s
    (if announced then shed (freezeLimit cfg (viewIncomplete s)) order (othersOf m) runs
     else unannouncedRuns cfg (unannouncedAfter announced s.placement) runs)

/-- The base of the freeze in a state, with its order, and whether it counts as announced (R89, R156). -/
def baseOf (s : State) : List Run × Nat × Bool := freezeBase (!s.peers.entries.isEmpty) s.link.clash s.placement

/-- The map at the freeze in a state (R89, R90). -/
def baseMap (cfg : Settings) (s : State) : List Contribution := freezeMap cfg (baseOf s).1 (baseOf s).2.1 s

/-- The runs of the frozen placement (R91 to R94). -/
def frozenRuns (cfg : Settings) (s : State) : List Run :=
  settleBase cfg (baseOf s).1 (baseOf s).2.1 (baseOf s).2.2 (baseMap cfg s) s

/-- The frozen placement installed, as the own contribution too (R94; assumption log 21). -/
def installFrozen (cfg : Settings) (s : State) : State :=
  s.setPlacement
    { s.placement with
      map := setOwn (frozenRuns cfg s) (baseOf s).2.1 (baseMap cfg s)
      unannounced := unannouncedAfter (baseOf s).2.2 s.placement
      frozen := some (frozenRuns cfg s) }

/-- The freeze settled, with its curtailment report (R88 steps 3 and 4, R94). -/
def settleFreeze (cfg : Settings) (s : State) : State :=
  takeCurtailment (curtailmentReport (installFrozen cfg s) (frozenRuns cfg s)) (installFrozen cfg s)

/-- The freeze, in RUNNING, HELD and MAINS_LOST (R88). -/
def freeze (cfg : Settings) (s : State) : State :=
  if settledState s.supervisor.station then settleFreeze cfg (closeWindow cfg s) else s

/-! ### The flow sample (R112) -/

/-- The FLOW input sampled at a slot-boundary event; a level confirmed in RUNNING, HELD or MAINS_LOST is a change (R112, R113). -/
def samplePin (cfg : Settings) (s : State) : State :=
  if cfg.flowSensing then
    let (f, confirmed) := sampleFlow (flowLevel s.flowPin) s.timeBase.cycle s.peers.flow
    let s1 := s.setPeers { s.peers with flow := f }
    if confirmed then lineRequest cfg true s1 else s1
  else s

/-! ### A slot-boundary event (R5, R7) -/

/-- What is due before the event is taken: a computation in flight completes, except before the freeze (R76; assumption log 11), and
an OFFERED TIME frame expires (R166). -/
def beforeEvent (cfg : Settings) (slot : Nat) (s : State) : State :=
  let s1 := if slot = 28 then s else completeComputation cfg s
  s1.setRing (expireMailbox s1.ring)

/-- The changes of station state and the Time Base's steps before the event of slot 0 is issued (R6, R179). -/
def beforeBoundary (cfg : Settings) (counted : Bool) (s : State) : State := cycleSteps cfg counted (stationBoundary cfg s)

/-- The slot points other than the cycle boundary (R7). -/
def slotPoint (cfg : Settings) (slot : Nat) (s : State) : State :=
  if slot = 8 then demandPoint cfg s
  else if slot = 28 then freeze cfg s
  else if slot = 30 then statusPoint cfg s
  else s

/-- What every event is for: gate drive, the scanner, the flow sample (R7, R19, R112, R185). -/
def everySlot (cfg : Settings) (slot : Nat) (s : State) : State :=
  let s1 := driveGates slot s
  samplePin cfg (s1.setScanner (armScanner slot s1.timeBase.cycle s1.scanner))

/-- The taken slot becomes the slot of the event (R5). -/
def takeSlot (slot : Nat) (s : State) : State := s.setTimeBase { s.timeBase with takenSlot := slot }

/-- A slot-boundary event issued, with the blocks in the order of assumption log 12. `counted` is false for the landing of an outright
correction (R5 to R7, R11). -/
def slotEvent (cfg : Settings) (counted : Bool) (slot : Nat) (s : State) : State :=
  let s1 := beforeEvent cfg slot s
  if slot = 0 then
    let s2 := takeSlot 0 (beforeBoundary cfg counted s1)
    let entered := decide (s1.supervisor.station = .listening) && decide (s2.supervisor.station = .running)
    everySlot cfg 0 (boundaryBlocks cfg entered s2)
  else slotPoint cfg slot (everySlot cfg slot (takeSlot slot s1))

/-! ### Mains-cycle ends (R4) -/

/-- The position moved, with the event of the next slot when the move enters it (R4, R5, R12). -/
def moveTo (cfg : Settings) (position : Nat) (s : State) : State :=
  let s1 := s.setTimeBase { s.timeBase with position := position }
  if entersNext cfg s.timeBase s.timeBase.position position then slotEvent cfg true (nextSlot s.timeBase) s1 else s1

/-- A mains-cycle end from LISTENING on: the scanner counts it, and the position advances (R4, R19, R20). -/
def mainsCycleEnd (s : State) : State :=
  whenActive s fun cfg =>
    moveTo cfg ((s.timeBase.position + 1) % cycleLength cfg)
      (s.setScanner (scannerMainsEnd s.supervisor.gates s.scanner))

/-! ### Corrections (R11, R12) -/

/-- A forward outright correction that passes the start of the next slot issues one event, for the slot it lands in (R11). -/
def outright (cfg : Settings) (p : TimePayload) (c : Correction) (s : State) : State :=
  let t := s.timeBase
  let landing := movePosition cfg t.position c.phase
  let s1 := s.setTimeBase { t with position := landing, cycle := adoptedCycle cfg p landing, pendingOffset := 0 }
  if (aheadToNext cfg t : Int) ≤ c.phase then slotEvent cfg false (slotOf cfg landing) s1 else s1

/-- A bounded correction, with its cycle offset (R12, R13). -/
def bounded (cfg : Settings) (c : Correction) (s : State) : State :=
  let m := boundedMove cfg c.phase
  let s1 := s.setTimeBase { s.timeBase with pendingOffset := c.offset }
  let landing := movePosition cfg s.timeBase.position m
  if 0 < m then moveTo cfg landing s1 else s1.setTimeBase { s1.timeBase with position := landing }

/-- A TIME frame taken by the Time Base (R9 to R13, R17). That the ages, the join flag and the sync state take the frame before its own move,
which may reach the cycle boundary, is DESIGN CHOICE (R6, R9, R12; assumption log 44). -/
def takeTime (cfg : Settings) (source : Nat) (p : TimePayload) (s : State) : State :=
  match s.timeBase.timestamp with
  | none => s
  | some stamp =>
    if timeUsed cfg source p s.timeBase then
      let c := correctionOf cfg p stamp
      let t := evalSync cfg s.supervisor.station (noteUsed cfg c s.timeBase)
      if s.supervisor.station = .listening then outright cfg p c (s.setTimeBase { t with joinFlag := true })
      else bounded cfg c (s.setTimeBase t)
    else s

/-! ### The entry into LISTENING (R4, R17, R135, R178) -/

/-- The entry into LISTENING at the end of the loopback check (R4, R14, R17, R135, R176, R178). That the bit timing goes on as the idle wait left
it is DESIGN CHOICE (R134, R205; assumption log 46). -/
def enterListening (cfg : Settings) (s : State) : State :=
  let s1 := setStation s .listening
  let s2 := s1.setSupervisor { s1.supervisor with joinCount := 0, holdRequest := s.holdPin }
  (s2.setTimeBase (startCounting cfg s2.timeBase)).setLink { s2.link with tracking := .waitingIdle 0, loopback := .notRunning }

end Sys2Proof.Machine
end

