-- ==== Sys2Proof/Machine/LinkOps.lean ====
section
/-! DEFINITION. The Link Controller (chapter 07) and the receive filter and queue (chapter 08): error counts and link states, line
tracking, sending, receiving, and what is done with a valid frame. -/

namespace Sys2Proof.Machine

/-! ### Error counts and link states (R146 to R152) -/

/-- The link state evaluated after a change of TEC or REC (R150). DETACHED is entered with the quiet run and count at 0 (R151). -/
def evalLink (l : Link) : Link :=
  if linkSends l.state then
    if 192 ≤ l.tec then { l with state := .detached, quietRun := 0, quietCount := 0 }
    else if 96 ≤ l.tec ∨ 96 ≤ l.recv then { l with state := .passive }
    else if l.tec ≤ 80 ∧ l.recv ≤ 80 then { l with state := .active }
    else l
  else l

/-- TEC after a failed attempt that counts (R146). -/
def tecUp (l : Link) : Link := evalLink (if linkSends l.state then { l with tec := saturate 255 (l.tec + 4) } else l)

/-- TEC after a success (R146). -/
def tecDown (l : Link) : Link := evalLink (if linkSends l.state then { l with tec := l.tec - 1 } else l)

/-- REC after a reception error (R147). -/
def recUp (l : Link) : Link := evalLink (if linkSends l.state then { l with recv := saturate 255 (l.recv + 2) } else l)

/-- REC after a frame received at the link (R147). -/
def recDown (l : Link) : Link := evalLink (if linkSends l.state then { l with recv := l.recv - 1 } else l)

/-- A bit counted for quiet intervals while DETACHED (R152). -/
def quietBit (l : Link) (b : Bool) : Link :=
  if l.state = .detached then
    if !b then { l with quietRun := 0 }
    else if l.quietRun + 1 < 12 then { l with quietRun := l.quietRun + 1 }
    else if l.quietCount + 1 < 64 then { l with quietRun := 0, quietCount := l.quietCount + 1 }
    else { l with state := .active, tec := 0, recv := 0, quietRun := 0, quietCount := 0 }
  else l

/-- Bits counted for quiet intervals, in turn (R152). -/
def quietBits (bits : List Bool) (s : State) : State := s.setLink (bits.foldl quietBit s.link)

/-! ### Line tracking (R135) -/

/-- The station drives the Acknowledge bit of a frame it has found no error in (R140). -/
def acknowledges (rx : Reception) (l : Link) : Bool := linkSends l.state && !rx.mute

/-- Bits taken into a frame being received, by a link as it stands before them. The link state at the Acknowledge bit decides whether
the station drives it, after the quiet intervals that the bits before it complete (R140, R152). -/
def takeRxBits (l : Link) (bits : List Bool) (rx : Reception) : Reception :=
  let all := rx.bits ++ bits
  { rx with
    bits := all
    ack :=
      match rx.ack, ackTail all with
      | some a, _ => some a
      | none, none => none
      | none, some tail => some (acknowledges rx ((bits.take (bits.length - tail.length)).foldl quietBit l)) }

/-- A frame being received, of which the Start bit alone has come. -/
def Reception.opened : Reception where
  bits := []
  mute := false
  ack := none

/-- Line tracking is within a frame (R135). -/
def inFrame (l : Link) : Bool :=
  match l.tracking with
  | .waitingIdle _ => false
  | .idle _ => false
  | .inFrame _ => true
  | .rejecting _ => true

/-- A Start bit of another station: the start instant, and a frame being received (R8, R135, R140). -/
def startReception (s : State) : State :=
  (s.setTimeBase (stampStart s.timeBase)).setLink
    { s.link with tracking := .inFrame 0, reception := some Reception.opened }

/-- One bit at line tracking (R135). IDLE reached from WAITING_IDLE counts as the end of the intermission (assumption log 17). Nothing is taken
from a bit of the own reject burst, and tracking is WAITING_IDLE at its end (R141). -/
def trackBit (s : State) (b : Bool) : State :=
  match s.link.tracking with
  | .waitingIdle run =>
    if !b then s.setLink { s.link with tracking := .waitingIdle 0 }
    else if run + 1 < 10 then s.setLink { s.link with tracking := .waitingIdle (run + 1) }
    else s.setLink { s.link with tracking := .idle 3 }
  | .idle count => if b then s.setLink { s.link with tracking := .idle (count + 1) } else startReception s
  | .inFrame position =>
    match s.link.reception with
    | none => s
    | some rx =>
      s.setLink { s.link with tracking := .inFrame (position + 1), reception := some (takeRxBits s.link [b] rx) }
  | .rejecting left => s.setLink { s.link with tracking := if left ≤ 1 then .waitingIdle 0 else .rejecting (left - 1) }

/-- The bits kept of a frame being received hold its end, which FRAME_RECEIVED takes (R142; assumption log 18). -/
def endKept (l : Link) : Bool :=
  match l.tracking, l.reception with
  | .inFrame _, some rx => decide (rxFrame rx.bits ≠ .incomplete)
  | _, _ => false

/-- One bit that no other operation takes: line tracking takes it, and then the quiet count while DETACHED. A bit after the kept end of a
frame is kept alone, and is counted once, when the end is taken and the bits after it are sampled (R135, R152; assumption log 18). -/
def sampleBit (s : State) (b : Bool) : State := if endKept s.link then trackBit s b else quietBits [b] (trackBit s b)

/-- Bits that no other operation takes, in turn (R135, R152). -/
def sampleBits (bits : List Bool) (s : State) : State := bits.foldl sampleBit s

/-- The wait before sending (R135, R148). -/
def waitBefore : LinkState → Option Nat
  | .listenOnly => none
  | .active => some 3
  | .passive => some 11
  | .detached => none

/-- Line tracking has reached a chance to send (R135). -/
def atChance (l : Link) : Bool :=
  match l.tracking, waitBefore l.state with
  | .idle count, some wait => decide (wait ≤ count)
  | _, _ => false

/-! ### Taking a frame in hand (R136) -/

/-- The bits of a frame this station sends (R118 to R120). -/
def ownBits (cfg : Settings) (kind : Nat) (payload : List Byte) : List SentBit := sentBits kind cfg.address cfg.group payload

/-- The TIME payload filled at a Start bit (R16, R123). -/
def ownTimeBytes (cfg : Settings) (t : TimeBase) : List Byte :=
  timeBytes t.cycle (slotOf cfg t.position) (t.position % cfg.slotLen) cfg.slotLen t.mainsClass

/-- The own Start bit, driven dominant: the start instant, and an attempt with the bits to send (R134, R136, R145). That it is sampled dominant
is DESIGN CHOICE: no rule says what a station does that samples its own Start bit recessive (R137, R138; assumption log 45). -/
def startAttempt (source : InHand) (sent : List SentBit) (s : State) : State :=
  (s.setTimeBase (stampStart s.timeBase)).setLink
    { s.link with
      tracking := .inFrame 0
      inHand := some source
      attempt := some { sent := sent, samples := [] }
      reception := none
      clock := BitClock.started true }

/-- The TIME frame taken from the mailbox; its attempt record begins at its first Start bit (R145, R166). -/
def sendTime (cfg : Settings) (s : State) : State :=
  let tries := if s.ring.mailbox = .started then s.link.timeTries else Tries.fresh
  startAttempt .mailbox (ownBits cfg 0 (ownTimeBytes cfg s.timeBase))
    ((s.setRing { s.ring with mailbox := .started }).setLink { s.link with timeTries := tries })

/-- The head descriptor's frame taken, at its first Start bit or a later one (R136, R160). -/
def sendRing (cfg : Settings) (p : Producer) (d : Descriptor) (s : State) : State :=
  let tries := if d.state = .sending then s.link.ringTries else Tries.fresh
  startAttempt .ring (ownBits cfg (producerKind p) d.payload)
    ((s.setRing (setDescriptor s.ring s.ring.head { d with state := .sending })).setLink { s.link with ringTries := tries })

/-- What the transmit engine takes at a chance to send (R136, R160, R166). -/
def takeInHand (cfg : Settings) (s : State) : State :=
  if s.ring.mailbox = .empty then
    let d := headDescriptor s.ring
    match d.producer with
    | none => s
    | some p => if d.state = .ready ∨ d.state = .sending then sendRing cfg p d s else s
  else sendTime cfg s

/-! ### The course and end of an own attempt (R137 to R139, R145, R146, R151) -/

/-- The frame in hand completes at the ring or the mailbox (R145, R161, R166). -/
def completeInHand (reason : Option FailReason) (s : State) : State :=
  let s1 :=
    match s.link.inHand with
    | none => s
    | some .mailbox => s.setRing { s.ring with mailbox := .empty }
    | some .ring =>
      let d := headDescriptor s.ring
      s.setRing (setDescriptor s.ring s.ring.head
        { d with state := if reason = none then .doneOk else .doneFail, reason := reason })
  s1.setLink { s1.link with inHand := none, attempt := none }

/-- A cancel is recorded for the ring frame in hand (R145). -/
def cancelRecordedInHand (s : State) : Bool := decide (s.link.inHand = some .ring) && (headDescriptor s.ring).cancel

/-- The tries of the frame in hand. -/
def triesInHand (l : Link) : Tries := if l.inHand = some .mailbox then l.timeTries else l.ringTries

/-- The tries of the frame in hand replaced. -/
def setTries (t : Tries) (l : Link) : Link :=
  if l.inHand = some .mailbox then { l with timeTries := t } else { l with ringTries := t }

/-- The tries after a failed attempt (R145). -/
def countFailure (ackError : Bool) (t : Tries) : Tries := { count := t.count + 1, noAck := t.noAck && ackError }

/-- Arbitration lost: the station receives the frame from the bits it has sampled, and keeps its own frame in hand, unless a cancel
is recorded (R137, R145). -/
def loseArbitration (cfg : Settings) (samples : List Bool) (s : State) : State :=
  let s1 := s.setLink
    { s.link with
      tracking := .inFrame samples.length
      attempt := none
      reception := some (takeRxBits s.link samples Reception.opened) }
  if cancelRecordedInHand s1 then serviceHead cfg (completeInHand (some .cancelled) s1) else s1

/-- The station has become DETACHED: the ring and the mailbox fail, and the engine holds no frame (R151, R164). -/
def enterDetached (cfg : Settings) (s : State) : State :=
  serviceHead cfg ((s.setRing (detachRing s.ring)).setLink { s.link with inHand := none, attempt := none })

/-- What becomes of the frame in hand at a failed attempt, once TEC and the link state have changed (R145; assumption log 15). -/
def settleFailure (cfg : Settings) (ackError : Bool) (s : State) : State :=
  let tries := countFailure ackError (triesInHand s.link)
  let s1 := s.setLink (setTries tries s.link)
  if s.link.state = .detached then enterDetached cfg s1
  else if cancelRecordedInHand s1 then serviceHead cfg (completeInHand (some .cancelled) s1)
  else if 4 ≤ tries.count then serviceHead cfg (completeInHand (some (if tries.noAck then .noAck else .errors)) s1)
  else s1.setLink { s1.link with attempt := none }

/-- The bits of a reject burst (R141). -/
def burstBits : Nat := 7

/-- The end of a frame at this station with nothing handed on: the engines are empty, the timestamp is dropped, and line tracking waits
for idle, at once or at the end of the own reject burst (R135, R141, R142). -/
def leaveFrame (ack reject : Bool) (s : State) : State :=
  (s.setTimeBase (dropStamp s.timeBase)).setLink
    { s.link with
      tracking := if reject then .rejecting burstBits else .waitingIdle 0
      attempt := none, reception := none, ackDriven := ack, rejectDriven := reject }

/-- A bit error: an ACTIVE station rejects; any other goes on receiving the frame without a part in it (R138, R141, R150; assumption
log 16). -/
def bitErrorEnd (cfg : Settings) (samples rest : List Bool) (s : State) : State :=
  let s1 := s.setLink (tecUp s.link)
  let seen := samples.take (samples.length - rest.length)
  if s1.link.state = .active then sampleBits rest (settleFailure cfg false (leaveFrame false true s1))
  else
    let s2 := s1.setLink
      { s1.link with tracking := .inFrame seen.length, reception := some { bits := seen, mute := true, ack := none } }
    sampleBits rest (settleFailure cfg false s2)

/-- An acknowledge error (R139, R141, R146). -/
def ackErrorEnd (cfg : Settings) (rest : List Bool) (s : State) : State :=
  let s1 := if s.link.state = .active then s.setLink (tecUp s.link) else s
  sampleBits rest (settleFailure cfg true (leaveFrame false (decide (s1.link.state = .active)) s1))

/-- A receiver's reject seen in the End field (R139, R146). -/
def endRejectEnd (cfg : Settings) (rest : List Bool) (s : State) : State :=
  let s1 := s.setLink (tecUp s.link)
  sampleBits rest (settleFailure cfg false (leaveFrame false false s1))

/-- A success, at the seventh End bit (R139, R145, R146). -/
def successEnd (cfg : Settings) (rest : List Bool) (s : State) : State :=
  let s1 := leaveFrame false false (s.setLink (tecDown s.link))
  let s2 := s1.setLink { s1.link with tracking := .idle 0 }
  sampleBits rest (serviceHead cfg (completeInHand none s2))

/-- The samples of the attempt so far kept (R136). -/
def keepSamples (a : Attempt) (samples : List Bool) (s : State) : State :=
  s.setLink { s.link with tracking := .inFrame samples.length, attempt := some { a with samples := samples } }

/-- Bits sampled while the own frame is on the line, with the end of the attempt when it comes (R137 to R139, R145). -/
def attemptBits (cfg : Settings) (bits : List Bool) (a : Attempt) (s : State) : State :=
  let samples := a.samples ++ bits
  match txCompare a.sent samples with
  | .pending => keepSamples a samples s
  | .lost _ => loseArbitration cfg samples s
  | .bitError rest => bitErrorEnd cfg samples rest s
  | .ackError rest => ackErrorEnd cfg rest s
  | .endReject rest => endRejectEnd cfg rest s
  | .success rest => successEnd cfg rest s

/-- The bits that come with the own Start bit: a lost arbitration is taken; the end of an attempt is taken by its own command (R136,
R137, R145). -/
def firstBits (cfg : Settings) (bits : List Bool) (s : State) : State :=
  match s.link.attempt with
  | none => s
  | some a =>
    match txCompare a.sent bits with
    | .lost _ => loseArbitration cfg bits s
    | _ => keepSamples a bits s

/-! ### The receive filter and queue (R167 to R170) -/

/-- The routes of a frame at this station (R167). -/
def routesOf (cfg : Settings) (f : Frame) : Routes where
  placement := decide (f.kind = 2) && decide (f.group = cfg.group)
  upstream := decide (f.kind = 2) && decide (f.source = cfg.upstreamAddr)
  downstream := decide (f.kind = 2) && decide (f.source = cfg.downstreamAddr)
  line := decide (f.kind = 1)

/-- A frame with a route (R167). -/
def Routes.any (r : Routes) : Bool := r.placement || r.upstream || r.downstream || r.line

/-- The view for n+1 marked incomplete (R74). -/
def markView (s : State) : State := s.setPlacement { s.placement with viewFlag := true }

/-- The queue entry of an admitted frame (R168, R169). -/
def entryOf (f : Frame) (routes : Routes) (order : Nat) : QueueEntry where
  source := f.source
  group := f.group
  payload := f.payload
  routes := routes
  order := if f.kind = 2 then some order else none
  target := if f.kind = 2 then some (byteAt f.payload 0) else none

/-- An admitted LINE or PLACE frame arrives at the queue (R169, R170). -/
def arrive (f : Frame) (routes : Routes) (order : Nat) (s : State) : State :=
  if queueLocked s.queue then
    let s1 := s.setQueue { s.queue with overflow := saturate 255 (s.queue.overflow + 1) }
    if f.kind = 2 then markView s1 else s1
  else s.setQueue { s.queue with entries := s.queue.entries ++ [entryOf f routes order] }

/-- The receive filter: a TIME frame goes to the Time Base, a LINE or PLACE with a route to the queue, and nothing else is admitted
(R167, R168). -/
def filterFrame (cfg : Settings) (f : Frame) (s : State) : State :=
  if f.kind = 0 then takeTime cfg f.source (timePayload f.payload) s
  else if (routesOf cfg f).any then arrive f (routesOf cfg f) s.placement.orderCounter s
  else s

/-! ### A frame received at the link (R143, R155, R156) -/

/-- The source address given to the election; a station that stops being the reference evaluates its sync state (R14, R17). -/
def giveAddress (cfg : Settings) (a : Nat) (s : State) : State :=
  let t := hearAddress cfg a s.timeBase
  if isReference cfg s.supervisor.station s.timeBase && !isReference cfg s.supervisor.station t then
    s.setTimeBase (evalSync cfg s.supervisor.station t)
  else s.setTimeBase t

/-- An address clash (R156). -/
def clashFound (cfg : Settings) (s : State) : State :=
  serviceHead cfg ((s.setRing (detachRing s.ring)).setLink
    { s.link with state := .listenOnly, clash := true, inHand := none })

/-- The address clash test (R155). -/
def clashTest (cfg : Settings) (f : Frame) (s : State) : State :=
  if f.source = cfg.address ∧ s.link.clash = false then clashFound cfg s else s

/-- The order number of a PLACE (R72, R143). -/
def numberFrame (f : Frame) (s : State) : State :=
  if f.kind = 2 then s.setPlacement (advanceOrder s.placement) else s

/-- A valid frame handed on, in the order of R143. -/
def handOn (cfg : Settings) (f : Frame) (s : State) : State :=
  filterFrame cfg f (numberFrame f (clashTest cfg f (giveAddress cfg f.source s)))

/-- A frame received at the link, valid or refused (R122, R143). -/
def takeFrame (cfg : Settings) (f : Frame) (s : State) : State :=
  if frameValid f then handOn cfg f s else s.setQueue { s.queue with refusalMark := true }

/-- A reception error: REC, the report, and the reject of a station that is still ACTIVE (R140, R141, R147, R150, R153). -/
def receptionError (s : State) : State :=
  let s1 := s.setLink (recUp s.link)
  let s2 := if s.link.state = .active then s1 else markView s1
  leaveFrame false (decide (s1.link.state = .active)) s2

/-- A reception error, and the bits that follow it (R140, R141). -/
def receptionErrorEnd (rest : List Bool) (s : State) : State := sampleBits rest (receptionError s)

/-- Bits sampled while a frame is being received, with its end when it comes and the bits that follow it (R140 to R143). That the count of REC
and its evaluation at the end of a frame come before the address clash test is DESIGN CHOICE (R147, R156; assumption log 43). -/
def receptionEnd (cfg : Settings) (rx : Reception) (bits : List Bool) (s : State) : State :=
  let rx' := takeRxBits s.link bits rx
  let fresh (rest : List Bool) := bits.take (bits.length - rest.length)
  match rxFrame rx'.bits with
  | .incomplete => quietBits bits (s.setLink { s.link with tracking := .inFrame rx'.bits.length, reception := some rx' })
  | .stuffError rest => receptionErrorEnd rest (quietBits (fresh rest) s)
  | .checkError rest => receptionErrorEnd rest (quietBits (fresh rest) s)
  | .void rest => sampleBits rest (leaveFrame (rx'.ack.getD false) false (quietBits (fresh rest) s))
  | .received f rest =>
    let s1 := quietBits (fresh rest) s
    let s2 := s1.setLink { recDown s1.link with
      tracking := .idle 0, reception := none, ackDriven := rx'.ack.getD false, rejectDriven := false }
    let s3 := takeFrame cfg f s2
    sampleBits rest (s3.setTimeBase (dropStamp s3.timeBase))

end Sys2Proof.Machine
end

