-- ==== Sys2Proof/Machine/BitTiming.lean ====
section
/-! DEFINITION. The bit timing of the Link Controller (R134): quanta, alignment and resynchronisation on edges, the sample point, and the
bits of the line as a command carries them. -/

namespace Sys2Proof.Machine

/-! ### The line past a kept end (assumption log 18) -/

/-- The samples kept of an own attempt hold its end, which ATTEMPT_END takes (R145; assumption log 18). -/
def attemptOver (l : Link) : Bool :=
  match l.tracking, l.attempt with
  | .inFrame _, some a => decide (txCompare a.sent a.samples ≠ .pending)
  | _, _ => false

/-- A kept end taken, with the bits kept past it, as by ATTEMPT_END or FRAME_RECEIVED with no bit of its own (R142, R145). -/
def takeKeptEnd (cfg : Settings) (s : State) : State :=
  match s.link.attempt, s.link.reception with
  | some a, _ => attemptBits cfg [] a s
  | none, some rx => receptionEnd cfg rx [] s
  | none, none => s

/-- The link once every kept end has been taken: where the station stands on the line, though the commands that take those ends are still to
come. `fuel` bounds the number of ends. -/
def afterKeptEnds (cfg : Settings) (fuel : Nat) (s : State) : Link :=
  match fuel with
  | 0 => s.link
  | n + 1 => if attemptOver s.link || endKept s.link then afterKeptEnds cfg n (takeKeptEnd cfg s) else s.link

/-- How many bits are kept of the frame on the line. -/
def keptBits (l : Link) : Nat := (l.attempt.map fun a => a.samples.length).getD 0 + (l.reception.map fun rx => rx.bits.length).getD 0

/-- The link by which the bit timing goes: each end takes one bit at least, but for a bit error that leaves a frame to receive (R134, R138). -/
def onLine (cfg : Settings) (s : State) : Link := afterKeptEnds cfg (keptBits s.link + 2) s

/-! ### What the station does in the bit to come -/

/-- The bit to come is the Acknowledge bit of the frame being received (R140). -/
def ackComes (rx : Reception) : Bool :=
  match rxPart rx.bits with
  | .more => false
  | .stuffError _ => false
  | .checkError _ => false
  | .passed _ tail => tail.isEmpty

/-- The own reject burst is on the line (R141). -/
def bursting (l : Link) : Bool :=
  match l.tracking with
  | .waitingIdle _ => false
  | .idle _ => false
  | .inFrame _ => false
  | .rejecting _ => true

/-- The station drives the bit to come dominant: a bit of its reject burst, a bit of its own frame, or the Acknowledge bit of another's (R118,
R136, R140, R141). -/
def drivesDominant (l : Link) : Bool :=
  bursting l || match l.attempt, l.reception with
  | some a, _ => (a.sent[a.samples.length]?).any fun b => !b.level
  | none, some rx => ackComes rx && acknowledges rx l
  | none, none => false

/-! ### Edges and quanta -/

/-- The next bit begins (R134). -/
def beginBit (l : Link) (c : BitClock) : BitClock :=
  { c with quantum := 0, resynced := false, driving := drivesDominant l }

/-- A bit of quanta that has ended, by its length or by an early edge, is followed by the next (R134). -/
def endBit (l : Link) (c : BitClock) : BitClock := if c.quantum < quantaPerBit then c else beginBit l c

/-- A recessive-to-dominant edge seen in the quantum in progress: none is taken in a bit that the station drives dominant; outside a frame
the bit begins at the edge; within a frame the first edge of a bit moves the quantum by the correction of the table (R134; assumption log
27). -/
def takeEdge (l : Link) (c : BitClock) : BitClock :=
  if c.driving then c
  else if !inFrame l then { c with quantum := 0, resynced := true }
  else if c.resynced then c
  else endBit l { c with quantum := ((c.quantum : Int) - resyncQuanta c.quantum).toNat, resynced := true }

/-- The sampling of the line under way in a command. -/
structure Sampling where
  clock : BitClock
  /-- The level at the end of the last quantum. -/
  level : Bool
  /-- The bits sampled so far. -/
  bits : List Bool
  /-- The link as those bits leave it. -/
  link : Link
  deriving DecidableEq, Repr

/-- The line sampled (R134). `view` is the link on the line after the bits of the command. -/
def sampleLevel (view : List Bool → Link) (level : Bool) (p : Sampling) : Sampling :=
  { p with bits := p.bits ++ [level], link := view (p.bits ++ [level]) }

/-- The end of a quantum, with the level there: an edge is taken, the line is sampled at the end of quantum 13, and the next quantum
begins (R134). -/
def endQuantum (view : List Bool → Link) (level : Bool) (p : Sampling) : Sampling :=
  let p1 := { p with level := level, clock := if p.level && !level then takeEdge p.link p.clock else p.clock }
  let p2 := if p1.clock.quantum = sampleQuantum then sampleLevel view level p1 else p1
  { p2 with clock := endBit p2.link { p2.clock with quantum := p2.clock.quantum + 1 } }

/-- One level of a wave, 1.25 µs after the one before it; the level that ends a quantum is the level seen in it (R134; assumption log
27). -/
def takeLevel (units : Nat) (view : List Bool → Link) (p : Sampling) (level : Bool) : Sampling :=
  if p.clock.unit + 1 < units then { p with clock := { p.clock with unit := p.clock.unit + 1 } }
  else endQuantum view level { p with clock := { p.clock with unit := 0 } }

/-- The bit timing as a command finds it: at the leading edge of a bit, the station decides there what it drives (R134). -/
def clockAtStart (l : Link) : BitClock := if l.clock.quantum = 0 ∧ l.clock.unit = 0 then beginBit l l.clock else l.clock

/-- The levels of a wave taken in turn (R134). -/
def sampleWave (units : Nat) (view : List Bool → Link) (clock : BitClock) (before : Bool) (levels : List Bool) : Sampling :=
  levels.foldl (takeLevel units view)
    { clock := clockAtStart { view [] with clock := clock }, level := before, bits := [], link := view [] }

/-- What a command does with its bits of the line: `f` takes bits that have been sampled, and the bits of a wave are those that the bit
timing samples from it at the settled bit rate, by the station's place on the line after each (R134). Sampled bits leave the bit timing where it
is (assumption log 27). -/
def takeBits (cfg : Settings) (f : List Bool → State → State) (line : Line) (s : State) : State :=
  match line with
  | .sampled bits => f bits s
  | .wave before levels =>
    let p := sampleWave (quantumUnits cfg.bitRate) (fun bits => onLine cfg (f bits s)) s.link.clock before levels
    let t := f p.bits s
    t.setLink { t.link with clock := p.clock }

end Sys2Proof.Machine
end

