-- ==== Sys2Proof/Machine/Loader.lean ====
section
/-! DEFINITION. Resets, the Configuration Loader and the loopback check (chapter 10). -/

namespace Sys2Proof.Machine

/-! ### The start of a reset (R18, R35, R66, R98, R115, R157, R174, R175, R193, R195, R196, R208) -/

/-- A kind joins the kinds of the reset in progress (R196). -/
def joinKind (k : ResetKind) (r : ResetKinds) : ResetKinds :=
  match k with
  | .powerOn => { r with powerOn := true }
  | .supplyDip => { r with supplyDip := true }
  | .clockStop => { r with clockStop := true }
  | .external => { r with external := true }

/-- The condition of a zone after a reset of a kind (R66). -/
def resetCondition (k : ResetKind) (c : Condition) : Condition :=
  if k = .powerOn then .normal
  else
    match c with
    | .disabled => .disabled
    | .normal => .normal
    | .tripped => .tripped
    | .openFault => .normal
    | .stuckOn => .stuckOn

/-- Retained bytes that a dip or a stopped oscillator disturbs (R200). -/
def disturb (l : List (Nat × Byte)) (image : List Byte) : List Byte := l.foldl (fun i p => i.set p.1 p.2) image

/-- The Loader at the start of a reset: a read stops at its bit, and the retained bytes stay unless power was lost (R199, R208). What the
running check and the SPI outputs are while the reset is in progress is DESIGN CHOICE (assumption log 35). -/
def resetLoader (k : ResetKind) (disturbed : List (Nat × Byte)) (l : Loader) : Loader where
  state := .reading
  retained := if k = .powerOn then [] else disturb disturbed l.retained
  complete := decide (k ≠ .powerOn) && l.complete
  runningCheck := 0xFFFF#16
  clocks := 0
  shift := []
  sck := false
  mosi := false
  settled := none

/-- Every block at its reset values at the start of a reset; the latches are cleared by power-on alone, and the cause record stands
until the reset ends (R193, R195, R196). The station state is STARTING at the end of the reset (R176, R193); that the model writes it at
the start already is DESIGN CHOICE (assumption log 35). -/
def beginReset (k : ResetKind) (disturbed : List (Nat × Byte)) (s : State) : State where
  timeBase := TimeBase.reset
  scanner := Scanner.reset
  zones := s.zones.map fun x => Zone.resetIn (resetCondition k x.condition)
  placement := PlacementUnit.reset
  peers := PeerTable.reset
  link := Link.reset
  ring := Ring.reset
  queue := ReceiveQueue.reset
  supervisor := Supervisor.resetWith s.supervisor.cause (decide (k ≠ .powerOn) && s.supervisor.contactorLatch)
  loader := resetLoader k disturbed s.loader
  resets := joinKind k s.resets
  holdPin := s.holdPin
  flowPin := s.flowPin
  pending := s.pending

/-! ### Validation (R201 to R204) -/

/-- A good image: its fields become the settled fields, the zones take them, and the loopback check begins (R37, R204, R205). A zone that
becomes DISABLED, or NORMAL from DISABLED, here is no condition change that sets the change mark of R190: DESIGN CHOICE (assumption log
40). -/
def settleImage (s : State) : State :=
  let cfg := settingsOf s.loader.retained
  ((s.setLoader { s.loader with state := .settled, settled := some cfg }).setZones
    (Six.ofFn fun z => settleZone (cfg.zone z).enabled (s.zones.get z))).setLink { s.link with loopback := .waiting 0 0 }

/-- A bad image: the station enters CONFIG_FAULT (R177, R204). -/
def badImage (s : State) : State := setStation (s.setLoader { s.loader with state := .bad }) .configFault

/-- Validation of the image, given whether its check matches (R201, R204). -/
def validate (checkMatches : Bool) (s : State) : State :=
  if checkMatches && imageFieldsGood s.loader.retained then settleImage s else badImage s

/-! ### The end of a reset (R196, R197, R200) -/

/-- The kind recorded as the cause of a reset (R196). -/
def causeOf (r : ResetKinds) : ResetKind :=
  if r.powerOn then .powerOn else if r.supplyDip then .supplyDip else if r.clockStop then .clockStop else .external

/-- What the Loader sends on CFG_MOSI at the start of a read: the command and a 16-bit address of 0, high byte first (R198). -/
def readCommand : List Byte := [3, 0, 0]

/-- The clocks of the command and its address, and those of the whole read (R198). -/
def commandClocks : Nat := 24

/-- The clocks of a read: 24, and 8 for each of the 128 bytes (R198). -/
def readClocks : Nat := commandClocks + 8 * Config.imageSize

/-- The level of CFG_MOSI before the next rising edge, after a number of clocks: the bits of the command in turn, and low after them
(R198; assumption log 39). -/
def mosiAfter (clocks : Nat) : Bool := (readCommand.flatMap byteBits).getD clocks false

/-- A read begun, with CFG_SCK low and the first bit of the command on CFG_MOSI (R197, R198; assumption log 39). -/
def beginRead (s : State) : State :=
  s.setLoader { s.loader with
    state := .reading, complete := false, runningCheck := 0xFFFF#16
    clocks := 0, shift := [], sck := false, mosi := mosiAfter 0 }

/-- The retained image re-verified (R200). -/
def reverify (s : State) : State :=
  if imageCheck s.loader.retained = storedCheck s.loader.retained then
    validate true (s.setLoader { s.loader with state := .validating, runningCheck := imageCheck s.loader.retained })
  else beginRead s

/-- The Loader's decision at the end of a reset (R197). -/
def obtainImage (kinds : ResetKinds) (s : State) : State :=
  if kinds.powerOn || kinds.external || !s.loader.complete then beginRead s else reverify s

/-- The end of a reset (R176, R196, R197). -/
def endReset (s : State) : State :=
  obtainImage s.resets
    ((s.setSupervisor { s.supervisor with cause := causeOf s.resets }).setResets ResetKinds.clear)

/-! ### The read (R198) -/

/-- A byte written at its place in the retained image (R198). -/
def writeAt (i : Nat) (b : Byte) (image : List Byte) : List Byte := image.take i ++ b :: image.drop (i + 1)

/-- A byte that has arrived: it is written at its place, and bytes 0 to 125 are taken into the running check (R133, R198). -/
def storeByte (i : Nat) (b : Byte) (l : Loader) : Loader :=
  { l with retained := writeAt i b l.retained, runningCheck := if i < 126 then checkByte l.runningCheck b else l.runningCheck }

/-- The 128th byte has arrived: the complete mark is set, and the Loader is VALIDATING (R198). -/
def endRead (l : Loader) : Loader := if l.clocks = readClocks then { l with state := .validating, complete := true } else l

/-- A level sampled on CFG_MISO, past the command: the bits of a byte come bit 7 first (R198). -/
def takeMiso (miso : Bool) (l : Loader) : Loader :=
  let bits := l.shift ++ [miso]
  if bits.length < 8 then { l with shift := bits }
  else storeByte ((l.clocks - commandClocks) / 8) (BitVec.ofNat 8 (bitsNat bits)) { l with shift := [] }

/-- A rising edge of CFG_SCK, at which CFG_MISO is sampled (R198). -/
def risingEdge (miso : Bool) (l : Loader) : Loader :=
  let l1 := if l.clocks < commandClocks then l else takeMiso miso l
  endRead { l1 with sck := true, clocks := l.clocks + 1 }

/-- A falling edge of CFG_SCK, after which CFG_MOSI changes (R198). -/
def fallingEdge (l : Loader) : Loader := { l with sck := false, mosi := mosiAfter l.clocks }

/-- One clock of the read, while the Loader is READING (R198). -/
def spiClock (l : Loader) (miso : Bool) : Loader := if l.state = .reading then fallingEdge (risingEdge miso l) else l

/-- The levels sampled on CFG_MISO at the rising edges of the read; the last bit of the 128th byte ends the read, and validation runs
(R198, R201). -/
def takeMisoBits (bits : List Bool) (s : State) : State :=
  let l := bits.foldl spiClock s.loader
  let s1 := s.setLoader l
  if l.state = .validating then validate (decide (l.runningCheck = storedCheck l.retained)) s1 else s1

/-! ### The loopback check (R205, R206) -/

/-- The test frame, from the bit after its Start bit: the stuffed bits of its fields and of the check worked over them. It ends at the last
bit of the Check, so a stuff bit after that is not sent (R119, R120, R206). -/
def testFrame (cfg : Settings) : List SentBit :=
  let sent := ownBits cfg 3 [0#8, 255#8]
  if sent.getLast?.any SentBit.stuff then sent.dropLast else sent

/-- A sample of LINK_RX in the idle wait: after ten recessive in a row the transmit engine sends the test frame into the link loop; samples
after 2048 bit times are not taken (R205, R206; assumption log 32). -/
def loopSample (cfg : Settings) (l : Loopback) (b : Bool) : Loopback :=
  match l with
  | .notRunning => .notRunning
  | .sending sent => .sending sent
  | .waiting run n =>
    if Config.loopbackLimit ≤ n then .waiting run n
    else if !b then .waiting 0 (n + 1)
    else if run + 1 < 10 then .waiting (run + 1) (n + 1)
    else .sending (testFrame cfg)

/-- Samples of LINK_RX in the idle wait, in turn (R205). -/
def loopSamples (cfg : Settings) (bits : List Bool) (s : State) : State :=
  s.setLink { s.link with loopback := bits.foldl (loopSample cfg) s.link.loopback }

/-- What the receive engine takes from the link loop: the levels sent, but for the places at which a faulty loop hands on the other level
(R206; assumption log 42). -/
def throughLoop (disturbed : List Nat) (sent : List SentBit) : List Bool :=
  sent.mapIdx fun i b => if disturbed.contains i then !b.level else b.level

/-- The test frame came through the link loop whole: no stuff error, a check that passes, and every field as it was sent (R206). -/
def loopbackPasses (cfg : Settings) (bits : List Bool) : Bool :=
  match loopFrame false 1 [] 0 19 bits with
  | none => false
  | some f => decide (f = { kind := 3, source := cfg.address, group := cfg.group, length := 2, payload := [0#8, 255#8] })

/-- The loopback check ends, and the station enters LISTENING (R176, R206). -/
def endLoopback (cfg : Settings) (r : LoopbackResult) (s : State) : State :=
  enterListening cfg (s.setLink { s.link with loopResult := some r })

end Sys2Proof.Machine
end

