-- ==== Sys2Proof/Machine/Timing.lean ====
section
/-! DEFINITION. The commands that end mains cycles: CROSSING, SOURCE_RETURN_TO_MAINS, LOSS_OF_ZERO_CROSS,
OSCILLATOR_MAINS_CYCLE_END and MAINS_RECOVERY (R1 to R3, R182). -/

namespace Sys2Proof.Machine

/-- An accepted crossing: it measures the period, may end a mains cycle, raises the run and is reported (R1, R3, R182; assumption
log 29). -/
def acceptCrossing (interval : Nat) (s : State) : State :=
  let s1 := s.setTimeBase (measurePeriod interval s.timeBase)
  let s2 := if crossingEnds s.timeBase then mainsCycleEnd s1 else s1
  reportCrossing (s2.setTimeBase (countCrossing s2.timeBase))

/-- A rising edge on ZC (R1). -/
def crossingStep (interval : Nat) (flow : Bool) (s : State) : State :=
  if !monitoring s || crossingIgnored interval s.timeBase then s else acceptCrossing interval (s.setFlowPin flow)

/-- A loss of zero-cross declared (R2). -/
def declareLoss (s : State) : State :=
  let s1 := s.setTimeBase (loseCrossings s.timeBase)
  setMainsLost (if s.timeBase.source = .mains then mainsCycleEnd s1 else s1)

/-- A loss of zero-cross, while monitoring runs (R1, R2). -/
def lossStep (flow : Bool) (s : State) : State := if monitoring s then declareLoss (s.setFlowPin flow) else s

/-- A mains-cycle end by the oscillator, while it is the timing source (R2). -/
def oscillatorStep (flow : Bool) (s : State) : State :=
  if monitoring s && decide (s.timeBase.source = .oscillator) then mainsCycleEnd (s.setFlowPin flow) else s

/-- CROSSING (R1). -/
def execCrossing (interval : Nat) (flow : Bool) (s : State) : Host.Outcome State Fault Refusal :=
  .next (crossingStep interval flow s)

/-- SOURCE_RETURN_TO_MAINS: the crossing that brings the run to eight while the source is OSCILLATOR (R3). -/
def execSourceReturnToMains (interval : Nat) (flow : Bool) (s : State) : Host.Outcome State Fault Refusal :=
  .next (if s.timeBase.source = .oscillator ∧ s.timeBase.run = 7 then crossingStep interval flow s else s)

/-- LOSS_OF_ZERO_CROSS (R2). -/
def execLossOfZeroCross (flow : Bool) (s : State) : Host.Outcome State Fault Refusal := .next (lossStep flow s)

/-- OSCILLATOR_MAINS_CYCLE_END (R2). -/
def execOscillatorMainsCycleEnd (flow : Bool) (s : State) : Host.Outcome State Fault Refusal :=
  .next (oscillatorStep flow s)

/-- MAINS_RECOVERY: the crossing at which the mains-lost mark is cleared (R182). -/
def execMainsRecovery (interval : Nat) (flow : Bool) (s : State) : Host.Outcome State Fault Refusal :=
  let t := crossingStep interval flow s
  .next (if s.supervisor.mainsLost && !t.supervisor.mainsLost then t else s)

end Sys2Proof.Machine
end

