-- ==== Sys2Proof/Machine/Receiving.lean ====
section
/-! DEFINITION. The commands of the receiver, the dispatcher and line tracking: FRAME_RECEIVED, DISPATCH, LINE_IDLE, START_BIT and
QUIET_INTERVAL (R135, R142, R152, R171). -/

namespace Sys2Proof.Machine

/-- A frame being received gets the bits since, and ends if they end it (R142). -/
def frameStep (bits : Line) (flow : Bool) (s : State) : State :=
  whenActive s fun cfg =>
    match s.link.reception with
    | none => s
    | some rx => takeBits cfg (receptionEnd cfg rx) bits (s.setFlowPin flow)

/-- FRAME_RECEIVED (R142). -/
def execFrameReceived (bits : Line) (flow : Bool) (s : State) : Host.Outcome State Fault Refusal :=
  .next (frameStep bits flow s)

/-! ### The dispatcher (R171) -/

/-- A PLACE is off-cycle: its target differs from the low 8 bits of n+1 (R127). -/
def offCycle (target : Byte) (t : TimeBase) : Bool := decide (target ≠ (t.cycle + 1).setWidth 8)

/-- The boundary routes of a PLACE, with the change of group of a neighbour (R103, R108). -/
def deliverBoundaries (e : QueueEntry) (t : PeerTable) : PeerTable :=
  let t1 := updateBoundaries e.routes.upstream e.routes.downstream (placePayload e.payload) t
  if e.routes.placement then t1 else groupChange e.source t1

/-- The placement route of a PLACE: the Peer Table records it and hands it to the map, where the yield test runs; the own address is
not recorded (R71, R82, R99). -/
def deliverPlacement (cfg : Settings) (e : QueueEntry) (order : Nat) (target : Byte) (s : State) : State :=
  if e.source = cfg.address then s
  else
    let runs := (placePayload e.payload).runs
    let s1 := s.setPeers (recordPlacement e.source runs order target s.peers)
    yieldTest cfg (s1.setPlacement { s1.placement with map := setPeer e.source runs order s1.placement.map })

/-- A PLACE entry delivered on all its routes, or discarded off-cycle (R127, R171). -/
def dispatchPlace (cfg : Settings) (e : QueueEntry) (order : Nat) (target : Byte) (s : State) : State :=
  if offCycle target s.timeBase then s.setQueue { s.queue with refusalMark := true }
  else
    let s1 := s.setPeers (deliverBoundaries e s.peers)
    if e.routes.placement then deliverPlacement cfg e order target s1 else s1

/-- A LINE entry delivered to the line state record (R110). -/
def dispatchLine (e : QueueEntry) (s : State) : State :=
  s.setPeers (adoptLine (lineOfPayload e.payload) e.source s.peers)

/-- The head entry taken from the queue and delivered, unless the map is in use (R171, R172). -/
def dispatchHead (cfg : Settings) (s : State) : State :=
  if mapInUse s.placement then s
  else
    match s.queue.entries with
    | [] => s
    | e :: es =>
      let s1 := s.setQueue { s.queue with entries := es }
      match e.order, e.target with
      | some order, some target => dispatchPlace cfg e order target s1
      | _, _ => dispatchLine e s1

/-- DISPATCH (R171). -/
def execDispatch (s : State) : Host.Outcome State Fault Refusal := .next (whenActive s fun cfg => dispatchHead cfg s)

/-! ### Line tracking (R135, R152) -/

/-- LINE_IDLE: bits while line tracking is WAITING_IDLE or IDLE, in every link state, and those of the own reject burst that come after the
command that found the error (R135, R141). -/
def execLineIdle (bits : Line) (s : State) : Host.Outcome State Fault Refusal :=
  .next (whenActive s fun cfg =>
    match s.link.tracking with
    | .waitingIdle _ => takeBits cfg sampleBits bits s
    | .idle _ => takeBits cfg sampleBits bits s
    | .inFrame _ => s
    | .rejecting _ => takeBits cfg sampleBits bits s)

/-- The bit timing right after the sample of another station's Start bit (R134; assumption log 27). -/
def startTimed (s : State) : State := s.setLink { s.link with clock := BitClock.started false }

/-- START_BIT: a dominant bit sampled while line tracking is IDLE; its leading edge has aligned the bit timing, which stands after its sample
(R8, R134, R135; assumption log 27). -/
def execStartBit (s : State) : Host.Outcome State Fault Refusal :=
  .next (whenActive s fun _ =>
    match s.link.tracking with
    | .waitingIdle _ => s
    | .idle _ => startTimed (startReception (quietBits [false] s))
    | .inFrame _ => s
    | .rejecting _ => s)

/-- QUIET_INTERVAL: bits while DETACHED; those past the end of a frame that FRAME_RECEIVED has still to take are kept with it (R152;
assumption log 18). -/
def execQuietInterval (bits : Line) (s : State) : Host.Outcome State Fault Refusal :=
  .next (whenActive s fun cfg =>
    if s.link.state = .detached then takeBits cfg sampleBits bits s else s)

end Sys2Proof.Machine
end

