-- ==== Sys2Proof/Machine/Sending.lean ====
section
/-! DEFINITION. The commands of the sender: CHANCE_TO_SEND, ATTEMPT_END and COMPUTATION_COMPLETION (R81, R136, R145). -/

namespace Sys2Proof.Machine

/-- Recessive bits sampled while line tracking is IDLE: they are counted in every link state, and while DETACHED for quiet intervals
too (R135, R152). -/
def countRecessive (n : Nat) (s : State) : State :=
  match s.link.tracking with
  | .waitingIdle _ => s
  | .idle count =>
    let s1 := s.setLink { s.link with tracking := .idle (count + n) }
    if s.link.state = .detached then quietBits (List.replicate n true) s1 else s1
  | .inFrame _ => s
  | .rejecting _ => s

/-- A chance to send, after recessive bits since the last command: a frame is taken in hand, its Start bit goes out, and the bits
after it are kept. In LISTEN_ONLY and DETACHED there is no chance, and the bits are counted alone (R135 to R137). -/
def chanceStep (cfg : Settings) (recessive : Nat) (bits : Line) (s : State) : State :=
  let s1 := countRecessive recessive s
  if atChance s1.link then
    let s2 := takeInHand cfg s1
    if s2.link.attempt.isSome then takeBits cfg (firstBits cfg) bits s2 else s2
  else s1

/-- CHANCE_TO_SEND (R136). -/
def execChanceToSend (recessive : Nat) (bits : Line) (s : State) : Host.Outcome State Fault Refusal :=
  .next (whenActive s fun cfg => chanceStep cfg recessive bits s)

/-- ATTEMPT_END (R145). -/
def execAttemptEnd (bits : Line) (s : State) : Host.Outcome State Fault Refusal :=
  .next (whenActive s fun cfg =>
    match s.link.attempt with
    | none => s
    | some a => takeBits cfg (fun sampled => attemptBits cfg sampled a) bits s)

/-- COMPUTATION_COMPLETION (R81). -/
def execComputationCompletion (s : State) : Host.Outcome State Fault Refusal :=
  .next (whenActive s fun cfg => completeComputation cfg s)

end Sys2Proof.Machine
end

