-- ==== Sys2Proof/Machine/Measuring.lean ====
section
/-! DEFINITION. The commands of the measurements and the operator: SCAN_COMPLETION, WINDOW_COMPLETION, TRIP_CLEAR_EDGE and HOLD
(R20, R27, R46, R180). -/

namespace Sys2Proof.Machine

/-- A scan completed at the first mains-cycle end after its event, with the trip test of every zone (R19, R27, R39). -/
def scanStep (cfg : Settings) (control limiter : Six (BitVec 16)) (s : State) : State :=
  if s.scanner.scanDue then indexes.foldl (tripTest cfg) (s.setScanner (applyScan cfg control limiter s.scanner)) else s

/-- SCAN_COMPLETION (R27). -/
def execScanCompletion (control limiter : Six (BitVec 16)) (s : State) : Host.Outcome State Fault Refusal :=
  .next (whenActive s fun cfg => scanStep cfg control limiter s)

/-- The sag report of a window, and the sag response it starts (R33, R95). -/
def sagReport (cfg : Settings) (w : Window) (s : State) : State :=
  if s.scanner.voltageClass ≠ some .normal ∧ windowHadGateOn w = true then
    s.setPlacement { s.placement with sagCount := cfg.sagHold }
  else s

/-- The collapse report of a window (R34). -/
def collapseReport (s : State) : State := if s.scanner.voltageClass = some .collapse then setMainsLost s else s

/-- A completed window: the records, the sag report, the heater fault tests of every zone, the collapse report (R20, R28 to R34,
R41 to R45). -/
def windowStep (cfg : Settings) (currents : Six Nat) (voltage : Nat) (s : State) : State :=
  match windowReady s.scanner with
  | none => s
  | some w =>
    collapseReport (indexes.foldl (heaterTests cfg)
      (sagReport cfg w (s.setScanner (applyWindow cfg w currents voltage s.scanner))))

/-- WINDOW_COMPLETION (R20). -/
def execWindowCompletion (currents : Six Nat) (voltage : Nat) (s : State) : Host.Outcome State Fault Refusal :=
  .next (whenActive s fun cfg => windowStep cfg currents voltage s)

/-- TRIP_CLEAR_EDGE (R46). -/
def execTripClearEdge (s : State) : Host.Outcome State Fault Refusal :=
  .next (whenActive s fun cfg => indexes.foldl (clearZone cfg) s)

/-- The supervisor takes HOLD: LISTENING, RUNNING, HELD and MAINS_LOST, with no reset in progress (R180). -/
def takesHold (s : State) : Bool := !resetInProgress s && joinedState s.supervisor.station

/-- The hold request follows HOLD; a release while HELD sets the step record (R180, R181). -/
def followHold (asserted : Bool) (v : Supervisor) : Supervisor :=
  { v with
    holdRequest := asserted
    stepRecord := v.stepRecord || (!asserted && decide (v.station = .held)) }

/-- A change of the level of HOLD (R180, R181). -/
def holdStep (asserted : Bool) (s : State) : State :=
  if s.holdPin = asserted then s
  else
    let s1 := s.setHoldPin asserted
    if takesHold s then s1.setSupervisor (followHold asserted s1.supervisor) else s1

/-- HOLD (R180). -/
def execHold (asserted : Bool) (s : State) : Host.Outcome State Fault Refusal := .next (holdStep asserted s)

end Sys2Proof.Machine
end

