-- ==== Sys2Proof/Machine/Resets.lean ====
section
/-! DEFINITION. The commands of the resets and of start-up: the four resets, RESET_END, READ_COMPLETE and the loopback check
(R195, R197, R198, R205, R206). -/

namespace Sys2Proof.Machine

/-- POWER_ON_RESET (R195). -/
def execPowerOnReset (s : State) : Host.Outcome State Fault Refusal := .next (beginReset .powerOn [] s)

/-- SUPPLY_DIP_RESET (R195, R200). -/
def execSupplyDipReset (disturbed : List (Nat × Byte)) (s : State) : Host.Outcome State Fault Refusal :=
  .next (beginReset .supplyDip disturbed s)

/-- CLOCK_STOP_RESET (R195, R200). -/
def execClockStopReset (disturbed : List (Nat × Byte)) (s : State) : Host.Outcome State Fault Refusal :=
  .next (beginReset .clockStop disturbed s)

/-- EXTERNAL_RESET (R195). -/
def execExternalReset (s : State) : Host.Outcome State Fault Refusal := .next (beginReset .external [] s)

/-- RESET_END: the reset in progress, single or joined, ends (R196, R197). -/
def execResetEnd (s : State) : Host.Outcome State Fault Refusal := .next (if resetInProgress s then endReset s else s)

/-- READ_COMPLETE: levels are sampled on CFG_MISO while the Loader is READING in STARTING (R198). -/
def execReadComplete (bits : List Bool) (s : State) : Host.Outcome State Fault Refusal :=
  .next (if startingUp s && decide (s.loader.state = .reading) then takeMisoBits bits s else s)

/-- The settled fields while the station is STARTING. -/
def startingSettings (s : State) : Option Settings := if startingUp s then s.loader.settled else none

/-- LOOPBACK_IDLE_WAIT_PASSED: bits of LINK_RX in the idle wait, which passes into the test frame (R205, R206). -/
def execLoopbackIdleWaitPassed (bits : Line) (s : State) : Host.Outcome State Fault Refusal :=
  .next (match startingSettings s, s.link.loopback with
    | some cfg, .waiting _ _ => takeBits cfg (loopSamples cfg) bits s
    | _, _ => s)

/-- LOOPBACK_TIMEOUT: 2048 bit times have passed in the idle wait (R205). -/
def execLoopbackTimeout (s : State) : Host.Outcome State Fault Refusal :=
  .next (match startingSettings s, s.link.loopback with
    | some cfg, .waiting _ _ => endLoopback cfg .failed s
    | _, _ => s)

/-- LOOPBACK_CHECK_END: the receive engine has taken the test frame from the link loop (R206). -/
def execLoopbackCheckEnd (disturbed : List Nat) (s : State) : Host.Outcome State Fault Refusal :=
  .next (match startingSettings s, s.link.loopback with
    | some cfg, .sending sent =>
      endLoopback cfg (if loopbackPasses cfg (throughLoop disturbed sent) then .passed else .failed) s
    | _, _ => s)

end Sys2Proof.Machine
end

