-- ==== Sys2Proof/Machine/Occasions.lean ====
section
/-! DEFINITION. The commands that are a moment of another step: each is its occasion, where the named moment comes about in it, and
changes nothing otherwise (95_what_each_step_holds; assumption log 4). -/

namespace Sys2Proof.Machine

/-- The step of an occasion (R1, R2, R142). -/
def occasionStep (o : Occasion) (s : State) : State :=
  match o with
  | .crossing interval flow => crossingStep interval flow s
  | .loss flow => lossStep flow s
  | .oscillator flow => oscillatorStep flow s
  | .frame bits flow => frameStep bits flow s

/-- The step of an occasion in which a moment comes about, told from the states before and after. -/
def whenSeen (seen : State → State → Bool) (o : Occasion) (s : State) : State :=
  let t := occasionStep o s
  if seen s t then t else s

/-- The join ends (R178). -/
def seesJoinEnd (s t : State) : Bool :=
  decide (s.supervisor.station = .listening) && decide (t.supervisor.station ≠ .listening)

/-- A slot-boundary event of slot 0 has been taken. -/
def seesBoundary (s t : State) : Bool := decide (s.timeBase.takenSlot ≠ 0) && decide (t.timeBase.takenSlot = 0)

/-- The station stops being the reference with no good TIME frame and its TIME age at `sync_timeout` or above: the sync state is evaluated
there (R17). A TIME frame of the same step may change it again. -/
def stopsReference (s t : State) : Bool :=
  match activeSettings s with
  | none => false
  | some cfg =>
    isReference cfg s.supervisor.station s.timeBase && !isReference cfg s.supervisor.station t.timeBase &&
      !goodRecently s.timeBase && decide (cfg.syncTimeout ≤ s.timeBase.timeAge)

/-- The sync state turns FREE_RUNNING, to stay or for a moment of the step (R17). -/
def seesSyncTimeout (s t : State) : Bool :=
  decide (s.timeBase.sync ≠ .freeRunning) && (decide (t.timeBase.sync = .freeRunning) || stopsReference s t)

/-- A peer entry is removed (R106). -/
def seesEntryRemoval (s t : State) : Bool := s.peers.entries.any fun e => !hasEntry t.peers e.address

/-- A boundary record turns not valid (R109). -/
def seesRecordExpiry (s t : State) : Bool :=
  (s.peers.upstream.valid && !t.peers.upstream.valid) || (s.peers.downstream.valid && !t.peers.downstream.valid)

/-- The line state record reaches `line_timeout` at a cycle boundary after which the station adopts its own level, in the same step
(R111, R113). -/
def adoptsAtTimeout (s t : State) : Bool :=
  match activeSettings s with
  | none => false
  | some cfg => seesBoundary s t && decide ((ageLine cfg s.peers.line).state = .unknown) && decide (t.peers.line.age = 0)

/-- The line state turns UNKNOWN, to stay or for a moment of the step (R111). -/
def seesLineTimeout (s t : State) : Bool :=
  decide (s.peers.line.state ≠ .unknown) && (decide (t.peers.line.state = .unknown) || adoptsAtTimeout s t)

/-- The sag response ends (R95). -/
def seesSagEnd (s t : State) : Bool := sagActive s.placement && !sagActive t.placement

/-- The period count has reached 16 at a cycle boundary, with a confirmed level to report (R113; assumption log 24). -/
def seesPeriodic (s t : State) : Bool :=
  decide (15 ≤ s.peers.flow.periodCount) && s.peers.flow.confirmed.isSome && decide (t.peers.flow.periodCount = 0) &&
    seesBoundary s t

/-- A zone goes from HOLDING to FALLBACK (R53). -/
def seesFallback (s t : State) : Bool :=
  indexes.any fun z => decide ((s.zones.get z).source = some .holding) && decide ((t.zones.get z).source = some .fallback)

/-- An OFFERED TIME frame has met the next slot-boundary event (R166). -/
def seesExpiry (s t : State) : Bool :=
  decide (s.ring.mailbox = .offered) && decide (s.timeBase.takenSlot ≠ t.timeBase.takenSlot)

/-- JOIN_END (R178). -/
def execJoinEnd (o : Occasion) (s : State) : Host.Outcome State Fault Refusal := .next (whenSeen seesJoinEnd o s)

/-- SYNC_TIMEOUT (R17). -/
def execSyncTimeout (o : Occasion) (s : State) : Host.Outcome State Fault Refusal := .next (whenSeen seesSyncTimeout o s)

/-- ENTRY_REMOVAL (R106). -/
def execEntryRemoval (o : Occasion) (s : State) : Host.Outcome State Fault Refusal := .next (whenSeen seesEntryRemoval o s)

/-- BOUNDARY_RECORD_EXPIRY (R109). -/
def execBoundaryRecordExpiry (o : Occasion) (s : State) : Host.Outcome State Fault Refusal :=
  .next (whenSeen seesRecordExpiry o s)

/-- LINE_STATE_TIMEOUT (R111). -/
def execLineStateTimeout (o : Occasion) (s : State) : Host.Outcome State Fault Refusal :=
  .next (whenSeen seesLineTimeout o s)

/-- SAG_RESPONSE_END (R95). -/
def execSagResponseEnd (o : Occasion) (s : State) : Host.Outcome State Fault Refusal := .next (whenSeen seesSagEnd o s)

/-- PERIODIC_LINE_REQUEST (R113). -/
def execPeriodicLineRequest (o : Occasion) (s : State) : Host.Outcome State Fault Refusal :=
  .next (whenSeen seesPeriodic o s)

/-- FALLBACK (R53). -/
def execFallback (o : Occasion) (s : State) : Host.Outcome State Fault Refusal := .next (whenSeen seesFallback o s)

/-- TIME_MAILBOX_EXPIRY (R166). -/
def execTimeMailboxExpiry (o : Occasion) (s : State) : Host.Outcome State Fault Refusal :=
  .next (whenSeen seesExpiry o s)

end Sys2Proof.Machine
end

