-- ==== Sys2Proof/Machine/Dispatch.lean ====
section
/-! DEFINITION. One arm per command: each is one direct call of its meaning. -/

namespace Sys2Proof.Machine

/-- The effect of a command on everything but the queue. -/
def exec (i : Instr) (s : State) : Host.Outcome State Fault Refusal :=
  match i with
  | .crossing interval flow => Sys2Proof.Machine.execCrossing interval flow s
  | .sourceReturnToMains interval flow => Sys2Proof.Machine.execSourceReturnToMains interval flow s
  | .lossOfZeroCross flow => Sys2Proof.Machine.execLossOfZeroCross flow s
  | .oscillatorMainsCycleEnd flow => Sys2Proof.Machine.execOscillatorMainsCycleEnd flow s
  | .joinEnd o => Sys2Proof.Machine.execJoinEnd o s
  | .syncTimeout o => Sys2Proof.Machine.execSyncTimeout o s
  | .entryRemoval o => Sys2Proof.Machine.execEntryRemoval o s
  | .boundaryRecordExpiry o => Sys2Proof.Machine.execBoundaryRecordExpiry o s
  | .lineStateTimeout o => Sys2Proof.Machine.execLineStateTimeout o s
  | .sagResponseEnd o => Sys2Proof.Machine.execSagResponseEnd o s
  | .periodicLineRequest o => Sys2Proof.Machine.execPeriodicLineRequest o s
  | .fallback o => Sys2Proof.Machine.execFallback o s
  | .computationCompletion => Sys2Proof.Machine.execComputationCompletion s
  | .timeMailboxExpiry o => Sys2Proof.Machine.execTimeMailboxExpiry o s
  | .scanCompletion control limiter => Sys2Proof.Machine.execScanCompletion control limiter s
  | .windowCompletion currents voltage => Sys2Proof.Machine.execWindowCompletion currents voltage s
  | .mainsRecovery interval flow => Sys2Proof.Machine.execMainsRecovery interval flow s
  | .tripClearEdge => Sys2Proof.Machine.execTripClearEdge s
  | .hold asserted => Sys2Proof.Machine.execHold asserted s
  | .frameReceived bits flow => Sys2Proof.Machine.execFrameReceived bits flow s
  | .dispatch => Sys2Proof.Machine.execDispatch s
  | .lineIdle bits => Sys2Proof.Machine.execLineIdle bits s
  | .chanceToSend recessive bits => Sys2Proof.Machine.execChanceToSend recessive bits s
  | .attemptEnd bits => Sys2Proof.Machine.execAttemptEnd bits s
  | .quietInterval bits => Sys2Proof.Machine.execQuietInterval bits s
  | .powerOnReset => Sys2Proof.Machine.execPowerOnReset s
  | .supplyDipReset disturbed => Sys2Proof.Machine.execSupplyDipReset disturbed s
  | .clockStopReset disturbed => Sys2Proof.Machine.execClockStopReset disturbed s
  | .externalReset => Sys2Proof.Machine.execExternalReset s
  | .resetEnd => Sys2Proof.Machine.execResetEnd s
  | .readComplete miso => Sys2Proof.Machine.execReadComplete miso s
  | .loopbackIdleWaitPassed bits => Sys2Proof.Machine.execLoopbackIdleWaitPassed bits s
  | .loopbackTimeout => Sys2Proof.Machine.execLoopbackTimeout s
  | .loopbackCheckEnd disturbed => Sys2Proof.Machine.execLoopbackCheckEnd disturbed s
  | .startBit => Sys2Proof.Machine.execStartBit s

end Sys2Proof.Machine
end

