-- ==== Sys2Proof/Safety.lean ====
section
/-! DEFINITION. What counts as a safe state, in the terms the statements use: the gates, the ring, the line driver, the bounds of
the counts. -/

namespace Sys2Proof.Machine

/-- A gate that is on is one that gate drive gives at the taken slot: the station is RUNNING, the zone is NORMAL with its permit
granted, and the taken slot lies within the zone's run in the current placement (R185). -/
def GatesSafe (s : State) : Prop :=
  ∀ z : Index, s.supervisor.gates.get z = true → gateLevel s s.timeBase.takenSlot z = true

/-- A reset in progress has its station STARTING, which the model writes at its start (R193; assumption log 35). -/
def ResetInStarting (s : State) : Prop := resetInProgress s = true → s.supervisor.station = .starting

/-- The occupied span of the ring: the descriptors of the span are not FREE, those outside it are, the fill position follows it,
and the occupancy is at most six; a ring frame in hand stands SENDING at the head (R158, R160). -/
structure RingSound (s : State) : Prop where
  bound : s.ring.occupancy ≤ 6
  fill : s.ring.fill.val = (s.ring.head.val + s.ring.occupancy) % 6
  inside : ∀ i : Index, occupied s.ring i = true → (s.ring.descriptors.get i).state ≠ .free
  outside : ∀ i : Index, occupied s.ring i = false → (s.ring.descriptors.get i).state = .free
  inHand : s.link.inHand = some .ring → (headDescriptor s.ring).state = .sending

/-- The placement unit's request agrees with the ring: a PLACE or LINE waits only while the ring has no FREE descriptor, a PLACE only while the
request is WAITING, and one at most; a request QUEUED or CANCEL_RECORDED stands on a descriptor of PLACE (R76, R158, R159, R162). -/
structure RequestsSound (s : State) : Prop where
  full : s.ring.waiting ≠ [] → s.ring.occupancy = 6
  waits : (∃ w ∈ s.ring.waiting, w.producer = .place) → s.placement.request = .waiting
  once : (s.ring.waiting.filter fun w => decide (w.producer = .place)).length ≤ 1
  stands : ∀ i : Index, s.placement.request = .queued i ∨ s.placement.request = .cancelRecorded i →
    (s.ring.descriptors.get i).producer = some .place ∧ (s.ring.descriptors.get i).state ≠ .free

/-- The line driver: an attempt is on the line only while the link state lets the station send, within a frame the station is not
receiving, a reject burst only while it is ACTIVE and for seven bits at most, and the link state is LISTEN_ONLY until the join has ended
(R141, R148, R149). -/
structure DriverSafe (s : State) : Prop where
  sends : s.link.attempt.isSome = true → linkSends s.link.state = true ∧ inFrame s.link = true ∧ s.link.reception = none
  rejects : ∀ left : Nat, s.link.tracking = .rejecting left →
    s.link.state = .active ∧ s.link.attempt = none ∧ s.link.reception = none ∧ 1 ≤ left ∧ left ≤ 7
  joining : settledState s.supervisor.station = false → s.link.state = .listenOnly

/-- The counts and tables within the bounds the chapters give them, and the bit timing within a bit (R72, R101, R134, R148, R158,
R169, R170). -/
structure Bounded (s : State) : Prop where
  tec : s.link.tec ≤ 255
  recv : s.link.recv ≤ 255
  queue : s.queue.entries.length ≤ Config.queueSize
  overflow : s.queue.overflow ≤ 255
  entries : s.peers.entries.length ≤ Config.maxEntries
  occupancy : s.ring.occupancy ≤ Config.ringSize
  order : s.placement.orderCounter ≤ 255
  quantum : s.link.clock.quantum < 20
  unit : s.link.clock.unit < 4

/-- A temperature within the range of the part (R22, R54). -/
def inTemperatureRange (t : Int) : Prop := -500 ≤ t ∧ t ≤ 2000

/-- Every temperature, accumulator and demand within the range the chapters give it, under settled fields that passed validation
(R23, R54, R62, R63, R202). -/
structure ValuesInRange (s : State) : Prop where
  settings : ∀ cfg : Settings, s.loader.settled = some cfg → stationFieldsInRange cfg = true
  control : ∀ (z : Index) (t : Int), (s.scanner.control.get z).filtered = some t → inTemperatureRange t
  limiter : ∀ (z : Index) (t : Int), (s.scanner.limiter.get z).filtered = some t → inTemperatureRange t
  used : ∀ (z : Index) (t : Int), (s.zones.get z).tc = some t → inTemperatureRange t
  acc : ∀ z : Index, (s.zones.get z).acc ≤ 8192
  demand : ∀ z : Index, (s.zones.get z).demand ≤ 32
  lastDemand : ∀ z : Index, (s.zones.get z).lastDemand ≤ 32

/-- The Peer Table's keys: at most one entry and at most one set per address, no address with both, none for the own address, and
nothing before the station has entered LISTENING (R101, R102, R107). -/
structure PeersSound (s : State) : Prop where
  entries : (s.peers.entries.map Entry.address).Nodup
  row : (s.peers.row.map RowSet.address).Nodup
  apart : ∀ a : Nat, hasEntry s.peers a = true → hasSet s.peers a = false
  ownAbsent : ∀ cfg : Settings, s.loader.settled = some cfg →
    hasEntry s.peers cfg.address = false ∧ hasSet s.peers cfg.address = false
  before : joinedState s.supervisor.station = false → s.peers.entries = [] ∧ s.peers.row = []

/-- The commands that begin a reset (R195). -/
def beginsReset (c : Instr) : Bool :=
  match c with
  | .powerOnReset => true
  | .supplyDipReset _ => true
  | .clockStopReset _ => true
  | .externalReset => true
  | _ => false

/-- A cycle boundary is due at the next mains-cycle end: the blocks act on the settled fields, the position is the last of slot 31
and slot 31 is taken (R4, R5). -/
structure BoundaryDue (cfg : Settings) (s : State) : Prop where
  active : activeSettings s = some cfg
  slotLen : 1 ≤ cfg.slotLen
  position : s.timeBase.position + 1 = cycleLength cfg
  taken : s.timeBase.takenSlot = 31

/-- The event of a slot other than 0 is due at the next mains-cycle end. -/
structure SlotDue (cfg : Settings) (slot : Nat) (s : State) : Prop where
  active : activeSettings s = some cfg
  slotLen : 1 ≤ cfg.slotLen
  range : 1 ≤ slot ∧ slot ≤ 31
  position : s.timeBase.position + 1 = slot * cfg.slotLen
  taken : s.timeBase.takenSlot + 1 = slot

/-- A crossing would be accepted and end a mains cycle (R1). -/
structure CrossingDue (interval : Nat) (s : State) : Prop where
  monitored : monitoring s = true
  accepted : crossingIgnored interval s.timeBase = false
  mains : s.timeBase.source = .mains

/-- The Load Placement Unit and the ring are at rest: no computation in flight, no request, nothing at the head (R76, R81, R160). -/
structure UnitsAtRest (s : State) : Prop where
  computation : s.placement.computation = none
  request : s.placement.request = .none
  head : (headDescriptor s.ring).state = .free

/-- What the freeze finds when it closes the window without a frame on the line to wait for: the ring's head stands, and the request is NONE,
WAITING, or on a READY descriptor of PLACE, with nothing behind it in the ring when that is the head (R88, R158, R160). -/
structure WindowCloses (s : State) : Prop where
  head : (headDescriptor s.ring).state = .free ∨ ((headDescriptor s.ring).state = .ready ∧ linkSends s.link.state = true) ∨
    (headDescriptor s.ring).state = .sending
  request : s.placement.request = .none ∨ s.placement.request = .waiting ∨
    ∃ i : Index, s.placement.request = .queued i ∧ (s.ring.descriptors.get i).state = .ready ∧
      (s.ring.descriptors.get i).producer = some .place ∧
      (i = s.ring.head → s.ring.occupancy = 1 ∧ s.ring.waiting = [] ∧ (s.ring.descriptors.get (s.ring.head + 1)).state = .free)

/-- A command with a wave of the line does what it does with the bits sampled from it, the bit timing apart, which is left at the beginning of a
quantum, with a mark of an edge taken in its bit (R134). -/
def SampledAs (c : Line → Instr) (wave : Line) (bits : List Bool) (quantum : Nat) (resynced : Bool) (s : State) : Prop :=
  ∃ t u : State, exec (c (.sampled bits)) s = .next t ∧ exec (c wave) s = .next u ∧
    { u with link := { u.link with clock := t.link.clock } } = t ∧
    u.link.clock.quantum = quantum ∧ u.link.clock.resynced = resynced ∧ u.link.clock.unit = 0

/-- The window that WINDOW_COMPLETION completes: the one whose third mains-cycle end has passed, else an open one whose third end is the
next, where the completion comes first (R20, R182; assumption log 10). -/
def WindowCompletes (w : Window) (s : State) : Prop :=
  s.scanner.windowDue = some w ∨ (s.scanner.windowDue = none ∧ s.scanner.window = some w ∧ 2 ≤ w.ends)

/-- Two enabled zones in order along the barrel with no enabled zone between them (R51). -/
structure Adjacent (cfg : Settings) (y z : Index) : Prop where
  order : y < z
  first : (cfg.zone y).enabled = true
  second : (cfg.zone z).enabled = true
  between : ∀ x : Index, y < x → x < z → (cfg.zone x).enabled = false

/-- The runs of a computed placement that stand in the working copy at a zone's turn: those of the STUCK_ON zones and of the zones with a
greater deficit, or with an equal one and a lower number (R77, R78). -/
def placedBefore (c : Computation) (z : Index) (runs : List Run) : List Run :=
  runs.filter fun r => r.stuck || indexes.any fun y => decide (r.zone = y.val + 1) &&
    (decide ((c.zones.get z).deficit < (c.zones.get y).deficit) ||
      (decide ((c.zones.get z).deficit = (c.zones.get y).deficit) && decide (y < z)))

/-- The surcharge that a start of a zone carries: none at start 0 of a zone that continues (R70, R78). -/
def startSurcharge (c : Computation) (z : Index) (start : Nat) : Nat :=
  if start = 0 ∧ (c.zones.get z).continues = true then 0 else (c.zones.get z).surcharge

/-- The place of a start in the order of trial: start 0 of a zone that continues first, then from `pref` up, modulo 32 (R78). -/
def startRank (cfg : Settings) (c : Computation) (z : Index) (start : Nat) : Nat :=
  if start = 0 ∧ (c.zones.get z).continues = true then 0
  else 1 + (start + 32 - (cfg.address * 7 + (z.val + 1) * 5) % 32) % 32

/-- A candidate of a zone fits: in every slot it would cover, the working copy at the zone's turn, the load, and the surcharge in its first
slot come to at most the effective budget (R78). -/
def CandidateFits (c : Computation) (z : Index) (runs : List Run) (length start : Nat) : Prop :=
  ∀ k : Nat, k < 32 → (k + 32 - start) % 32 < length →
    cellTotal (setOwn (placedBefore c z runs) Config.ownOrder c.others) k + (c.zones.get z).load +
      (if k = start then startSurcharge c z start else 0) ≤ c.budget

/-- A slot has to be shed: the own contribution is latest there, the total exceeds the freeze limit, and an own run without the stuck mark
covers it (R91). -/
def HasToShed (limit order : Nat) (others : List Contribution) (runs : List Run) (k : Nat) : Prop :=
  ownLatest (setOwn runs order others) k = true ∧ limit < cellTotal (setOwn runs order others) k ∧
    ∃ r ∈ runs, r.stuck = false ∧ r.covers k = true

/-- What a cut in a slot leaves of a run: its slots before that one, or nothing when it is cut at its first slot (R91). -/
def leftOfRun (k : Nat) (r : Run) : List Run :=
  if (k + 32 - r.start) % 32 = 0 then [] else [{ r with length := (k + 32 - r.start) % 32 }]

/-- One cut of shedding: in the lowest slot that has to be shed, the last run in placement order that covers it without the stuck mark is cut
from that slot on (R91). -/
def ShedCut (limit order : Nat) (others : List Contribution) (runs rest : List Run) : Prop :=
  ∃ (k : Nat) (before behind : List Run) (r : Run), k < 32 ∧ HasToShed limit order others runs k ∧
    (∀ j : Nat, j < k → ¬HasToShed limit order others runs j) ∧
    runs = before ++ r :: behind ∧ r.stuck = false ∧ r.covers k = true ∧ (∀ q ∈ behind, q.covers k = true → q.stuck = true) ∧
    rest = before ++ leftOfRun k r ++ behind

/-- Runs whose load, surcharges included, is at most `unannounced_ration` in every slot (R92). -/
def WithinRation (cfg : Settings) (runs : List Run) : Prop :=
  ∀ k : Nat, k < 32 → (runs.map fun r => r.loadIn k).sum ≤ cfg.ration

/-- A PLACE at the head of the queue that is due on the placement route, and makes the own placement yield in the announce window of a
RUNNING station (R71, R82, R171). -/
structure YieldingDispatch (cfg : Settings) (e : QueueEntry) (es : List QueueEntry) (order : Nat) (s : State) : Prop where
  active : activeSettings s = some cfg
  computation : s.placement.computation = none
  queue : s.queue.entries = e :: es
  numbered : e.order = some order
  target : e.target = some ((s.timeBase.cycle + 1).setWidth 8)
  route : e.routes.placement = true
  source : e.source ≠ cfg.address
  station : s.supervisor.station = .running
  window : 8 ≤ s.timeBase.takenSlot ∧ s.timeBase.takenSlot < 28
  yields : yieldFails cfg (setPeer e.source (placePayload e.payload).runs order s.placement.map) = true

end Sys2Proof.Machine
end

