-- ==== Sys2Proof/Certificates/Slice0/Obligations.lean ====
section
/-! DEFINITION. The statements for the provers: one definition per statement, each with the rule it formalises. A statement that rests on
the model's own choice names its log entry. Lists: timing; slot points; scanning and zones; placement; peers and frames; the link; the ring;
resets; invariants. -/

open Sys2Proof Sys2Proof.Machine

/-! ### The queue, and the frame of every command -/

/-- A step takes the command at the front of the queue and runs it on the state with the rest of the queue. With no command waiting the block
idles: the model's choice (assumption log 3). -/
def Obligations.StepRunsTheFrontCommand : Prop :=
  (∀ (c : Instr) (cs : List Instr) (s : State), s.pending = c :: cs → step s = exec c { s with pending := cs }) ∧
  (∀ s : State, s.pending = [] → step s = .next s)

/-- Every command answers a next state, which leaves the queue as it was. Only HOLD moves the level at the HOLD pin; only a reset and
RESET_END change the kinds of the reset in progress, and RESET_END alone the cause record (R195, R196); only a reset, RESET_END and
READ_COMPLETE change the Loader, and with it the settled fields (R204); a set contactor latch is cleared by POWER_ON_RESET alone (R188);
only a reset and SCAN_COMPLETION change a channel, and only a reset and WINDOW_COMPLETION a measurement or the voltage (R19, R20, R35). -/
def Obligations.EveryCommandKeepsQueuePinsAndLatch : Prop :=
  ∀ (c : Instr) (s : State), ∃ t : State, exec c s = .next t ∧
    t.pending = s.pending ∧
    ((∀ b : Bool, c ≠ .hold b) → t.holdPin = s.holdPin) ∧
    (beginsReset c = false → c ≠ .resetEnd → t.resets = s.resets) ∧
    (c ≠ .resetEnd → t.supervisor.cause = s.supervisor.cause) ∧
    (beginsReset c = false → c ≠ .resetEnd → (∀ l, c ≠ .readComplete l) → t.loader = s.loader) ∧
    (c ≠ .powerOnReset → s.supervisor.contactorLatch = true → t.supervisor.contactorLatch = true) ∧
    (beginsReset c = false → (∀ a b, c ≠ .scanCompletion a b) →
      t.scanner.control = s.scanner.control ∧ t.scanner.limiter = s.scanner.limiter) ∧
    (beginsReset c = false → (∀ a b, c ≠ .windowCompletion a b) →
      t.scanner.zones = s.scanner.zones ∧ t.scanner.voltage = s.scanner.voltage ∧
      t.scanner.voltageClass = s.scanner.voltageClass)

/-- While a reset is in progress, a command other than a reset, RESET_END and HOLD changes nothing: every block holds its reset values for as
long as the reset is in progress (R18, R35, R66, R98, R115, R157, R174, R175, R193, R208; that a command that cannot come about changes
nothing is assumption log 2). In CONFIG_FAULT no event is taken: nothing but a reset changes the state, and HOLD moves its pin alone
(R177). -/
def Obligations.ResetAndConfigFaultTakeNoEvent : Prop :=
  (∀ (c : Instr) (s : State), resetInProgress s = true → beginsReset c = false → c ≠ .resetEnd → (∀ b : Bool, c ≠ .hold b) →
    exec c s = .next s) ∧
  (∀ (c : Instr) (s : State), resetInProgress s = false → s.supervisor.station = .configFault → beginsReset c = false →
    ((∀ b : Bool, c ≠ .hold b) → exec c s = .next s) ∧ (∀ b : Bool, c = .hold b → exec c s = .next { s with holdPin := b }))

/-! ### Crossings, losses and the oscillator (R1 to R4, R182, R183) -/

/-- CROSSING: a crossing less than half a nominal period after the last accepted one is ignored (R1). That its FLOW level is not taken either
is the model's choice (assumption log 23). CROSSING on OSCILLATOR, short of the run of eight: it is counted and reported, measures no
period and ends no mains cycle; nothing else changes (R1, R182). CROSSING on MAINS within a slot: it measures the period from an accepted
predecessor, sets the class, advances the position by one and the scan in progress and the window by an end, and counts and reports the
crossing; nothing else changes (R1, R4, R19, R20, R182). That a scan or window ended here waits for its completion until the next end, and
lapses there, is assumption log 10. -/
def Obligations.CrossingCountsBySource : Prop :=
  (∀ (s : State) (interval : Nat) (flow : Bool), s.timeBase.crossingSeen = true →
    interval < (match s.timeBase.mainsClass with | .hz50 => 10000 | .hz60 => 8350) →
    exec (.crossing interval flow) s = .next s) ∧
  (∀ (s : State) (interval : Nat) (flow : Bool), monitoring s = true → crossingIgnored interval s.timeBase = false →
    s.timeBase.source = .oscillator → s.timeBase.run ≠ 7 →
    exec (.crossing interval flow) s = .next
      { s with
        flowPin := flow
        timeBase := { s.timeBase with run := min 255 (s.timeBase.run + 1), crossingSeen := true, periodBase := false }
        supervisor := { s.supervisor with
          recovery := if s.scanner.voltageClass = some .normal then min 8 (s.supervisor.recovery + 1) else 0
          mainsLost := s.supervisor.mainsLost &&
            !(decide (s.scanner.voltageClass = some .normal) && decide (7 ≤ s.supervisor.recovery)) } }) ∧
  (∀ (cfg : Settings) (s : State) (interval : Nat) (flow : Bool), activeSettings s = some cfg →
    crossingIgnored interval s.timeBase = false → s.timeBase.source = .mains → 1 ≤ cfg.slotLen →
    s.timeBase.position + 1 < 32 * cfg.slotLen → (s.timeBase.position + 1) / cfg.slotLen = s.timeBase.position / cfg.slotLen →
    exec (.crossing interval flow) s = .next
      { s with
        flowPin := flow
        timeBase := { s.timeBase with
          position := s.timeBase.position + 1
          measuredPeriod := if s.timeBase.periodBase then some interval else s.timeBase.measuredPeriod
          mainsClass := if s.timeBase.periodBase then (if interval < 18200 then .hz60 else .hz50) else s.timeBase.mainsClass
          run := min 255 (s.timeBase.run + 1)
          crossingSeen := true
          periodBase := true }
        scanner := { s.scanner with
          scan := false
          scanDue := s.scanner.scan
          window := s.scanner.window.bind fun w =>
            if w.ends = 0 then some { w with ends := 1 }
            else if w.ends = 1 then some { w with ends := 2, level := s.supervisor.gates } else none
          windowDue := s.scanner.window.bind fun w => if 2 ≤ w.ends then some w else none }
        supervisor := { s.supervisor with
          recovery := if s.scanner.voltageClass = some .normal then min 8 (s.supervisor.recovery + 1) else 0
          mainsLost := s.supervisor.mainsLost &&
            !(decide (s.scanner.voltageClass = some .normal) && decide (7 ≤ s.supervisor.recovery)) } })

/-- SOURCE_RETURN_TO_MAINS: the eighth crossing of a run on OSCILLATOR returns the source to MAINS, gives no period, and ends the mains cycle
in progress: the position advances by one from LISTENING on and stands in STARTING (R3, R4). MAINS_RECOVERY: the crossing that brings the
recovery count to 8, above the sag level, clears the mains-lost mark; the station state is not changed by the crossing itself within a
slot (R182, R184). -/
def Obligations.EighthCrossingReturnsAndRecovers : Prop :=
  (∀ (s : State) (interval : Nat) (flow : Bool), monitoring s = true → crossingIgnored interval s.timeBase = false →
    s.timeBase.source = .oscillator → s.timeBase.run = 7 →
    ∃ t : State, exec (.sourceReturnToMains interval flow) s = .next t ∧
      t.timeBase.source = .mains ∧ t.timeBase.run = 8 ∧ t.timeBase.periodBase = true ∧
      t.timeBase.measuredPeriod = s.timeBase.measuredPeriod ∧ t.timeBase.mainsClass = s.timeBase.mainsClass ∧
      (∀ cfg : Settings, activeSettings s = some cfg →
        t.timeBase.position = (s.timeBase.position + 1) % (32 * cfg.slotLen)) ∧
      (activeSettings s = none → t.timeBase.position = s.timeBase.position)) ∧
  (∀ (s : State) (interval : Nat) (flow : Bool), monitoring s = true → crossingIgnored interval s.timeBase = false →
    s.supervisor.mainsLost = true → s.supervisor.recovery = 7 → s.scanner.voltageClass = some .normal →
    ∃ t : State, exec (.mainsRecovery interval flow) s = .next t ∧ exec (.crossing interval flow) s = .next t ∧
      t.supervisor.mainsLost = false ∧ t.supervisor.recovery = 8 ∧ t.timeBase.run = min 255 (s.timeBase.run + 1) ∧
      (s.timeBase.source = .oscillator → s.timeBase.run ≠ 7 →
        t.supervisor.station = s.supervisor.station ∧ t.timeBase.position = s.timeBase.position))

/-- LOSS_OF_ZERO_CROSS: the run becomes 0, the source OSCILLATOR, and the supervisor sets the mains-lost mark with its recovery count at 0; a
station that was RUNNING or HELD is MAINS_LOST with every gate off, its step record clear and the change mark set; on OSCILLATOR no mains
cycle ends, and zones, scanner measurements, placement, peers, link and ring stand (R2, R182, R183). That the mains cycle a loss ends on
MAINS comes before the report, and the change mark after it, is the order of assumption log 29. OSCILLATOR_MAINS_CYCLE_END: while the
source is OSCILLATOR it ends one mains cycle, counted by the position and the scanner alone within a slot, and by nobody in STARTING (R2,
R4, R19, R20). That the command changes nothing while the source is MAINS, where the oscillator ends no mains cycle, is assumption log 2;
that a scan or window ended here waits for its completion until the next end is assumption log 10. -/
def Obligations.LossAndOscillatorKeepTimeWithoutMains : Prop :=
  (∀ (s : State) (flow : Bool), monitoring s = true →
    ∃ t : State, exec (.lossOfZeroCross flow) s = .next t ∧
      t.timeBase.run = 0 ∧ t.timeBase.source = .oscillator ∧ t.timeBase.periodBase = false ∧
      t.supervisor.mainsLost = true ∧ t.supervisor.recovery = 0 ∧
      (s.supervisor.station = .running ∨ s.supervisor.station = .held →
        t.supervisor.station = .mainsLost ∧ (∀ z : Index, t.supervisor.gates.get z = false) ∧
        t.supervisor.stepRecord = false ∧ t.supervisor.changeMark = true) ∧
      (s.timeBase.source = .oscillator →
        t.timeBase.position = s.timeBase.position ∧ t.zones = s.zones ∧ t.scanner.zones = s.scanner.zones ∧
        t.placement = s.placement ∧ t.peers = s.peers ∧ t.link = s.link ∧ t.ring = s.ring ∧ t.queue = s.queue ∧
        t.loader = s.loader)) ∧
  (∀ (s : State) (flow : Bool),
    (s.timeBase.source = .mains → exec (.oscillatorMainsCycleEnd flow) s = .next s) ∧
    (monitoring s = true → s.timeBase.source = .oscillator → activeSettings s = none →
      exec (.oscillatorMainsCycleEnd flow) s = .next { s with flowPin := flow }) ∧
    (∀ cfg : Settings, activeSettings s = some cfg → s.timeBase.source = .oscillator → 1 ≤ cfg.slotLen →
      s.timeBase.position + 1 < 32 * cfg.slotLen → (s.timeBase.position + 1) / cfg.slotLen = s.timeBase.position / cfg.slotLen →
      exec (.oscillatorMainsCycleEnd flow) s = .next
        { s with
          flowPin := flow
          timeBase := { s.timeBase with position := s.timeBase.position + 1 }
          scanner := { s.scanner with
            scan := false
            scanDue := s.scanner.scan
            window := s.scanner.window.bind fun w =>
              if w.ends = 0 then some { w with ends := 1 }
              else if w.ends = 1 then some { w with ends := 2, level := s.supervisor.gates } else none
            windowDue := s.scanner.window.bind fun w => if 2 ≤ w.ends then some w else none } }))

/-! ### The cycle boundary (R6, R15, R38, R95, R96, R105 to R113, R178, R179) -/

/-- JOIN_END: at a cycle boundary at which the join count reaches `join_cycles` with the mains-lost mark clear, the station enters RUNNING;
the link state is decided from the loopback result and the clash record, the join flag is looked at and cleared, and every NORMAL zone
takes its mode from its Tc used (R15, R56, R149, R178). A cycle boundary (here by CROSSING) takes the cycle number to the old one + 1 +
the pending offset, ages both TIME ages, moves the heard address to the previous-cycle field, takes slot 0 and moves the station by R179:
RUNNING with the hold request to HELD, HELD with the step record to RUNNING, MAINS_LOST with the mark clear to HELD or RUNNING (R6, R179,
R184). -/
def Obligations.CycleBoundaryMovesTheStation : Prop :=
  (∀ (cfg : Settings) (s : State) (interval : Nat) (flow : Bool), BoundaryDue cfg s → CrossingDue interval s →
    s.supervisor.station = .listening → cfg.joinCycles ≤ 16 → cfg.joinCycles ≤ s.supervisor.joinCount + 1 →
    s.supervisor.mainsLost = false →
    ∃ t : State, exec (.joinEnd (.crossing interval flow)) s = .next t ∧
      t.supervisor.station = .running ∧ t.supervisor.joinCount = min 16 (s.supervisor.joinCount + 1) ∧
      t.supervisor.changeMark = true ∧
      t.link.state = (if s.link.loopResult = some .passed ∧ s.link.clash = false then .active else .listenOnly) ∧
      t.timeBase.joinFlag = false ∧ (s.timeBase.joinFlag = false → t.timeBase.reference = some cfg.address ∧ t.timeBase.sync = .synced) ∧
      ∀ z : Index, (s.zones.get z).condition = .normal →
        (t.zones.get z).mode = some (if isCold cfg (s.zones.get z).tc then .coldStart else .regulating) ∧
        (t.zones.get z).acc = (if isCold cfg (s.zones.get z).tc then 0 else cfg.warmPreset)) ∧
  (∀ (cfg : Settings) (s : State) (interval : Nat) (flow : Bool), BoundaryDue cfg s → CrossingDue interval s →
    ∃ t : State, exec (.crossing interval flow) s = .next t ∧
      t.timeBase.position = 0 ∧ t.timeBase.takenSlot = 0 ∧
      t.timeBase.cycle = s.timeBase.cycle + 1 + s.timeBase.pendingOffset ∧ t.timeBase.pendingOffset = 0 ∧
      t.timeBase.timeAge = min 255 (s.timeBase.timeAge + 1) ∧ t.timeBase.goodAge = s.timeBase.goodAge.map (fun a => min 255 (a + 1)) ∧
      t.timeBase.heardNow = none ∧
      (s.supervisor.station ≠ .listening → t.timeBase.heardBefore = s.timeBase.heardNow) ∧
      (s.supervisor.station = .running → t.supervisor.station = if s.supervisor.holdRequest then .held else .running) ∧
      (s.supervisor.station = .held →
        t.supervisor.station = (if s.supervisor.stepRecord then .running else .held) ∧ t.supervisor.stepRecord = false) ∧
      (s.supervisor.station = .mainsLost →
        t.supervisor.station =
          if s.supervisor.mainsLost then .mainsLost else if s.supervisor.holdRequest then .held else .running))

/-- The rollover at a cycle boundary (here by CROSSING) of a unit at rest: the frozen placement becomes the current one without the runs of
zones no longer STUCK_ON, the window's record is emptied, the revision count moves on, the sag count goes down, and every NORMAL zone has
its permit (R38, R95, R96). A rollover that finds a request standing: it becomes NONE with the rest of the window's record. A WAITING one
leaves the waiting list; a QUEUED one is cancelled: behind the head it is VOID, at the head it completes and is released, on the line it
has its cancel mark and keeps its course, between attempts it completes and is dropped; a CANCEL_RECORDED one keeps its course (R96, R160
to R163). A PLACE is in the waiting list only while the request is WAITING, and only while the ring is full (R159). The late completion of
an own PLACE frame that no request stands on: ATTEMPT_END with success releases its descriptor, and the placement unit stands (R96, R161). -/
def Obligations.RolloverInstallsTheFrozenPlacement : Prop :=
  (∀ (cfg : Settings) (s : State) (interval : Nat) (flow : Bool), BoundaryDue cfg s → CrossingDue interval s → UnitsAtRest s →
    ∃ t : State, exec (.crossing interval flow) s = .next t ∧
      t.placement.current = (s.placement.frozen.getD []).filter (fun r =>
        !r.stuck || indexes.any fun z => decide (z.val + 1 = r.zone) && decide ((s.zones.get z).condition = .stuckOn)) ∧
      t.placement.working = none ∧ t.placement.announced = none ∧ t.placement.frozen = none ∧ t.placement.lastFailure = none ∧
      t.placement.request = .none ∧ t.placement.map = [] ∧ t.placement.orderCounter = 0 ∧ t.placement.viewFlag = false ∧
      t.placement.revisionsBefore = s.placement.revisionsSent ∧ t.placement.revisionsSent = 0 ∧
      t.placement.sagCount = s.placement.sagCount - 1 ∧ t.placement.unannounced = s.placement.unannounced ∧
      ∀ z : Index, (t.zones.get z).condition = (s.zones.get z).condition ∧
        ((s.zones.get z).condition = .normal → (t.zones.get z).permit = true) ∧
        ((s.zones.get z).condition ≠ .normal → (t.zones.get z).permit = (s.zones.get z).permit)) ∧
  (∀ (cfg : Settings) (s : State) (interval : Nat) (flow : Bool), BoundaryDue cfg s → CrossingDue interval s → RingSound s →
    RequestsSound s →
    settledState s.supervisor.station = true → linkSends s.link.state = true → s.placement.computation = none →
    (headDescriptor s.ring).state = .ready ∨ (headDescriptor s.ring).state = .sending →
    ∃ t : State, exec (.crossing interval flow) s = .next t ∧
      t.placement.request = .none ∧ t.placement.working = none ∧ t.placement.announced = none ∧ t.placement.frozen = none ∧
      t.placement.lastFailure = none ∧ t.placement.map = [] ∧ t.placement.orderCounter = 0 ∧
      (s.placement.request = .waiting →
        (s.ring.waiting.filter fun w => decide (w.producer ≠ .place)).IsPrefix t.ring.waiting ∧
        (∀ w ∈ t.ring.waiting, w.producer ≠ .place) ∧ t.ring.head = s.ring.head ∧
        ∀ i : Index, occupied s.ring i = true → t.ring.descriptors.get i = s.ring.descriptors.get i) ∧
      (∀ i : Index, s.placement.request = .queued i → occupied s.ring i = true →
        ((s.ring.descriptors.get i).state = .ready → i ≠ s.ring.head →
          t.ring.head = s.ring.head ∧ t.ring.descriptors.get i = { s.ring.descriptors.get i with state := .void }) ∧
        ((s.ring.descriptors.get i).state = .ready → s.ring.occupancy = 1 → s.ring.waiting = [] →
          t.ring.head = s.ring.head + 1 ∧ t.ring.descriptors.get i = Descriptor.freed) ∧
        ((s.ring.descriptors.get i).state = .sending → s.link.attempt.isSome = true → s.link.inHand = some .ring →
          t.ring.head = s.ring.head ∧ t.ring.descriptors.get i = { s.ring.descriptors.get i with cancel := true } ∧
          t.link.attempt = s.link.attempt ∧ t.link.inHand = some .ring) ∧
        ((s.ring.descriptors.get i).state = .sending → s.link.attempt = none → s.ring.occupancy = 1 → s.ring.waiting = [] →
          t.ring.head = s.ring.head + 1 ∧ t.ring.descriptors.get i = Descriptor.freed ∧ t.link.inHand ≠ some .ring)) ∧
      (∀ i : Index, s.placement.request = .cancelRecorded i → occupied s.ring i = true →
        t.ring.head = s.ring.head ∧ t.ring.descriptors.get i = s.ring.descriptors.get i ∧ t.link.attempt = s.link.attempt ∧
        t.link.inHand = s.link.inHand)) ∧
  (∀ (cfg : Settings) (s : State) (a : Attempt) (bits : List Bool), activeSettings s = some cfg → s.link.attempt = some a →
    s.link.inHand = some .ring → (headDescriptor s.ring).state = .sending → (headDescriptor s.ring).producer = some .place →
    linkSends s.link.state = true → s.link.tec < 192 → s.placement.computation = none → s.placement.request = .none →
    s.ring.occupancy = 1 → s.ring.waiting = [] → s.ring.descriptors.get (s.ring.head + 1) = Descriptor.freed →
    txCompare a.sent (a.samples ++ bits) = .success [] →
    ∃ t : State, exec (.attemptEnd (.sampled bits)) s = .next t ∧
      t.ring = { s.ring with
        descriptors := s.ring.descriptors.set s.ring.head Descriptor.freed, head := s.ring.head + 1, occupancy := 0 } ∧
      t.placement = s.placement ∧ t.link.inHand = none ∧ t.link.attempt = none ∧ t.peers = s.peers ∧ t.supervisor = s.supervisor)

/-- SYNC_TIMEOUT: a cycle boundary at which a station that is not the reference has heard no good TIME frame in the current or the previous
cycle and its TIME age reaches `sync_timeout` makes the sync state FREE_RUNNING, and the view incomplete (R6, R17, R74). ENTRY_REMOVAL: at
a cycle boundary every entry is compared with the cycle that begins, becomes SILENT without a placement, and is removed when its silent
count exceeds `silent_limit`; the row is emptied. An entry SILENT for `silent_limit` windows already is thereby removed (R105, R106).
BOUNDARY_RECORD_EXPIRY: a cycle boundary ages both boundary records, and a valid record of age 2 is not valid after it (R109).
LINE_STATE_TIMEOUT: at the cycle boundary at which its age reaches `line_timeout` the line state record becomes UNKNOWN with no source
(R111). The station is at rest and does not sense flow, so that it adopts no report of its own at the boundary. SAG_RESPONSE_END: the
cycle boundary that takes the sag response count from 1 to 0 ends the response (R95). -/
def Obligations.CycleBoundaryEndsWhatHasAged : Prop :=
  (∀ (cfg : Settings) (s : State) (interval : Nat) (flow : Bool), BoundaryDue cfg s → CrossingDue interval s →
    settledState s.supervisor.station = true → s.timeBase.sync ≠ .freeRunning →
    (∃ a : Nat, s.timeBase.heardNow = some a ∧ a < cfg.address) →
    (∀ a : Nat, s.timeBase.goodAge = some a → 1 ≤ a) → cfg.syncTimeout ≤ 255 → cfg.syncTimeout ≤ s.timeBase.timeAge + 1 →
    ∃ t : State, exec (.syncTimeout (.crossing interval flow)) s = .next t ∧
      t.timeBase.sync = .freeRunning ∧ viewIncomplete t = true ∧
      t.timeBase.timeAge = min 255 (s.timeBase.timeAge + 1) ∧ t.timeBase.reference = s.timeBase.heardNow ∧
      t.timeBase.cycle = s.timeBase.cycle + 1 + s.timeBase.pendingOffset) ∧
  (∀ (cfg : Settings) (s : State) (interval : Nat) (flow : Bool) (a : Nat), BoundaryDue cfg s → CrossingDue interval s →
    cfg.silentLimit ≤ 14 → hasEntry s.peers a = true →
    (∀ e ∈ s.peers.entries, e.address = a → e.state = .silent ∧ cfg.silentLimit ≤ e.silentCount) →
    ∃ t : State, exec (.entryRemoval (.crossing interval flow)) s = .next t ∧
      hasEntry t.peers a = false ∧ t.peers.row = [] ∧
      t.peers.entries = (s.peers.entries.map (fun e =>
        { e with
          state := .silent
          silentCount :=
            if e.state = .fresh ∧ e.lastHeard = (s.timeBase.cycle + 1 + s.timeBase.pendingOffset).setWidth 8 then 0
            else min 15 (e.silentCount + 1)
          next := none
          order := none })).filter (fun e => decide (e.silentCount ≤ cfg.silentLimit))) ∧
  (∀ (cfg : Settings) (s : State) (interval : Nat) (flow : Bool), BoundaryDue cfg s → CrossingDue interval s →
    (s.peers.upstream.age = 2 ∧ s.peers.upstream.temperature.isSome = true) ∨
      (s.peers.downstream.age = 2 ∧ s.peers.downstream.temperature.isSome = true) →
    ∃ t : State, exec (.boundaryRecordExpiry (.crossing interval flow)) s = .next t ∧
      t.peers.upstream = { s.peers.upstream with age := min 255 (s.peers.upstream.age + 1) } ∧
      t.peers.downstream = { s.peers.downstream with age := min 255 (s.peers.downstream.age + 1) } ∧
      (s.peers.upstream.age = 2 → t.peers.upstream.valid = false) ∧
      (s.peers.downstream.age = 2 → t.peers.downstream.valid = false)) ∧
  (∀ (cfg : Settings) (s : State) (interval : Nat) (flow : Bool), BoundaryDue cfg s → CrossingDue interval s → UnitsAtRest s →
    cfg.flowSensing = false → s.peers.line.state ≠ .unknown → cfg.lineTimeout ≤ 255 → cfg.lineTimeout ≤ s.peers.line.age + 1 →
    ∃ t : State, exec (.lineStateTimeout (.crossing interval flow)) s = .next t ∧
      t.peers.line = { state := .unknown, source := none, age := min 255 (s.peers.line.age + 1) }) ∧
  (∀ (cfg : Settings) (s : State) (interval : Nat) (flow : Bool), BoundaryDue cfg s → CrossingDue interval s →
    s.placement.sagCount = 1 →
    ∃ t : State, exec (.sagResponseEnd (.crossing interval flow)) s = .next t ∧
      t.placement.sagCount = 0 ∧ sagActive t.placement = false ∧ t.timeBase.takenSlot = 0)

/-- PERIODIC_LINE_REQUEST: the cycle boundary at which the period count reaches 16 requests a LINE frame with the confirmed level, the change
cycle, the change flag clear, the held flag of the station state and the new cycle number, and the count begins again from 0 (R113, R124,
R158). That a level confirmed at the FLOW sample of that very event does not enter this report is the model's order (assumption log 13).
LINE_STATE_TIMEOUT at a sensing station that cannot send: the record turns UNKNOWN, and the periodic report of the same boundary makes the
station adopt its own level (R111, R113). -/
def Obligations.PeriodicLineReportIsRequested : Prop :=
  (∀ (cfg : Settings) (s : State) (interval : Nat) (flow : Bool) (level : FlowLevel), BoundaryDue cfg s → CrossingDue interval s →
    UnitsAtRest s → cfg.flowSensing = true → settledState s.supervisor.station = true → linkSends s.link.state = true →
    s.peers.flow.confirmed = some level → s.peers.flow.request = .none → s.peers.flow.periodCount = 15 → s.ring.occupancy < 6 →
    ∃ t : State, exec (.periodicLineRequest (.crossing interval flow)) s = .next t ∧
      t.peers.flow.request = .queued ∧ t.peers.flow.carried = some level ∧ t.peers.flow.periodCount = 0 ∧
      t.ring.occupancy = s.ring.occupancy + 1 ∧ t.ring.fill = s.ring.fill + 1 ∧
      t.ring.descriptors.get s.ring.fill =
        { state := .ready, reason := none, producer := some .line, cancel := false,
          payload := lineBytes level s.peers.flow.changeCycle false (decide (t.supervisor.station = .held)) t.timeBase.cycle }) ∧
  (∀ (cfg : Settings) (s : State) (interval : Nat) (flow : Bool) (level : FlowLevel), BoundaryDue cfg s → CrossingDue interval s →
    UnitsAtRest s → cfg.flowSensing = true → settledState s.supervisor.station = true → linkSends s.link.state = false →
    s.peers.flow.confirmed = some level → s.peers.flow.request = .none → s.peers.flow.periodCount = 15 →
    s.peers.line.state ≠ .unknown → cfg.lineTimeout ≤ 255 → cfg.lineTimeout ≤ s.peers.line.age + 1 →
    ∃ t : State, exec (.lineStateTimeout (.crossing interval flow)) s = .next t ∧
      t.peers.flow.periodCount = 0 ∧ t.peers.flow.confirmed ≠ none ∧ t.peers.flow.request = .none ∧
      t.peers.line = { state := if t.peers.flow.confirmed = some .flowing then .flowing else .standing,
                       source := some cfg.address, age := 0 })

/-- A sample of FLOW: one equal to the confirmed level empties the candidate; another becomes the candidate, and confirmed at the second in a
row, with the cycle of its event as the change cycle (R112). A change confirmed at a slot-boundary event (here by CROSSING) in RUNNING,
HELD or MAINS_LOST requests a LINE frame with the change flag set, or makes a station whose link cannot send adopt its own level; the
period count begins again. In LISTENING the level is confirmed and nothing is requested (R112, R113, R124, R158). That the sample comes
before the demand point, the freeze or the status point of the same event is assumption log 12. The first report: the cycle boundary at
which a sensing station with a confirmed level enters RUNNING from LISTENING requests a LINE frame with the change flag clear when the
link becomes ACTIVE there, and otherwise the station adopts its own level (R113, R149). That the FLOW sample of the same event comes after
it is the model's order (assumption log 13). A station that does not sense flow takes no sample: at every slot-boundary event, of slot 0
and of slots 1 to 31, of a unit at rest with no request waiting, its flow sender record stands (R112, R113). -/
def Obligations.FlowSenderReportsItsLevel : Prop :=
  (∀ (x : FlowLevel) (now : Cycle) (f : FlowSender),
    (f.confirmed = some x → sampleFlow x now f = ({ f with candidate := none, candidateCount := 0 }, false)) ∧
    (f.confirmed ≠ some x → f.candidate ≠ some x → sampleFlow x now f = ({ f with candidate := some x, candidateCount := 1 }, false)) ∧
    (f.confirmed ≠ some x → f.candidate = some x → sampleFlow x now f =
      ({ f with confirmed := some x, changeCycle := now.setWidth 8, candidate := none, candidateCount := 0 }, true))) ∧
  (∀ (cfg : Settings) (slot : Nat) (s : State) (interval : Nat) (flow : Bool) (x : FlowLevel), SlotDue cfg slot s →
    CrossingDue interval s → UnitsAtRest s → cfg.flowSensing = true → x = (if flow then .flowing else .standing) →
    s.peers.flow.candidate = some x → s.peers.flow.confirmed ≠ some x → s.peers.flow.request = .none → RingSound s → s.ring.waiting = [] →
    ∃ t : State, exec (.crossing interval flow) s = .next t ∧
      t.peers.flow.confirmed = some x ∧ t.peers.flow.changeCycle = s.timeBase.cycle.setWidth 8 ∧
      t.peers.flow.candidate = none ∧ t.peers.flow.candidateCount = 0 ∧
      (settledState s.supervisor.station = true → linkSends s.link.state = true →
        t.peers.flow.request = .queued ∧ t.peers.flow.carried = some x ∧ t.peers.flow.periodCount = 0 ∧ t.peers.line = s.peers.line ∧
        t.ring.descriptors.get s.ring.fill =
          { state := .ready, reason := none, producer := some .line, cancel := false,
            payload := lineBytes x (s.timeBase.cycle.setWidth 8) true (decide (s.supervisor.station = .held)) s.timeBase.cycle }) ∧
      (settledState s.supervisor.station = true → linkSends s.link.state = false →
        t.peers.flow.request = .none ∧ t.peers.flow.periodCount = 0 ∧
        t.peers.line = { state := if flow then .flowing else .standing, source := some cfg.address, age := 0 }) ∧
      (s.supervisor.station = .listening →
        t.peers.flow.request = .none ∧ t.peers.flow.periodCount = s.peers.flow.periodCount ∧ t.peers.line = s.peers.line ∧
        t.ring.occupancy = s.ring.occupancy)) ∧
  (∀ (cfg : Settings) (s : State) (interval : Nat) (flow : Bool) (level : FlowLevel), BoundaryDue cfg s → CrossingDue interval s →
    UnitsAtRest s → cfg.flowSensing = true → s.supervisor.station = .listening → cfg.joinCycles ≤ 16 →
    cfg.joinCycles ≤ s.supervisor.joinCount + 1 → s.supervisor.mainsLost = false → s.peers.flow.confirmed = some level →
    s.peers.flow.request = .none → s.ring.occupancy < 6 →
    ∃ t : State, exec (.crossing interval flow) s = .next t ∧ t.supervisor.station = .running ∧ t.peers.flow.periodCount = 0 ∧
      (s.link.loopResult = some .passed → s.link.clash = false →
        t.peers.flow.request = .queued ∧ t.peers.flow.carried = some level ∧
        t.ring.descriptors.get s.ring.fill =
          { state := .ready, reason := none, producer := some .line, cancel := false,
            payload := lineBytes level s.peers.flow.changeCycle false false t.timeBase.cycle }) ∧
      (s.link.loopResult ≠ some .passed ∨ s.link.clash = true →
        t.peers.flow.request = .none ∧
        t.peers.line = { state := if t.peers.flow.confirmed = some .flowing then .flowing else .standing,
                         source := some cfg.address, age := 0 })) ∧
  (∀ (cfg : Settings) (s : State) (interval : Nat) (flow : Bool),
    BoundaryDue cfg s ∨ (∃ slot : Nat, SlotDue cfg slot s) → CrossingDue interval s →
    UnitsAtRest s → RingSound s → s.ring.waiting = [] → cfg.flowSensing = false →
    ∃ t : State, exec (.crossing interval flow) s = .next t ∧ t.peers.flow = s.peers.flow ∧ t.flowPin = flow)

/-! ### The slot points (R7, R50 to R64, R80, R88 to R94, R166, R185, R190, R191) -/

/-- The gates at every slot-boundary event (here by CROSSING): a gate is on exactly when the station is RUNNING, the zone is NORMAL with its
permit granted, and the current placement's run of the zone covers the slot, all as they stand after the boundary's changes (R185).
TIME_MAILBOX_EXPIRY: an OFFERED TIME frame expires at the next slot-boundary event (R166). -/
def Obligations.SlotEventsSetGatesAndExpireTheOffer : Prop :=
  (∀ (cfg : Settings) (slot : Nat) (s : State) (interval : Nat) (flow : Bool),
    (BoundaryDue cfg s ∧ slot = 0) ∨ SlotDue cfg slot s → CrossingDue interval s →
    ∃ t : State, exec (.crossing interval flow) s = .next t ∧ t.timeBase.takenSlot = slot ∧
      ∀ z : Index, t.supervisor.gates.get z = true ↔
        (t.supervisor.station = .running ∧ (t.zones.get z).condition = .normal ∧ (t.zones.get z).permit = true ∧
          ∃ r : Run, runOf t.placement.current z = some r ∧ (slot + 32 - r.start) % 32 < r.length)) ∧
  (∀ (cfg : Settings) (slot : Nat) (s : State) (interval : Nat) (flow : Bool), SlotDue cfg slot s → CrossingDue interval s →
    s.ring.mailbox = .offered →
    ∃ t : State, exec (.timeMailboxExpiry (.crossing interval flow)) s = .next t ∧
      t.ring.mailbox = .empty ∧ t.timeBase.takenSlot = slot)

/-- The demand point in RUNNING (here by CROSSING): every zone selects its source, every enabled zone computes its demand under the bank of
the line state, the demands, deficits and Tc used are handed to the Load Placement Unit, and its computation begins with the effective
budget. Each zone enters it with its announced load and stuck load (at least 1, or the rated load), its surcharge from the inrush factor
rounded up, whether it continues from slot 31, and placed when it is NORMAL with a demand (R50, R59, R60, R69, R70, R75, R76, R77). The
demand point outside RUNNING selects sources alone and hands no demand; in HELD a computation begins that places the STUCK_ON zones and no
other, and in LISTENING and MAINS_LOST none begins (R50, R59, R76, R77, R80). -/
def Obligations.DemandPointHandsTheDemands : Prop :=
  (∀ (cfg : Settings) (s : State) (interval : Nat) (flow : Bool), SlotDue cfg 8 s → CrossingDue interval s → UnitsAtRest s →
    cfg.flowSensing = false → s.supervisor.station = .running →
    ∃ t : State, exec (.crossing interval flow) s = .next t ∧
      (∀ z : Index, t.zones.get z = computeDemand cfg s.peers.line.state z
        (selectSource cfg s.scanner s.peers.upstream s.peers.downstream z (s.zones.get z))) ∧
      t.placement.handed = some (Six.ofFn fun z =>
        { demand := (t.zones.get z).demand, deficit := (t.zones.get z).deficit, tc := (t.zones.get z).tc }) ∧
      (∃ c : Computation, t.placement.computation = some c ∧
        c.budget = cfg.budget * (100 - if 0 < s.placement.sagCount then cfg.sagDerate else 0) / 100 -
          (if viewIncomplete s then cfg.blindMargin else 0) ∧
        c.others = s.placement.map.filter (fun x => decide (x.source ≠ .own)) ∧
        ∀ z : Index,
          (c.zones.get z).stuck = decide ((s.zones.get z).condition = .stuckOn) ∧
          (c.zones.get z).placed = (decide ((s.zones.get z).condition = .normal) && decide (0 < (t.zones.get z).demand)) ∧
          (c.zones.get z).demand = (t.zones.get z).demand ∧ (c.zones.get z).deficit = (t.zones.get z).deficit ∧
          (c.zones.get z).load = (match (s.scanner.zones.get z).lastOn with
            | none => (cfg.zone z).ratedLu
            | some l => if (s.timeBase.cycle - l.cycle).toNat ≤ 3 then max 1 l.load else (cfg.zone z).ratedLu) ∧
          (c.zones.get z).stuckLoad = (match (s.scanner.zones.get z).load with
            | none => (cfg.zone z).ratedLu
            | some l => max 1 l) ∧
          (c.zones.get z).surcharge = min 255 (((c.zones.get z).load * ((match (t.zones.get z).tc with
            | none => cfg.inrushCold
            | some x =>
              if x ≤ cfg.tCold then cfg.inrushCold
              else if cfg.tWarm ≤ x then 8
              else 8 + ((cfg.inrushCold - 8) * (cfg.tWarm - x).toNat + (cfg.tWarm - cfg.tCold).toNat - 1) /
                (cfg.tWarm - cfg.tCold).toNat) - 8) + 7) / 8) ∧
          (c.zones.get z).continues = ((s.zones.get z).permit && match runOf s.placement.current z with
            | none => false
            | some r => decide ((63 - r.start) % 32 < r.length))) ∧
      t.peers = s.peers ∧ t.ring = { s.ring with mailbox := if s.ring.mailbox = .offered then .empty else s.ring.mailbox } ∧
      t.link = s.link ∧ t.queue = s.queue) ∧
  (∀ (cfg : Settings) (s : State) (interval : Nat) (flow : Bool), SlotDue cfg 8 s → CrossingDue interval s → UnitsAtRest s →
    cfg.flowSensing = false → s.supervisor.station ≠ .running →
    ∃ t : State, exec (.crossing interval flow) s = .next t ∧
      (∀ z : Index, t.zones.get z = selectSource cfg s.scanner s.peers.upstream s.peers.downstream z (s.zones.get z)) ∧
      t.placement.handed = s.placement.handed ∧
      (s.supervisor.station = .held →
        (∃ c : Computation, t.placement.computation = some c ∧
          c.others = s.placement.map.filter (fun x => decide (x.source ≠ .own)) ∧
          ∀ z : Index, (c.zones.get z).placed = false ∧ (c.zones.get z).stuck = decide ((s.zones.get z).condition = .stuckOn))) ∧
      (s.supervisor.station ≠ .held → t.placement = s.placement))

/-- FALLBACK: at the demand point at which a zone has been HOLDING for `hold_cycles` and finds no origin, its source becomes FALLBACK with no
temperature and hold count 0; in RUNNING a NORMAL zone then asks for `fallback_demand` (R53, R64). -/
def Obligations.HoldingEndsInFallback : Prop :=
  ∀ (cfg : Settings) (s : State) (interval : Nat) (flow : Bool) (z : Index), SlotDue cfg 8 s → CrossingDue interval s →
    (cfg.zone z).enabled = true → (s.zones.get z).source = some .holding → cfg.holdCycles ≤ (s.zones.get z).holdCount + 1 →
    ownTemperature cfg s.scanner z = none → originTemperature cfg s.scanner s.peers.upstream s.peers.downstream z = none →
    ∃ t : State, exec (.fallback (.crossing interval flow)) s = .next t ∧
      (t.zones.get z).source = some .fallback ∧ (t.zones.get z).tc = none ∧ (t.zones.get z).holdCount = 0 ∧
      (s.supervisor.station = .running → (s.zones.get z).condition = .normal →
        (t.zones.get z).demand = cfg.fallbackDemand ∧ (t.zones.get z).lastDemand = cfg.fallbackDemand)

/-- The freeze (here by CROSSING) of a unit with an announced placement and no request, with no clash, entry SILENT or zone STUCK_ON: the
frozen placement is the announced one shed at the freeze limit, without stuck runs, and the unannounced count becomes 0 (R88, R89, R91,
R92, R93). The freeze, whatever its base, of a unit at rest, with a computation in flight, or with a request WAITING or on a READY
descriptor. The window is closed first: no computation and no request stands. The base is the announced placement at its order; with none,
it is the working placement at order 256, and counts as announced only when the last failure is NO_ACK and the Peer Table is empty. Every
SILENT entry enters the map with the ration at order 0. An announced base is shed at the freeze limit and clears the unannounced count,
any other is cut to the ration and raises it; both are adjusted to the STUCK_ON zones. Every zone is reported curtailed or not (R65, R75,
R88 to R94). After a clash no base is announced (R156); that it is the working one is assumption log 47. How the freeze closes the window
at the ring. A computation in flight is abandoned, its result not taken. A WAITING request leaves the waiting list. A request on a READY
descriptor voids it: behind the head it stays in the ring, to complete CANCELLED later; at the head it completes at once and is released
(R88, R160 to R163). The freeze while an own PLACE frame is on the line, requested or with its cancel recorded before: the cancel is
recorded, and the attempt goes on. With an announced placement the base keeps the announced runs that the revision on the line repeats;
with none the base is the working placement, as for a request that has ended (R83, R88, R89, R162). The adjustment to the STUCK_ON zones:
every zone that is STUCK_ON has one run, with the stuck mark; a run with the mark of any other zone goes; every other run stays in its
place, behind those added (R69, R93). The order of several added runs is assumption log 20. -/
def Obligations.FreezeSettlesThePlacement : Prop :=
  (∀ (cfg : Settings) (s : State) (interval : Nat) (flow : Bool) (a : Announced), SlotDue cfg 28 s → CrossingDue interval s →
    UnitsAtRest s → cfg.flowSensing = false → settledState s.supervisor.station = true → s.placement.announced = some a →
    s.link.clash = false → (∀ e ∈ s.peers.entries, e.state = .fresh) → (∀ z : Index, (s.zones.get z).condition ≠ .stuckOn) →
    ∃ t : State, exec (.crossing interval flow) s = .next t ∧
      t.placement.frozen = some ((shed (cfg.budget - if viewIncomplete s then cfg.blindMargin else 0) a.order
        (s.placement.map.filter fun c => decide (c.source ≠ .own)) a.runs).filter fun r => !r.stuck) ∧
      t.placement.unannounced = 0 ∧ t.placement.current = s.placement.current ∧ t.placement.announced = some a) ∧
  (∀ (cfg : Settings) (s : State) (interval : Nat) (flow : Bool) (base : List Run) (order : Nat) (announced : Bool)
    (m : List Contribution), SlotDue cfg 28 s → CrossingDue interval s → WindowCloses s → cfg.flowSensing = false →
    settledState s.supervisor.station = true →
    (base, order, announced) = (if s.link.clash then ((s.placement.working.map Working.runs).getD [], 256, false)
      else match s.placement.announced with
      | some a => (a.runs, a.order, true)
      | none => ((s.placement.working.map Working.runs).getD [], 256,
          decide (s.placement.lastFailure = some .noAck ∧ s.peers.entries = []))) →
    m = (s.peers.entries.filter (fun e => decide (e.state = .silent))).foldl
      (fun x e => x.filter (fun c => decide (c.source ≠ .peer e.address)) ++
        [{ source := .peer e.address, order := 0, runs := [], ration := some cfg.ration }])
      ({ source := .own, order := order, runs := base, ration := none } ::
        s.placement.map.filter (fun c => decide (c.source ≠ .own))) →
    ∃ t : State, exec (.crossing interval flow) s = .next t ∧
      t.placement.frozen = some (adjustStuck cfg s
        (if announced then shed (cfg.budget - if viewIncomplete s then cfg.blindMargin else 0) order
            (m.filter (fun c => decide (c.source ≠ .own))) base
          else unannouncedRuns cfg (min 15 (s.placement.unannounced + 1)) base)) ∧
      t.placement.unannounced = (if announced then 0 else min 15 (s.placement.unannounced + 1)) ∧
      t.placement.announced = s.placement.announced ∧ t.placement.request = .none ∧ t.placement.computation = none ∧ t.placement.current = s.placement.current ∧
      ∀ z : Index, t.zones.get z = { s.zones.get z with
        curtailed := decide ((s.zones.get z).condition = .normal) &&
          decide (0 < ((s.placement.handed.map fun h => (h.get z).demand).getD 0)) &&
          (decide (z.val + 1 ∈ ((s.placement.working.map Working.curtailed).getD [])) ||
            match runOf (t.placement.frozen.getD []) z with
            | none => true
            | some r => decide (r.length < ((s.placement.handed.map fun h => (h.get z).demand).getD 0))) }) ∧
  (∀ (cfg : Settings) (s : State) (interval : Nat) (flow : Bool), SlotDue cfg 28 s → CrossingDue interval s → WindowCloses s →
    cfg.flowSensing = false → settledState s.supervisor.station = true →
    ∃ t : State, exec (.crossing interval flow) s = .next t ∧
      t.placement.computation = none ∧ t.placement.request = .none ∧ t.placement.working = s.placement.working ∧
      t.placement.orderCounter = s.placement.orderCounter ∧ t.placement.revisionsSent = s.placement.revisionsSent ∧
      t.placement.lastFailure = s.placement.lastFailure ∧
      (s.placement.request = .none →
        t.ring.descriptors = s.ring.descriptors ∧ t.ring.head = s.ring.head ∧ t.ring.fill = s.ring.fill ∧
        t.ring.occupancy = s.ring.occupancy ∧ t.ring.waiting = s.ring.waiting) ∧
      (s.placement.request = .waiting →
        t.ring.descriptors = s.ring.descriptors ∧ t.ring.head = s.ring.head ∧ t.ring.fill = s.ring.fill ∧
        t.ring.occupancy = s.ring.occupancy ∧ t.ring.waiting = s.ring.waiting.filter fun w => decide (w.producer ≠ .place)) ∧
      (∀ i : Index, s.placement.request = .queued i →
        (i ≠ s.ring.head →
          t.ring.descriptors = s.ring.descriptors.set i { s.ring.descriptors.get i with state := .void } ∧
          t.ring.head = s.ring.head ∧ t.ring.fill = s.ring.fill ∧ t.ring.occupancy = s.ring.occupancy ∧
          t.ring.waiting = s.ring.waiting) ∧
        (i = s.ring.head →
          t.ring.descriptors = s.ring.descriptors.set i Descriptor.freed ∧ t.ring.head = s.ring.head + 1 ∧
          t.ring.fill = s.ring.fill ∧ t.ring.occupancy = 0 ∧ t.ring.waiting = []))) ∧
  (∀ (cfg : Settings) (s : State) (interval : Nat) (flow : Bool) (base : List Run) (order : Nat) (announced : Bool)
    (m : List Contribution), SlotDue cfg 28 s → CrossingDue interval s → cfg.flowSensing = false →
    settledState s.supervisor.station = true →
    s.placement.request = .queued s.ring.head ∨ s.placement.request = .cancelRecorded s.ring.head →
    (headDescriptor s.ring).state = .sending → s.link.inHand = some .ring → s.link.attempt ≠ none →
    (base, order, announced) = (if s.link.clash then ((s.placement.working.map Working.runs).getD [], 256, false)
      else match s.placement.announced with
      | some a => (a.runs.filter (fun r => s.placement.requestRuns.any (fun q =>
          decide (r.zone = q.zone ∧ r.start = q.start ∧ r.length = q.length ∧ r.load = q.load ∧ r.surcharge = q.surcharge))),
          a.order, true)
      | none => ((s.placement.working.map Working.runs).getD [], 256,
          decide (s.placement.lastFailure = some .noAck ∧ s.peers.entries = []))) →
    m = (s.peers.entries.filter (fun e => decide (e.state = .silent))).foldl
      (fun x e => x.filter (fun c => decide (c.source ≠ .peer e.address)) ++
        [{ source := .peer e.address, order := 0, runs := [], ration := some cfg.ration }])
      (s.placement.map.filter (fun c => decide (c.source ≠ .own))) →
    ∃ t : State, exec (.crossing interval flow) s = .next t ∧
      t.placement.request = .cancelRecorded s.ring.head ∧ t.placement.computation = none ∧
      headDescriptor t.ring = (if s.placement.request = .queued s.ring.head then { headDescriptor s.ring with cancel := true }
        else headDescriptor s.ring) ∧
      t.placement.frozen = some (adjustStuck cfg s
        (if announced then shed (cfg.budget - if viewIncomplete s then cfg.blindMargin else 0) order m base
          else unannouncedRuns cfg (min 15 (s.placement.unannounced + 1)) base)) ∧
      t.placement.unannounced = (if announced then 0 else min 15 (s.placement.unannounced + 1)) ∧
      t.placement.announced = s.placement.announced ∧ t.link.attempt = s.link.attempt ∧ t.link.inHand = some .ring) ∧
  (∀ (cfg : Settings) (s : State) (runs : List Run), (runs.map Run.zone).Nodup →
    (∀ z : Index, (s.zones.get z).condition = .stuckOn →
      ∃ r ∈ adjustStuck cfg s runs, r.zone = z.val + 1 ∧ r.stuck = true ∧
        (r ∈ runs ∨ r = { zone := z.val + 1, start := 0, length := 32, surcharge := 0, stuck := true
                          load := match (s.scanner.zones.get z).load with | none => (cfg.zone z).ratedLu | some l => max 1 l }) ∧
        ∀ q ∈ adjustStuck cfg s runs, q.zone = z.val + 1 → q = r) ∧
    (∀ r ∈ adjustStuck cfg s runs, r.stuck = true → ∃ z : Index, r.zone = z.val + 1 ∧ (s.zones.get z).condition = .stuckOn) ∧
    ∃ added kept : List Run, adjustStuck cfg s runs = added ++ kept ∧ kept.Sublist runs ∧ (∀ r ∈ added, r.stuck = true) ∧
      (added.map Run.zone).Pairwise (· < ·) ∧
      ∀ r ∈ runs, r.stuck = false → (∀ z : Index, r.zone = z.val + 1 → (s.zones.get z).condition ≠ .stuckOn) → r ∈ kept)

/-- The status point (here by CROSSING) in RUNNING, HELD or MAINS_LOST, with a frame due and a ring that takes it: a STATUS frame with the
payload of this moment is READY, the refusal mark is taken and cleared, and the schedule begins again (R128, R130, R190, R191). -/
def Obligations.StatusPointRequestsTheStatusFrame : Prop :=
  ∀ (cfg : Settings) (s : State) (interval : Nat) (flow : Bool), SlotDue cfg 30 s → CrossingDue interval s → UnitsAtRest s →
    cfg.flowSensing = false → settledState s.supervisor.station = true → linkSends s.link.state = true →
    s.supervisor.changeMark = true ∨ cfg.statusPeriod ≤ min 255 (s.supervisor.periodCount + 1) →
    refusesStatus s.ring = false →
    ∃ t : State, exec (.crossing interval flow) s = .next t ∧
      t.ring.descriptors.get s.ring.fill =
        { state := .ready, reason := none, producer := some .status, payload := statusBytes s, cancel := false } ∧
      t.ring.occupancy = s.ring.occupancy + 1 ∧ t.queue = { s.queue with refusalMark := false } ∧
      t.supervisor.periodCount = 0 ∧ t.supervisor.changeMark = false ∧ t.zones = s.zones ∧ t.placement = s.placement

/-! ### Samples, windows, trips and releases (R21 to R49, R180) -/

/-- The sample of a ratiometric count: the resistance in milliohms lies in 0 to 199996, above 180000 it is OPEN, below 78000 SHORT, and in
between the temperature is (R − 100000) × 10 / 385 to the nearest integer, clamped to −500 to 2000 (R21, R22; 385 being odd, no half
arises). -/
def Obligations.SampleOfACountFollowsItsResistance : Prop :=
  ∀ count : BitVec 16, ∃ r : Nat, r = count.toNat * 200000 / 65536 ∧ r ≤ 199996 ∧
    (180000 < r → sampleOf count = .opened) ∧ (r < 78000 → sampleOf count = .short) ∧
    (78000 ≤ r → r ≤ 180000 →
      ∃ n : Int, 2 * (385 * n - ((r : Int) - 100000) * 10).natAbs ≤ 385 ∧ sampleOf count = .inRange (max (-500) (min 2000 n)) ∧
        (r ≤ 80769 → sampleOf count = .inRange (-500)) ∧ (176981 ≤ r → sampleOf count = .inRange 2000))

/-- A channel's step: an OPEN or SHORT sample faults it at once; UNSEEDED takes a first sample unchecked; TRACKING moves by the difference
over 2^`filter_shift` truncated toward zero, or rejects, with the RATE fault at the third rejection in a row; FAULTED recovers on two
samples that agree (R23 to R26). -/
def Obligations.ChannelFollowsItsSamples : Prop :=
  ∀ (cfg : Settings) (c : Channel) (t : Int),
    ((channelStep cfg .opened c).state = .faulted ∧ (channelStep cfg .opened c).fault = .opened ∧
      (channelStep cfg .opened c).filtered = none ∧ (channelStep cfg .opened c).seed = none ∧
      (channelStep cfg .opened c).good = 0 ∧ (channelStep cfg .opened c).rejections = 0) ∧
    ((channelStep cfg .short c).state = .faulted ∧ (channelStep cfg .short c).fault = .short ∧
      (channelStep cfg .short c).filtered = none) ∧
    (c.state = .unseeded →
      channelStep cfg (.inRange t) c = { c with state := .tracking, filtered := some t, changed := false }) ∧
    (∀ f : Int, c.state = .tracking → c.filtered = some f → (t - f).natAbs ≤ cfg.rateLimit →
      channelStep cfg (.inRange t) c =
        { c with filtered := some (f + (t - f).tdiv (2 ^ cfg.filterShift)), rejections := 0, changed := false }) ∧
    (∀ f : Int, c.state = .tracking → c.filtered = some f → cfg.rateLimit < (t - f).natAbs → c.rejections ≠ 2 →
      channelStep cfg (.inRange t) c = { c with rejections := c.rejections + 1, changed := false }) ∧
    (∀ f : Int, c.state = .tracking → c.filtered = some f → cfg.rateLimit < (t - f).natAbs → c.rejections = 2 →
      (channelStep cfg (.inRange t) c).state = .faulted ∧ (channelStep cfg (.inRange t) c).fault = .rate ∧
      (channelStep cfg (.inRange t) c).filtered = none ∧ (channelStep cfg (.inRange t) c).seed = none ∧
      (channelStep cfg (.inRange t) c).good = 0 ∧ (channelStep cfg (.inRange t) c).rejections = 0) ∧
    (c.state = .faulted → c.seed = none →
      channelStep cfg (.inRange t) c = { c with seed := some t, good := 1, changed := false }) ∧
    (∀ f : Int, c.state = .faulted → c.seed = some f → cfg.rateLimit < (t - f).natAbs →
      channelStep cfg (.inRange t) c = { c with seed := some t, good := 1, changed := false }) ∧
    (∀ f : Int, c.state = .faulted → c.seed = some f → (t - f).natAbs ≤ cfg.rateLimit →
      (channelStep cfg (.inRange t) c).state = .tracking ∧ (channelStep cfg (.inRange t) c).fault = .none ∧
      (channelStep cfg (.inRange t) c).filtered = some t ∧ (channelStep cfg (.inRange t) c).rejections = 0)

/-- SCAN_COMPLETION: all twelve samples are applied to their channels, and every enabled zone not TRIPPED whose limiter channel is then
FAULTED, or TRACKING at or above `trip_limit`, is TRIPPED: its mode none, its permit withdrawn, its open counter 0, its gate off, its
other fields kept, and a zone that was STUCK_ON sets the contactor latch; every other zone and gate, and the other blocks, stand (R19,
R27, R39, R40, R45). The scan completes at the first mains-cycle end after its event (R19); that SCAN_COMPLETION is taken between that end
and the next, and changes nothing elsewhere, is assumption logs 2 and 10. No scan completes but at the first mains-cycle end after its
event (R19). -/
def Obligations.ScanCompletionTripsHotZones : Prop :=
  (∀ (cfg : Settings) (s : State) (control limiter : Six (BitVec 16)), activeSettings s = some cfg → s.scanner.scanDue = true →
    ∃ t : State, exec (.scanCompletion control limiter) s = .next t ∧
      (∀ z : Index, t.scanner.control.get z = channelStep cfg (sampleOf (control.get z)) (s.scanner.control.get z)) ∧
      (∀ z : Index, t.scanner.limiter.get z = channelStep cfg (sampleOf (limiter.get z)) (s.scanner.limiter.get z)) ∧
      t.scanner.scanDue = false ∧ t.scanner.scan = s.scanner.scan ∧ t.scanner.zones = s.scanner.zones ∧
      t.scanner.voltageClass = s.scanner.voltageClass ∧
      (∀ z : Index,
        if (cfg.zone z).enabled = true ∧ (s.zones.get z).condition ≠ .tripped ∧
            limiterTrips (cfg.zone z).tripLimit (t.scanner.limiter.get z) = true then
          t.zones.get z = { s.zones.get z with condition := .tripped, mode := none, openCount := 0, permit := false } ∧
          t.supervisor.gates.get z = false ∧ t.supervisor.changeMark = true ∧
          ((s.zones.get z).condition = .stuckOn → t.supervisor.contactorLatch = true)
        else t.zones.get z = s.zones.get z ∧ t.supervisor.gates.get z = s.supervisor.gates.get z) ∧
      t.supervisor.station = s.supervisor.station ∧ t.timeBase = s.timeBase ∧ t.placement = s.placement ∧ t.peers = s.peers ∧
      t.link = s.link ∧ t.ring = s.ring ∧ t.queue = s.queue ∧ t.loader = s.loader) ∧
  (∀ (s : State) (control limiter : Six (BitVec 16)), s.scanner.scanDue = false →
    exec (.scanCompletion control limiter) s = .next s)

/-- WINDOW_COMPLETION: the voltage, its class and every zone's current, gate state, load and last on-load are recorded; a sag with a gate on
sets the sag count; a collapse sets the mains-lost mark, and takes a RUNNING or HELD station to MAINS_LOST with every gate off; the
channels, the position, the link, the ring and the queue stand (R20, R28 to R34, R95, R182, R183). The window completes with its third
mains-cycle end, in either order (R20, R182); that the command comes between its second end and its fourth is how the model says so
(assumption log 10). -/
def Obligations.WindowCompletionRecordsAndReports : Prop :=
  ∀ (cfg : Settings) (s : State) (w : Window) (currents : Six Nat) (voltage : Nat), activeSettings s = some cfg →
    WindowCompletes w s →
    ∃ t : State, exec (.windowCompletion currents voltage) s = .next t ∧
      t.scanner.voltage = some (min voltage 5000) ∧ t.scanner.windowDue = none ∧
      (s.scanner.windowDue = none → t.scanner.window = none) ∧ t.scanner.scan = s.scanner.scan ∧
      t.scanner.voltageClass = some (
        if min voltage 5000 * 5 < cfg.vNom * 3 then .collapse
        else if min voltage 5000 * 100 < cfg.vNom * cfg.sagPct then .sag else .normal) ∧
      (∀ z : Index,
        (t.scanner.zones.get z).current = some (min (currents.get z) 6000) ∧
        (t.scanner.zones.get z).gate =
          some (if w.changed.get z then .mixed else if w.level.get z then .on else .off) ∧
        (t.scanner.zones.get z).load = some (measuredLoad cfg (min (currents.get z) 6000) (min voltage 5000)) ∧
        measuredLoad cfg (min (currents.get z) 6000) (min voltage 5000) =
          min 255 ((min (currents.get z) 6000 * min voltage 5000 + 1000 * cfg.luWatts - 1) / (1000 * cfg.luWatts)) ∧
        (t.scanner.zones.get z).lastOn =
          if w.changed.get z = false ∧ w.level.get z = true then
            some { load := measuredLoad cfg (min (currents.get z) 6000) (min voltage 5000), slot := w.slot, cycle := w.cycle }
          else (s.scanner.zones.get z).lastOn) ∧
      t.placement.sagCount =
        (if t.scanner.voltageClass ≠ some .normal ∧ (∃ z : Index, w.changed.get z = true ∨ w.level.get z = true) then cfg.sagHold
          else s.placement.sagCount) ∧
      (t.scanner.voltageClass = some .collapse → t.supervisor.mainsLost = true ∧ t.supervisor.recovery = 0 ∧
        (s.supervisor.station = .running ∨ s.supervisor.station = .held →
          t.supervisor.station = .mainsLost ∧ ∀ z : Index, t.supervisor.gates.get z = false)) ∧
      (t.scanner.voltageClass ≠ some .collapse →
        t.supervisor.mainsLost = s.supervisor.mainsLost ∧ t.supervisor.station = s.supervisor.station) ∧
      t.scanner.control = s.scanner.control ∧ t.scanner.limiter = s.scanner.limiter ∧ t.timeBase = s.timeBase ∧
      t.peers = s.peers ∧ t.link = s.link ∧ t.ring = s.ring ∧ t.queue = s.queue ∧ t.loader = s.loader

/-- WINDOW_COMPLETION and the open heater test: a third ON window in a row, in a feeder not collapsed, whose load is below a quarter of the
announced load makes an enabled NORMAL zone OPEN_FAULT: mode none, permit withdrawn, gate off, counters 0, the rest kept (R41, R42, R43).
WINDOW_COMPLETION and the stuck-on test: a second judged OFF window in a row with load × 20 ≥ `rated_lu` is a stuck finding. A NORMAL or
OPEN_FAULT zone becomes STUCK_ON with its permit withdrawn and its gate off; a TRIPPED zone stays so and sets the contactor latch (R43,
R44, R45, R188). -/
def Obligations.WindowCompletionFindsHeaterFaults : Prop :=
  (∀ (cfg : Settings) (s : State) (w : Window) (currents : Six Nat) (voltage : Nat) (z : Index) (r : Run),
    activeSettings s = some cfg → WindowCompletes w s → cfg.vNom * 3 ≤ min voltage 5000 * 5 →
    (cfg.zone z).enabled = true → (s.zones.get z).condition = .normal → w.changed.get z = false → w.level.get z = true →
    runOf s.placement.current z = some r → measuredLoad cfg (min (currents.get z) 6000) (min voltage 5000) * 4 < r.load →
    (s.zones.get z).openCount = 2 →
    ∃ t : State, exec (.windowCompletion currents voltage) s = .next t ∧
      t.zones.get z = { s.zones.get z with
        condition := .openFault, mode := none, openCount := 0, permit := false, stuckCount := 0, followsRun := true } ∧
      t.supervisor.gates.get z = false ∧ t.supervisor.changeMark = true) ∧
  (∀ (cfg : Settings) (s : State) (w : Window) (currents : Six Nat) (voltage : Nat) (z : Index),
    activeSettings s = some cfg → WindowCompletes w s →
    (cfg.zone z).enabled = true → w.changed.get z = false → w.level.get z = false →
    (cfg.zone z).ratedLu ≤ measuredLoad cfg (min (currents.get z) 6000) (min voltage 5000) * 20 →
    (s.zones.get z).followsRun = false → (s.zones.get z).stuckCount = 1 →
    ∃ t : State, exec (.windowCompletion currents voltage) s = .next t ∧
      ((s.zones.get z).condition = .normal ∨ (s.zones.get z).condition = .openFault →
        t.zones.get z = { s.zones.get z with
          condition := .stuckOn, mode := none, openCount := 0, permit := false, stuckCount := 0 } ∧
        t.supervisor.gates.get z = false) ∧
      ((s.zones.get z).condition = .tripped →
        t.zones.get z = { s.zones.get z with stuckCount := 0 } ∧ t.supervisor.contactorLatch = true))

/-- TRIP_CLEAR_EDGE: an edge taken in LISTENING, RUNNING, HELD or MAINS_LOST releases every enabled zone whose condition allows it (a TRIPPED
zone with its limiter TRACKING below `trip_limit` − 100, every OPEN_FAULT zone, a STUCK_ON zone whose last load × 20 is below `rated_lu`)
and leaves every other zone as it stands; no other block changes, but for the change mark (R46, R47, R48, R49, R190). -/
def Obligations.TripClearReleasesZones : Prop :=
  ∀ (cfg : Settings) (s : State), activeSettings s = some cfg →
    ∃ t : State, exec .tripClearEdge s = .next t ∧
      (∀ z : Index,
        if (cfg.zone z).enabled = true ∧
            (((s.zones.get z).condition = .tripped ∧ (s.scanner.limiter.get z).state = .tracking ∧
                ∃ x : Int, (s.scanner.limiter.get z).filtered = some x ∧ x < (cfg.zone z).tripLimit - 100) ∨
              (s.zones.get z).condition = .openFault ∨
              ((s.zones.get z).condition = .stuckOn ∧
                ∃ l : Nat, (s.scanner.zones.get z).load = some l ∧ l * 20 < (cfg.zone z).ratedLu)) then
          t.zones.get z = { s.zones.get z with
            condition := .normal, acc := 0, openCount := 0, stuckCount := 0, followsRun := false, permit := false
            mode :=
              if settledState s.supervisor.station then
                some (if isCold cfg (s.zones.get z).tc then .coldStart else .regulating)
              else none } ∧
          t.supervisor.changeMark = true
        else t.zones.get z = s.zones.get z) ∧
      t = { s with zones := t.zones, supervisor := { s.supervisor with changeMark := t.supervisor.changeMark } }

/-- HOLD: a change of level moves the pin; in LISTENING, RUNNING, HELD and MAINS_LOST, with no reset in progress, the hold request follows it,
and a release while HELD sets the step record; nothing else changes (R180, R181). -/
def Obligations.HoldMovesTheHoldRequest : Prop :=
  ∀ (b : Bool) (s : State),
    (s.holdPin = b → exec (.hold b) s = .next s) ∧
    (s.holdPin ≠ b → resetInProgress s = false → joinedState s.supervisor.station = true →
      exec (.hold b) s = .next { s with
        holdPin := b
        supervisor := { s.supervisor with
          holdRequest := b, stepRecord := s.supervisor.stepRecord || (!b && decide (s.supervisor.station = .held)) } }) ∧
    (s.holdPin ≠ b → resetInProgress s = true ∨ joinedState s.supervisor.station = false →
      exec (.hold b) s = .next { s with holdPin := b })

/-! ### Sources and demands (R50 to R64) -/

/-- Source selection of one enabled zone: its own TRACKING control channel, else the first origin less `subst_penalty`, else HOLDING for
`hold_cycles` demand points and FALLBACK after (R50 to R54). The origin of a zone without its own temperature: the adjacent enabled zone
upstream, when it is on OWN; else the one downstream; else, for the first enabled zone, the upstream boundary record when it is valid;
else, for the last, the downstream one; else none. A zone lends only its own temperature (R50, R51, R52, R109). -/
def Obligations.SourceIsSelectedInOrder : Prop :=
  (∀ (cfg : Settings) (sc : Scanner) (up down : BoundaryRecord) (z : Index) (x : Zone), (cfg.zone z).enabled = true →
    (∀ t : Int, (sc.control.get z).state = .tracking → (sc.control.get z).filtered = some t →
      selectSource cfg sc up down z x = { x with source := some .own, tc := some t, holdCount := 0 }) ∧
    (ownTemperature cfg sc z = none → ∀ t : Int, originTemperature cfg sc up down z = some t →
      selectSource cfg sc up down z x =
        { x with source := some .substitute, tc := some (max (-500) (min 2000 (t - cfg.substPenalty))), holdCount := 0 }) ∧
    (ownTemperature cfg sc z = none → originTemperature cfg sc up down z = none →
      (selectSource cfg sc up down z x).tc = none ∧
      (x.source ≠ some .holding → x.source ≠ some .fallback →
        (selectSource cfg sc up down z x).source = some (if 1 ≤ cfg.holdCycles then .holding else .fallback) ∧
        (selectSource cfg sc up down z x).holdCount = 0) ∧
      (x.source = some .holding → x.holdCount + 1 < cfg.holdCycles →
        (selectSource cfg sc up down z x).source = some .holding ∧
        (selectSource cfg sc up down z x).holdCount = x.holdCount + 1) ∧
      (x.source = some .holding → x.holdCount + 1 = cfg.holdCycles →
        (selectSource cfg sc up down z x).source = some .fallback ∧ (selectSource cfg sc up down z x).holdCount = 0) ∧
      (x.source = some .fallback →
        (selectSource cfg sc up down z x).source = some .fallback ∧ (selectSource cfg sc up down z x).holdCount = 0))) ∧
  (∀ (cfg : Settings) (sc : Scanner) (up down : BoundaryRecord) (z : Index), (cfg.zone z).enabled = true →
    (∀ y : Index, ownTemperature cfg sc y =
      if (cfg.zone y).enabled = true ∧ (sc.control.get y).state = .tracking then (sc.control.get y).filtered else none) ∧
    (∀ (y : Index) (t : Int), Adjacent cfg y z → ownTemperature cfg sc y = some t → originTemperature cfg sc up down z = some t) ∧
    ((∀ y : Index, Adjacent cfg y z → ownTemperature cfg sc y = none) →
      (∀ (y : Index) (t : Int), Adjacent cfg z y → ownTemperature cfg sc y = some t →
        originTemperature cfg sc up down z = some t) ∧
      ((∀ y : Index, Adjacent cfg z y → ownTemperature cfg sc y = none) →
        originTemperature cfg sc up down z =
          if (∀ y : Index, y < z → (cfg.zone y).enabled = false) ∧ up.age ≤ 2 ∧ up.temperature ≠ none then up.temperature
          else if (∀ y : Index, z < y → (cfg.zone y).enabled = false) ∧ down.age ≤ 2 then down.temperature
          else none)))

/-- The demand of an enabled NORMAL zone in REGULATING with a temperature: the deficit clamped, the integral step truncated toward zero and
skipped in its two cases, the sum rounded to whole slots, clamped, and raised or dropped below `min_run`; the curtailed flag is cleared
(R59, R61, R62, R63). The demand of an enabled zone in its other cases: 0 outside NORMAL, its last demand while HOLDING, `fallback_demand`
in FALLBACK, and 32 in COLD_START below the exit level (R57, R59, R64). -/
def Obligations.DemandFollowsModeAndSource : Prop :=
  (∀ (cfg : Settings) (line : LineState) (z : Index) (x : Zone) (tc : Int), (cfg.zone z).enabled = true →
    x.condition = .normal → x.mode = some .regulating → x.source = some .own ∨ x.source = some .substitute → x.tc = some tc →
    ∃ (b : Bank) (e : Int) (acc : Nat) (d : Nat),
      b = (if line = .flowing then (cfg.zone z).flowing else (cfg.zone z).standing) ∧
      e = max (-1000) (min 1000 (b.target - tc)) ∧
      (acc : Int) =
        (if (0 < (e * b.ki).tdiv 16 ∧ (x.lastDemand = 32 ∨ x.curtailed = true)) ∨ ((e * b.ki).tdiv 16 < 0 ∧ x.lastDemand = 0) then
          (x.acc : Int)
        else max 0 (min 8192 (x.acc + (e * b.ki).tdiv 16))) ∧
      (d : Int) = max 0 (min 32 ((e * b.kp + acc + 128) / 256)) ∧
      computeDemand cfg line z x =
        { x with
          deficit := e, acc := acc, curtailed := false
          demand := if 1 ≤ d ∧ d < cfg.minRun then (if 0 < e then cfg.minRun else 0) else d
          lastDemand := if 1 ≤ d ∧ d < cfg.minRun then (if 0 < e then cfg.minRun else 0) else d }) ∧
  (∀ (cfg : Settings) (line : LineState) (z : Index) (x : Zone), (cfg.zone z).enabled = true →
    (x.condition ≠ .normal →
      (computeDemand cfg line z x).demand = 0 ∧ (computeDemand cfg line z x).lastDemand = 0 ∧
      (computeDemand cfg line z x).acc = x.acc ∧ (computeDemand cfg line z x).mode = x.mode) ∧
    (x.condition = .normal → x.source = some .holding →
      (computeDemand cfg line z x).demand = x.lastDemand ∧ (computeDemand cfg line z x).lastDemand = x.lastDemand ∧
      (computeDemand cfg line z x).acc = x.acc ∧ (computeDemand cfg line z x).mode = x.mode) ∧
    (x.condition = .normal → x.source = some .fallback →
      (computeDemand cfg line z x).demand = cfg.fallbackDemand ∧ (computeDemand cfg line z x).lastDemand = cfg.fallbackDemand ∧
      (computeDemand cfg line z x).acc = x.acc ∧ (computeDemand cfg line z x).mode = x.mode) ∧
    (∀ tc : Int, x.condition = .normal → x.mode = some .coldStart → x.source = some .own ∨ x.source = some .substitute →
      x.tc = some tc → tc < cfg.coldFloor + 20 →
      (computeDemand cfg line z x).demand = 32 ∧ (computeDemand cfg line z x).lastDemand = 32 ∧
      (computeDemand cfg line z x).acc = 0 ∧ (computeDemand cfg line z x).mode = some .coldStart) ∧
    (∀ tc : Int, x.condition = .normal → x.mode = some .coldStart → x.source = some .own ∨ x.source = some .substitute →
      x.tc = some tc → cfg.coldFloor + 20 ≤ tc →
      computeDemand cfg line z x = computeDemand cfg line z { x with mode := some .regulating, acc := cfg.warmPreset }))

/-! ### Placement (R68 to R97) -/

/-- The search keeps to the effective budget: in every cell that a placed run other than a STUCK_ON one covers, the own placement and the
other contributions together stay within it (R78). -/
def Obligations.SearchStaysWithinTheBudget : Prop :=
  ∀ (cfg : Settings) (c : Computation) (k : Nat), k < 32 → (∀ x ∈ c.others, x.source ≠ .own) →
    (∃ r ∈ (computeResult cfg c).runs, r.stuck = false ∧ r.covers k = true) →
    cellTotal (setOwn (computeResult cfg c).runs Config.ownOrder c.others) k ≤ c.budget

/-- The runs of a computed placement: first the STUCK_ON zones in order of number, with runs of all 32 slots; then the other zones placed, in
descending order of deficit and rising number, one run at most for each, no longer than its demand, at start 0 without a surcharge only
when the zone continues; and every placed zone that is shorter than its demand or without a run is curtailed (R68, R77, R78, R79). Each
zone takes the first candidate that fits the working copy at its turn: lengths fall from the demand by one, not below `min_run` unless the
demand is, and at each length the starts are tried in order, start 0 first without a surcharge when the zone continues, then from `pref`
up modulo 32. No candidate of a greater length fits, nor one of its own length with an earlier start; a zone left without a run had no
candidate that fits (R78, R79). -/
def Obligations.ComputedRunsKeepToTheirDemands : Prop :=
  (∀ (cfg : Settings) (c : Computation), 1 ≤ cfg.minRun →
    (∀ z : Index, (c.zones.get z).placed = true → 1 ≤ (c.zones.get z).demand) →
    ((computeResult cfg c).runs.map Run.zone).Nodup ∧
    (∃ rest : List Run,
      (computeResult cfg c).runs = (indexes.filter fun z => (c.zones.get z).stuck).map (fun z =>
        { zone := z.val + 1, start := 0, length := 32, load := (c.zones.get z).stuckLoad, surcharge := 0, stuck := true }) ++ rest ∧
      (∀ r ∈ rest, r.stuck = false ∧ ∃ z : Index, r.zone = z.val + 1 ∧ (c.zones.get z).placed = true ∧
        (c.zones.get z).stuck = false ∧ 1 ≤ r.length ∧ r.length ≤ (c.zones.get z).demand ∧ r.start < 32 ∧
        r.load = (c.zones.get z).load ∧
        (r.surcharge = (c.zones.get z).surcharge ∨ (r.surcharge = 0 ∧ r.start = 0 ∧ (c.zones.get z).continues = true)) ∧
        (r.length < (c.zones.get z).demand → z.val + 1 ∈ (computeResult cfg c).curtailed)) ∧
      rest.Pairwise (fun q r => ∀ y z : Index, q.zone = y.val + 1 → r.zone = z.val + 1 →
        (c.zones.get z).deficit < (c.zones.get y).deficit ∨ ((c.zones.get z).deficit = (c.zones.get y).deficit ∧ y < z))) ∧
    (∀ z : Index, (c.zones.get z).placed = true → (c.zones.get z).stuck = false →
      (∀ r ∈ (computeResult cfg c).runs, r.zone ≠ z.val + 1) → z.val + 1 ∈ (computeResult cfg c).curtailed)) ∧
  (∀ (cfg : Settings) (c : Computation) (z : Index), (∀ x ∈ c.others, x.source ≠ .own) → (c.zones.get z).placed = true →
    (c.zones.get z).stuck = false →
    (∀ r ∈ (computeResult cfg c).runs, r.zone = z.val + 1 →
      CandidateFits c z (computeResult cfg c).runs r.length r.start ∧
      r.surcharge = startSurcharge c z r.start ∧
      (r.length = (c.zones.get z).demand ∨ cfg.minRun ≤ r.length) ∧
      ∀ length start : Nat, start < 32 → length ≤ (c.zones.get z).demand →
        r.length < length ∨ (length = r.length ∧ startRank cfg c z start < startRank cfg c z r.start) →
        ¬CandidateFits c z (computeResult cfg c).runs length start) ∧
    ((∀ r ∈ (computeResult cfg c).runs, r.zone ≠ z.val + 1) →
      ∀ length start : Nat, start < 32 → length = (c.zones.get z).demand ∨ (cfg.minRun ≤ length ∧ length ≤ (c.zones.get z).demand) →
        ¬CandidateFits c z (computeResult cfg c).runs length start))

/-- Shedding meets the freeze limit: in every slot in which the own contribution is latest afterwards, the total is within the limit or what
is left of the own load there is STUCK_ON load; and no run is lengthened, moved or added (R91). Shedding cuts what it must and nothing
else. A run with the stuck mark is kept. A placement already within the limit wherever the own contribution is latest is returned as it
is. Otherwise the result comes from the placement by single cuts, each in the lowest slot that still has to be shed, of the last run in
placement order that covers it without the stuck mark, from that slot to the run's last one, until no slot has to be shed (R91). -/
def Obligations.SheddingMeetsTheFreezeLimit : Prop :=
  (∀ (limit order : Nat) (others : List Contribution) (runs : List Run), (runs.map Run.zone).Nodup →
    (∀ k : Nat, k < 32 → ownLatest (setOwn (shed limit order others runs) order others) k = true →
      cellTotal (setOwn (shed limit order others runs) order others) k ≤ limit ∨
        ∀ r ∈ shed limit order others runs, r.covers k = true → r.stuck = true) ∧
    (∀ r ∈ shed limit order others runs, ∃ q ∈ runs, r.zone = q.zone ∧ r.start = q.start ∧ r.length ≤ q.length ∧
      r.load = q.load ∧ r.surcharge = q.surcharge ∧ r.stuck = q.stuck ∧ (q.stuck = true → r = q)) ∧
    ((shed limit order others runs).map Run.zone).Sublist (runs.map Run.zone)) ∧
  (∀ (limit order : Nat) (others : List Contribution) (runs : List Run), (runs.map Run.zone).Nodup →
    (∀ r ∈ runs, r.stuck = true → r ∈ shed limit order others runs) ∧
    ((∀ k : Nat, k < 32 → ownLatest (setOwn runs order others) k = true → cellTotal (setOwn runs order others) k ≤ limit) →
      shed limit order others runs = runs) ∧
    Relation.ReflTransGen (ShedCut limit order others) runs (shed limit order others runs) ∧
    ∀ rest : List Run, ¬ShedCut limit order others (shed limit order others runs) rest)

/-- An unannounced placement keeps to the ration: in every slot the runs without the stuck mark draw at most `unannounced_ration`, and none is
left once the unannounced count has reached `silent_limit`; whole runs are removed and none is added (R92). Which runs the ration removes
while the unannounced count is below `silent_limit`: none with the stuck mark, and of the others whole runs from the last in placement
order, one after the other, until the rest is within the ration in every slot; so the runs kept are the first ones, as many as keep within
it, and a placement within the ration is kept whole (R92). -/
def Obligations.UnannouncedRunsKeepToTheRation : Prop :=
  (∀ (cfg : Settings) (count : Nat) (runs : List Run),
    (∀ k : Nat, k < 32 →
      (((unannouncedRuns cfg count runs).filter (fun r => !r.stuck)).map (fun r => r.loadIn k)).sum ≤ cfg.ration) ∧
    (cfg.silentLimit ≤ count → unannouncedRuns cfg count runs = runs.filter Run.stuck) ∧
    (unannouncedRuns cfg count runs).Sublist runs) ∧
  (∀ (cfg : Settings) (count : Nat) (runs : List Run), count < cfg.silentLimit →
    (WithinRation cfg (runs.filter fun r => !r.stuck) → unannouncedRuns cfg count runs = runs) ∧
    ((runs.map Run.zone).Nodup →
      (unannouncedRuns cfg count runs).filter Run.stuck = runs.filter Run.stuck ∧
      ∃ n : Nat, n ≤ (runs.filter fun r => !r.stuck).length ∧
        ((unannouncedRuns cfg count runs).filter fun r => !r.stuck) = (runs.filter fun r => !r.stuck).take n ∧
        ∀ more : Nat, n < more → more ≤ (runs.filter fun r => !r.stuck).length →
          ¬WithinRation cfg ((runs.filter fun r => !r.stuck).take more)))

/-- COMPUTATION_COMPLETION with a link that sends, nothing announced, no request standing and no yield: the result becomes the working
placement and the own contribution at order 256, and a PLACE frame of revision 0 for cycle n+1 is READY in the ring; nothing else changes
(R81, R125, R158). COMPUTATION_COMPLETION with an announced placement and a different result requests a revision, with the next revision
number (R81, R85). That a result differs in any field of any run, the stuck mark included, is assumption log 19. COMPUTATION_COMPLETION
with a full ring: the request goes to the tail of the waiting list with the contents of this moment, and is WAITING (R81, R159).
COMPUTATION_COMPLETION with a link in LISTEN_ONLY or DETACHED requests nothing; with a result equal to the announced placement it requests
nothing either, whatever the link state, and returns the own contribution to the announced order (R72, R81). That equal means equal in
every field of every run, the stuck mark included, is assumption log 19. COMPUTATION_COMPLETION whose yield begins a recompute at once
still takes the own PLACE completion that the computation held: the descriptor is released, while the new computation is in flight (R82,
R161, R172). COMPUTATION_COMPLETION whose new request yields at once, behind a PLACE completion that the computation held: the new
descriptor is voided, the recompute begins, the held completion is taken and released, and the completion CANCELLED that comes to the head
waits for the new computation (R82, R160, R161, R162, R172). -/
def Obligations.ComputationDecidesTheRequest : Prop :=
  (∀ (cfg : Settings) (s : State) (c : Computation), activeSettings s = some cfg → s.placement.computation = some c →
    linkSends s.link.state = true → s.placement.announced = none → s.placement.request = .none → s.ring.occupancy < 6 →
    (headDescriptor s.ring).state = .free ∨ (headDescriptor s.ring).state = .ready ∨ (headDescriptor s.ring).state = .sending →
    yieldFails cfg (setOwn (computeResult cfg c).runs Config.ownOrder s.placement.map) = false →
    exec .computationCompletion s = .next
      { s with
        placement := { s.placement with
          computation := none
          working := some (computeResult cfg c)
          map := { source := .own, order := 256, runs := (computeResult cfg c).runs, ration := none } ::
            s.placement.map.filter (fun x => decide (x.source ≠ .own))
          request := .queued s.ring.fill
          requestRuns := (computeResult cfg c).runs
          requestRevision := 0 }
        ring := { s.ring with
          descriptors := s.ring.descriptors.set s.ring.fill
            { state := .ready, reason := none, producer := some .place, cancel := false,
              payload := placeBytes ((s.timeBase.cycle + 1).setWidth 8) 0 (viewIncomplete s) (decide (0 < s.placement.sagCount))
                (decide (s.supervisor.station = .held)) (upstreamEnd cfg s) (downstreamEnd cfg s) (computeResult cfg c).runs }
          fill := s.ring.fill + 1
          occupancy := s.ring.occupancy + 1 } }) ∧
  (∀ (cfg : Settings) (s : State) (c : Computation) (a : Announced), activeSettings s = some cfg → s.placement.computation = some c →
    linkSends s.link.state = true → s.placement.announced = some a → a.runs ≠ (computeResult cfg c).runs →
    s.placement.request = .none → s.ring.occupancy < 6 →
    (headDescriptor s.ring).state = .free ∨ (headDescriptor s.ring).state = .ready ∨ (headDescriptor s.ring).state = .sending →
    yieldFails cfg (setOwn (computeResult cfg c).runs Config.ownOrder s.placement.map) = false →
    ∃ t : State, exec .computationCompletion s = .next t ∧
      t.placement = { s.placement with
        computation := none
        working := some (computeResult cfg c)
        map := setOwn (computeResult cfg c).runs 256 s.placement.map
        request := .queued s.ring.fill
        requestRuns := (computeResult cfg c).runs
        requestRevision := a.revision + 1 } ∧
      t.ring.occupancy = s.ring.occupancy + 1 ∧
      t.ring.descriptors.get s.ring.fill =
        { state := .ready, reason := none, producer := some .place, cancel := false,
          payload := placeBytes ((s.timeBase.cycle + 1).setWidth 8) (a.revision + 1) (viewIncomplete s)
            (decide (0 < s.placement.sagCount)) (decide (s.supervisor.station = .held)) (upstreamEnd cfg s) (downstreamEnd cfg s)
            (computeResult cfg c).runs }) ∧
  (∀ (cfg : Settings) (s : State) (c : Computation), activeSettings s = some cfg → s.placement.computation = some c →
    linkSends s.link.state = true → s.placement.announced = none → s.placement.request = .none → 6 ≤ s.ring.occupancy →
    (headDescriptor s.ring).state = .ready ∨ (headDescriptor s.ring).state = .sending →
    yieldFails cfg (setOwn (computeResult cfg c).runs Config.ownOrder s.placement.map) = false →
    exec .computationCompletion s = .next
      { s with
        placement := { s.placement with
          computation := none
          working := some (computeResult cfg c)
          map := setOwn (computeResult cfg c).runs 256 s.placement.map
          request := .waiting
          requestRuns := (computeResult cfg c).runs
          requestRevision := 0 }
        ring := { s.ring with
          waiting := s.ring.waiting ++ [
            { producer := .place
              payload := placeBytes ((s.timeBase.cycle + 1).setWidth 8) 0 (viewIncomplete s) (decide (0 < s.placement.sagCount))
                (decide (s.supervisor.station = .held)) (upstreamEnd cfg s) (downstreamEnd cfg s) (computeResult cfg c).runs }] } }) ∧
  (∀ (cfg : Settings) (s : State) (c : Computation), activeSettings s = some cfg → s.placement.computation = some c →
    s.placement.request = .none → (headDescriptor s.ring).state = .free →
    (linkSends s.link.state = false → (∀ a : Announced, s.placement.announced = some a → a.runs ≠ (computeResult cfg c).runs) →
      yieldFails cfg (setOwn (computeResult cfg c).runs 256 s.placement.map) = false →
      exec .computationCompletion s = .next
        { s with placement := { s.placement with
            computation := none, working := some (computeResult cfg c)
            map := setOwn (computeResult cfg c).runs 256 s.placement.map } }) ∧
    (∀ a : Announced, s.placement.announced = some a → a.runs = (computeResult cfg c).runs →
      yieldFails cfg (setOwn a.runs a.order s.placement.map) = false →
      exec .computationCompletion s = .next
        { s with placement := { s.placement with
            computation := none, working := some (computeResult cfg c), map := setOwn a.runs a.order s.placement.map } })) ∧
  (∀ (cfg : Settings) (s : State) (c : Computation), activeSettings s = some cfg → s.placement.computation = some c →
    s.supervisor.station = .running → linkSends s.link.state = false → s.placement.announced = none → s.placement.request = .none →
    8 ≤ s.timeBase.takenSlot → s.timeBase.takenSlot < 28 →
    yieldFails cfg (setOwn (computeResult cfg c).runs Config.ownOrder s.placement.map) = true →
    (headDescriptor s.ring).producer = some .place → (headDescriptor s.ring).state = .doneFail → s.ring.waiting = [] →
    s.ring.occupancy = 1 → s.ring.descriptors.get (s.ring.head + 1) = Descriptor.freed →
    ∃ t : State, exec .computationCompletion s = .next t ∧
      t.placement.computation.isSome = true ∧ t.placement.working = some (computeResult cfg c) ∧ t.placement.request = .none ∧
      t.ring = { s.ring with
        descriptors := s.ring.descriptors.set s.ring.head Descriptor.freed, head := s.ring.head + 1, occupancy := 0 }) ∧
  (∀ (cfg : Settings) (s : State) (c : Computation), activeSettings s = some cfg → s.placement.computation = some c →
    s.supervisor.station = .running → linkSends s.link.state = true → s.placement.announced = none → s.placement.request = .none →
    8 ≤ s.timeBase.takenSlot → s.timeBase.takenSlot < 28 →
    yieldFails cfg (setOwn (computeResult cfg c).runs Config.ownOrder s.placement.map) = true →
    (headDescriptor s.ring).producer = some .place →
    (headDescriptor s.ring).state = .doneOk ∨ (headDescriptor s.ring).state = .doneFail → s.ring.waiting = [] →
    s.ring.occupancy = 1 → s.ring.fill = s.ring.head + 1 →
    ∃ t : State, exec .computationCompletion s = .next t ∧
      t.placement.computation.isSome = true ∧ t.placement.working = some (computeResult cfg c) ∧ t.placement.request = .none ∧
      t.ring = { s.ring with
        descriptors := (s.ring.descriptors.set s.ring.head Descriptor.freed).set (s.ring.head + 1)
          { state := .doneFail, reason := some .cancelled, producer := some .place, cancel := false,
            payload := placeBytes ((s.timeBase.cycle + 1).setWidth 8) 0 (viewIncomplete s) (decide (0 < s.placement.sagCount)) false
              (upstreamEnd cfg s) (downstreamEnd cfg s) (computeResult cfg c).runs }
        head := s.ring.head + 1
        fill := s.ring.head + 1 + 1 })

/-! ### The dispatcher and the Peer Table (R82, R85, R99 to R110, R127, R171) -/

/-- DISPATCH of a LINE entry: it leaves the queue and the line state record takes its state and source with age 0; nothing else changes (R110,
R171). DISPATCH of an off-cycle PLACE: it leaves the queue and sets the refusal mark, and is delivered on none of its routes (R127, R128).
DISPATCH of a PLACE on the placement route that makes no yield: the entry of its address, or a new one while fewer than 20 stand and the
address has no set, else the row, takes the runs with the order number, and the map's contribution of that address is replaced; the
boundary records of its boundary routes take the end temperature that faces the station (R71, R99 to R102, R108). DISPATCH of a PLACE on a
boundary route alone: the boundary records take it, the map and the unit stand, and an entry of its address is removed, its placement, if
it holds one, going to the row with its order (R103, R108, R171). -/
def Obligations.DispatchDeliversItsEntry : Prop :=
  (∀ (cfg : Settings) (s : State) (e : QueueEntry) (es : List QueueEntry), activeSettings s = some cfg →
    s.placement.computation = none → s.queue.entries = e :: es → e.order = none →
    exec .dispatch s = .next
      { s with
        queue := { s.queue with entries := es }
        peers := { s.peers with
          line := { state := if u8At e.payload 0 = 1 then .flowing else .standing, source := some e.source, age := 0 } } }) ∧
  (∀ (cfg : Settings) (s : State) (e : QueueEntry) (es : List QueueEntry) (order : Nat) (target : Byte),
    activeSettings s = some cfg → s.placement.computation = none → s.queue.entries = e :: es → e.order = some order →
    e.target = some target → target ≠ (s.timeBase.cycle + 1).setWidth 8 →
    exec .dispatch s = .next { s with queue := { s.queue with entries := es, refusalMark := true } }) ∧
  (∀ (cfg : Settings) (s : State) (e : QueueEntry) (es : List QueueEntry) (order : Nat),
    activeSettings s = some cfg → s.placement.computation = none → s.queue.entries = e :: es → e.order = some order →
    e.target = some ((s.timeBase.cycle + 1).setWidth 8) → e.routes.placement = true → e.source ≠ cfg.address →
    yieldFails cfg (setPeer e.source (placePayload e.payload).runs order s.placement.map) = false →
    ∃ t : State, exec .dispatch s = .next t ∧ t.queue.entries = es ∧ t.queue.refusalMark = s.queue.refusalMark ∧
      t.placement = { s.placement with
        map := s.placement.map.filter (fun c => decide (c.source ≠ .peer e.source)) ++
          [{ source := .peer e.source, order := order, runs := (placePayload e.payload).runs, ration := none }] } ∧
      (hasEntry s.peers e.source = true →
        t.peers.row = s.peers.row ∧
        t.peers.entries = s.peers.entries.map (fun x =>
          if x.address = e.source then
            { x with state := .fresh, next := some (placePayload e.payload).runs, order := some order,
                     lastHeard := (s.timeBase.cycle + 1).setWidth 8 }
          else x)) ∧
      (hasEntry s.peers e.source = false → hasSet s.peers e.source = false → s.peers.entries.length < 20 →
        t.peers.row = s.peers.row ∧
        t.peers.entries = s.peers.entries ++ [
          { address := e.source, state := .fresh, silentCount := 0, next := some (placePayload e.payload).runs,
            order := some order, lastHeard := (s.timeBase.cycle + 1).setWidth 8 }]) ∧
      (hasEntry s.peers e.source = false → hasSet s.peers e.source = true ∨ 20 ≤ s.peers.entries.length →
        t.peers.entries = s.peers.entries ∧
        t.peers.row = s.peers.row.filter (fun x => decide (x.address ≠ e.source)) ++
          [{ address := e.source, runs := (placePayload e.payload).runs, order := order }]) ∧
      t.peers.upstream = (if e.routes.upstream then { temperature := (placePayload e.payload).downstream, age := 0 }
        else s.peers.upstream) ∧
      t.peers.downstream = (if e.routes.downstream then { temperature := (placePayload e.payload).upstream, age := 0 }
        else s.peers.downstream) ∧
      t.peers.line = s.peers.line ∧ t.peers.flow = s.peers.flow ∧ t.zones = s.zones ∧ t.ring = s.ring ∧ t.link = s.link ∧
      t.supervisor = s.supervisor ∧ t.timeBase = s.timeBase) ∧
  (∀ (cfg : Settings) (s : State) (e : QueueEntry) (es : List QueueEntry) (order : Nat),
    activeSettings s = some cfg → s.placement.computation = none → s.queue.entries = e :: es → e.order = some order →
    e.target = some ((s.timeBase.cycle + 1).setWidth 8) → e.routes.placement = false →
    ∃ t : State, exec .dispatch s = .next t ∧ t.queue.entries = es ∧ t.placement = s.placement ∧
      t.peers.upstream = (if e.routes.upstream then { temperature := (placePayload e.payload).downstream, age := 0 }
        else s.peers.upstream) ∧
      t.peers.downstream = (if e.routes.downstream then { temperature := (placePayload e.payload).upstream, age := 0 }
        else s.peers.downstream) ∧
      t.peers.entries = s.peers.entries.filter (fun x => decide (x.address ≠ e.source)) ∧
      (hasEntry s.peers e.source = false → t.peers.row = s.peers.row) ∧
      (∀ x : Entry, s.peers.entries.find? (fun y => decide (y.address = e.source)) = some x →
        (∀ (runs : List Run) (o : Nat), x.next = some runs → x.order = some o →
          t.peers.row = s.peers.row.filter (fun y => decide (y.address ≠ e.source)) ++
            [{ address := e.source, runs := runs, order := o }]) ∧
        (x.next = none → t.peers.row = s.peers.row)) ∧
      t.peers.line = s.peers.line ∧ t.zones = s.zones ∧ t.ring = s.ring ∧ t.link = s.link)

/-- A delivered placement that makes the own announced placement, below revision 3, the latest in a cell over the budget, in the announce
window of a RUNNING station, begins a recompute against the new map; at revision 3 it begins none (R82, R85). -/
def Obligations.YieldAnswersWithARevision : Prop :=
  ∀ (cfg : Settings) (s : State) (e : QueueEntry) (es : List QueueEntry) (order : Nat) (a : Announced),
    activeSettings s = some cfg → s.placement.computation = none → s.queue.entries = e :: es → e.order = some order →
    e.target = some ((s.timeBase.cycle + 1).setWidth 8) → e.routes.placement = true → e.source ≠ cfg.address →
    s.supervisor.station = .running → 8 ≤ s.timeBase.takenSlot → s.timeBase.takenSlot < 28 →
    s.placement.request = .none → s.placement.announced = some a →
    yieldFails cfg (setPeer e.source (placePayload e.payload).runs order s.placement.map) = true →
    ∃ t : State, exec .dispatch s = .next t ∧ t.placement.announced = some a ∧ t.placement.request = .none ∧ t.ring = s.ring ∧
      (a.revision < 3 → ∃ c : Computation, t.placement.computation = some c ∧
        c.others = (setPeer e.source (placePayload e.payload).runs order s.placement.map).filter
          (fun x => decide (x.source ≠ .own))) ∧
      (3 ≤ a.revision → t.placement.computation = none)

/-- A yield of an unannounced placement with no request: a recompute begins (R76, R82). A yield with a WAITING request: it is withdrawn from
the waiting list, the own contribution returns to an announced placement, and a recompute begins (R82, R85, R163). A yield with a QUEUED
request whose descriptor is READY behind the head: it is voided, and a recompute begins (R82, R162). A yield with a QUEUED request whose
descriptor is READY at the head: it is voided, completes CANCELLED at once and is released, and a recompute begins (R82, R160, R161,
R162). That the release comes before the recompute is assumption log 26. A yield with a QUEUED request that is SENDING: while its attempt
is on the line the cancel is recorded and nothing more is done; between attempts it completes CANCELLED at once, is dropped from the
transmit engine and released, and a recompute begins. While CANCEL_RECORDED a yield changes nothing but the map (R82, R83, R136, R162).
That the release comes before the recompute is assumption log 26. -/
def Obligations.UnannouncedYieldWithdrawsOrCancels : Prop :=
  (∀ (cfg : Settings) (s : State) (e : QueueEntry) (es : List QueueEntry) (order : Nat), YieldingDispatch cfg e es order s →
    s.placement.announced = none → s.placement.request = .none →
    ∃ t : State, exec .dispatch s = .next t ∧ t.placement.request = .none ∧ t.ring = s.ring ∧
      (t.placement.computation.map Computation.others) = some ((setPeer e.source (placePayload e.payload).runs order
        s.placement.map).filter (fun x => decide (x.source ≠ .own)))) ∧
  (∀ (cfg : Settings) (s : State) (e : QueueEntry) (es : List QueueEntry) (order : Nat), YieldingDispatch cfg e es order s →
    s.placement.request = .waiting →
    ∃ t : State, exec .dispatch s = .next t ∧ t.placement.request = .none ∧
      t.ring = { s.ring with waiting := s.ring.waiting.filter (fun w => decide (w.producer ≠ .place)) } ∧
      t.placement.announced = s.placement.announced ∧ t.placement.computation.isSome = true ∧
      (∀ a : Announced, s.placement.announced = some a →
        ownOf t.placement.map = some { source := .own, order := a.order, runs := a.runs, ration := none })) ∧
  (∀ (cfg : Settings) (s : State) (e : QueueEntry) (es : List QueueEntry) (order : Nat) (i : Index), YieldingDispatch cfg e es order s →
    s.placement.request = .queued i → i ≠ s.ring.head → (s.ring.descriptors.get i).state = .ready →
    (headDescriptor s.ring).state = .sending ∨ ((headDescriptor s.ring).state = .ready ∧ linkSends s.link.state = true) →
    ∃ t : State, exec .dispatch s = .next t ∧ t.placement.request = .none ∧
      t.ring = { s.ring with descriptors := s.ring.descriptors.set i { s.ring.descriptors.get i with state := .void } } ∧
      t.placement.announced = s.placement.announced ∧ t.placement.lastFailure = s.placement.lastFailure ∧
      t.placement.computation.isSome = true) ∧
  (∀ (cfg : Settings) (s : State) (e : QueueEntry) (es : List QueueEntry) (order : Nat), YieldingDispatch cfg e es order s →
    s.placement.request = .queued s.ring.head → (headDescriptor s.ring).state = .ready → (headDescriptor s.ring).producer = some .place →
    s.ring.waiting = [] → s.ring.occupancy = 1 → s.ring.descriptors.get (s.ring.head + 1) = Descriptor.freed →
    ∃ t : State, exec .dispatch s = .next t ∧ t.placement.request = .none ∧
      t.ring = { s.ring with
        descriptors := s.ring.descriptors.set s.ring.head Descriptor.freed, head := s.ring.head + 1, occupancy := 0 } ∧
      t.placement.announced = s.placement.announced ∧ t.placement.lastFailure = s.placement.lastFailure ∧
      t.placement.computation.isSome = true) ∧
  (∀ (cfg : Settings) (s : State) (e : QueueEntry) (es : List QueueEntry) (order : Nat), YieldingDispatch cfg e es order s →
    (headDescriptor s.ring).state = .sending → (headDescriptor s.ring).producer = some .place →
    ∃ t : State, exec .dispatch s = .next t ∧
      (s.placement.request = .queued s.ring.head → s.link.attempt ≠ none → s.link.inHand = some .ring →
        t.placement = { s.placement with
          request := .cancelRecorded s.ring.head, map := setPeer e.source (placePayload e.payload).runs order s.placement.map } ∧
        t.ring = { s.ring with
          descriptors := s.ring.descriptors.set s.ring.head { headDescriptor s.ring with cancel := true } } ∧ t.link = s.link) ∧
      (s.placement.request = .queued s.ring.head → s.link.attempt = none → s.ring.waiting = [] → s.ring.occupancy = 1 →
        s.ring.descriptors.get (s.ring.head + 1) = Descriptor.freed →
        t.placement.request = .none ∧ t.placement.computation.isSome = true ∧ t.placement.lastFailure = s.placement.lastFailure ∧
        t.link.inHand ≠ some .ring ∧
        t.ring = { s.ring with
          descriptors := s.ring.descriptors.set s.ring.head Descriptor.freed, head := s.ring.head + 1, occupancy := 0 }) ∧
      (s.placement.request = .cancelRecorded s.ring.head →
        t.placement = { s.placement with map := setPeer e.source (placePayload e.payload).runs order s.placement.map } ∧
        t.ring = s.ring ∧ t.link = s.link))

/-! ### Frames and payloads (R117 to R126, R129) -/

/-- A frame sent is the frame received: the stuffed bits a station sends for its fields, an Acknowledge bit of either level and seven
recessive End bits are received as those fields with the check passed (R118 to R121, R142). -/
def Obligations.FrameSentIsFrameReceived : Prop :=
  ∀ (kind source group : Nat) (payload : List Byte) (ack : Bool), kind < 8 → source < 64 → group < 16 → payload.length < 64 →
    rxFrame ((sentBits kind source group payload).map SentBit.level ++ ack :: List.replicate 7 true) =
      .received { kind := kind, source := source, group := group, length := payload.length, payload := payload } []

/-- The payload of a PLACE frame reads back as what it was built from, and passes its tests when its runs and temperatures are in range (R125,
R126). The payloads of TIME and LINE read back as what they were built from, and a LINE payload passes its tests (R123, R124). -/
def Obligations.PayloadsReadBack : Prop :=
  (∀ (target : Byte) (revision : Nat) (view sag held : Bool) (up down : Option Int) (runs : List Run),
    revision ≤ 3 → runs.length ≤ 6 →
    (∀ t : Int, up = some t → inTemperatureRange t) → (∀ t : Int, down = some t → inTemperatureRange t) →
    (∀ r ∈ runs, 1 ≤ r.zone ∧ r.zone ≤ 6 ∧ r.start < 32 ∧ 1 ≤ r.length ∧ r.length ≤ 32 ∧ 1 ≤ r.load ∧ r.load ≤ 255 ∧
      r.surcharge ≤ 255 ∧ r.stuck = false) →
    placePayload (placeBytes target revision view sag held up down runs) =
      { target := target, revision := revision, viewIncomplete := view, sagActive := sag, held := held, runCount := runs.length,
        upstream := up, downstream := down, runs := runs } ∧
    (placeBytes target revision view sag held up down runs).length = 6 + 4 * runs.length ∧
    ((runs.map Run.zone).Nodup → placeValid (placeBytes target revision view sag held up down runs) = true)) ∧
  ((∀ (cycle : Cycle) (slot index slotLen : Nat) (c : MainsClass), slot < 32 → index < 16 → slotLen ≤ 16 →
    timePayload (timeBytes cycle slot index slotLen c) =
      { cycle := cycle, slot := slot, mainsIndex := index, slotLen := slotLen,
        frequency := match c with | .hz50 => 50 | .hz60 => 60 }) ∧
  (∀ (level : FlowLevel) (changed : Byte) (change held : Bool) (now : Cycle),
    lineValid (lineBytes level changed change held now) = true ∧
    lineOfPayload (lineBytes level changed change held now) = lineOfLevel level ∧
    byteAt (lineBytes level changed change held now) 1 = changed ∧
    (byteAt (lineBytes level changed change held now) 2).getLsbD 7 = change ∧
    (byteAt (lineBytes level changed change held now) 2).getLsbD 6 = held ∧
    byteAt (lineBytes level changed change held now) 3 = now.setWidth 8))

/-- The STATUS payload is 24 bytes, and its fields stand where the table puts them, for counts and temperatures within their bounds; the
control temperature of each zone is absent while its channel is UNSEEDED or FAULTED (R129, R130). -/
def Obligations.StatusPayloadLayout : Prop :=
  ∀ s : State, s.link.tec ≤ 255 → s.link.recv ≤ 255 → s.queue.overflow ≤ 255 → peerCount s.peers ≤ 62 →
    s.placement.revisionsBefore ≤ 3 →
    (∀ (z : Index) (x : Int), (s.scanner.control.get z).filtered = some x → inTemperatureRange x) →
    (statusBytes s).length = 24 ∧
    (∀ z : Index, temperatureAt (statusBytes s) (9 + 2 * z.val) = (match (s.scanner.control.get z).state with
      | .unseeded => none
      | .tracking => (s.scanner.control.get z).filtered
      | .faulted => none)) ∧
    bitField (byteAt (statusBytes s) 0) 0 3 = stationCode s.supervisor.station ∧
    bitField (byteAt (statusBytes s) 0) 3 2 = causeCode s.supervisor.cause ∧
    bitField (byteAt (statusBytes s) 0) 5 2 = linkCode s.link.state ∧
    (byteAt (statusBytes s) 0).getLsbD 7 = s.queue.refusalMark ∧
    u8At (statusBytes s) 1 = s.link.tec ∧ u8At (statusBytes s) 2 = s.link.recv ∧
    (∀ z : Index, bitField (byteAt (statusBytes s) (3 + z.val)) 5 3 = conditionCode (s.zones.get z).condition ∧
      bitField (byteAt (statusBytes s) (3 + z.val)) 3 2 = modeCode (s.zones.get z).mode ∧
      bitField (byteAt (statusBytes s) (3 + z.val)) 0 3 = sourceCode (s.zones.get z).source) ∧
    (byteAt (statusBytes s) 21).getLsbD 7 = decide (0 < s.placement.sagCount) ∧
    (byteAt (statusBytes s) 21).getLsbD 6 = viewIncomplete s ∧
    bitField (byteAt (statusBytes s) 21) 4 2 = syncCode s.timeBase.sync ∧
    bitField (byteAt (statusBytes s) 21) 2 2 = lineCode s.peers.line.state ∧
    (byteAt (statusBytes s) 21).getLsbD 1 = s.supervisor.contactorLatch ∧ (byteAt (statusBytes s) 21).getLsbD 0 = s.link.clash ∧
    u8At (statusBytes s) 22 = s.queue.overflow ∧ bitField (byteAt (statusBytes s) 23) 2 6 = peerCount s.peers ∧
    bitField (byteAt (statusBytes s) 23) 0 2 = s.placement.revisionsBefore

/-! ### Receiving (R8 to R14, R122, R128, R134, R135, R140 to R143, R147, R150, R155, R156, R167 to R170) -/

/-- A line steady for the 20 quanta of every bit is sampled as those bits, at each bit rate by FRAME_RECEIVED, LINE_IDLE, ATTEMPT_END,
QUIET_INTERVAL and LOOPBACK_IDLE_WAIT_PASSED (R134). CHANCE_TO_SEND that takes a frame in hand: a wave begins in quantum 14 of the own
Start bit, where no edge is taken, and its steady bits after that bit are sampled as those bits (R134, R136; the quantum is assumption log
27). One quantum of a frame being received. The line is sampled at the end of quantum 13 and nowhere else. An edge to dominant in quantum
0 corrects nothing; in quanta 1 to 13 it puts the quantum back by as many quanta as the edge is late, at most 2; in quanta 14 to 17 the
bit ends 2 quanta early; in quanta 18 and 19 the next bit begins at the edge. A second edge of a bit, and an edge in a bit driven
dominant, corrects nothing; the Acknowledge bit that this station gives is driven dominant (R134, R140). That an edge in quantum 0 is the
one edge of its bit is assumption log 27. One quantum while line tracking is WAITING_IDLE or IDLE: an edge to dominant aligns the bit
timing outright, so the bit begins at that edge, whatever its quantum; without one, the line is sampled at the end of quantum 13 (R134).
That the aligning edge is the one edge of its bit is assumption log 27. One quantum of an own frame with an edge to dominant. At the
leading edge of a bit the station knows what it drives there: the edge is taken in a bit it sends recessive, and in no bit it sends
dominant, where the timing goes on quantum by quantum, with the sample at the end of quantum 13 (R134). One quantum of the own reject
burst: the station drives it dominant, and takes no edge in it (R134, R141). QUIET_INTERVAL past a kept end: an edge aligns outright, or
resynchronises in a frame begun since (R134, R142; assumption log 18). Past a kept own bit error an ACTIVE station drives its burst; a
PASSIVE one is in the frame it goes on receiving (R138, R141). -/
def Obligations.LineIsSampledByItsBitTiming : Prop :=
  (∀ (cfg : Settings) (s : State) (c : Line → Instr) (before : Bool) (bits : List Bool) (units : Nat),
    s.loader.settled = some cfg → units = (if cfg.bitRate = 0 then 4 else if cfg.bitRate = 1 then 2 else 1) →
    s.link.clock.quantum = 0 → s.link.clock.unit = 0 →
    (∃ flow : Bool, c = fun line => .frameReceived line flow) ∨ c = .lineIdle ∨ c = .attemptEnd ∨ c = .quietInterval ∨
      c = .loopbackIdleWaitPassed →
    ∃ resynced : Bool,
      SampledAs c (.wave before (bits.flatMap fun b => List.replicate (20 * units) b)) bits 0 resynced s) ∧
  (∀ (cfg : Settings) (s : State) (count recessive units : Nat) (before level : Bool) (bits : List Bool),
    activeSettings s = some cfg → units = (if cfg.bitRate = 0 then 4 else if cfg.bitRate = 1 then 2 else 1) →
    s.link.tracking = .idle count →
    (s.link.state = .active ∧ 3 ≤ count + recessive) ∨ (s.link.state = .passive ∧ 11 ≤ count + recessive) →
    s.ring.mailbox ≠ .empty ∨ ((headDescriptor s.ring).producer ≠ none ∧
      ((headDescriptor s.ring).state = .ready ∨ (headDescriptor s.ring).state = .sending)) →
    ∃ resynced : Bool, SampledAs (fun line => .chanceToSend recessive line)
      (.wave before (List.replicate (6 * units) level ++ bits.flatMap fun b => List.replicate (20 * units) b)) bits 0 resynced s) ∧
  (∀ (cfg : Settings) (s : State) (rx : Reception) (q units : Nat) (before level flow : Bool), activeSettings s = some cfg →
    units = (if cfg.bitRate = 0 then 4 else if cfg.bitRate = 1 then 2 else 1) →
    s.link.reception = some rx → s.link.attempt = none → rxFrame rx.bits = .incomplete →
    s.link.clock.quantum = q → q < 20 → s.link.clock.unit = 0 →
    (1 ≤ q → s.link.clock.driving = false → s.link.clock.resynced = false →
      SampledAs (fun line => .frameReceived line flow) (.wave true (List.replicate units false)) []
        (if q ≤ 13 then q - min q 2 + 1 else if q ≤ 17 then (q + 3) % 20 else 1) (decide (q ≤ 16)) s) ∧
    (1 ≤ q → before = false ∨ level = true ∨ s.link.clock.driving = true ∨ s.link.clock.resynced = true →
      SampledAs (fun line => .frameReceived line flow) (.wave before (List.replicate units level)) (if q = 13 then [level] else [])
        ((q + 1) % 20) (if q = 19 then false else s.link.clock.resynced) s) ∧
    (q = 0 → ∀ taken : Bool,
      (taken = true ↔ before = true ∧ level = false ∧
        ¬((∃ f : Frame, rxPart rx.bits = .passed f []) ∧ linkSends s.link.state = true ∧ rx.mute = false)) →
      SampledAs (fun line => .frameReceived line flow) (.wave before (List.replicate units level)) [] 1 taken s)) ∧
  (∀ (cfg : Settings) (s : State) (q n units : Nat) (before level : Bool), activeSettings s = some cfg →
    units = (if cfg.bitRate = 0 then 4 else if cfg.bitRate = 1 then 2 else 1) →
    s.link.tracking = .waitingIdle n ∨ s.link.tracking = .idle n → s.link.attempt = none → s.link.reception = none →
    s.link.clock.quantum = q → q < 20 → s.link.clock.unit = 0 → s.link.clock.driving = false →
    SampledAs .lineIdle (.wave true (List.replicate units false)) [] 1 true s ∧
    (before = false ∨ level = true →
      SampledAs .lineIdle (.wave before (List.replicate units level)) (if q = 13 then [level] else []) ((q + 1) % 20)
        (if q = 0 ∨ q = 19 then false else s.link.clock.resynced) s)) ∧
  (∀ (cfg : Settings) (s : State) (a : Attempt) (b : SentBit) (q units : Nat), activeSettings s = some cfg →
    units = (if cfg.bitRate = 0 then 4 else if cfg.bitRate = 1 then 2 else 1) →
    s.link.attempt = some a → s.link.reception = none → txCompare a.sent a.samples = .pending →
    s.link.clock.quantum = q → q < 20 → s.link.clock.unit = 0 →
    (q = 0 → a.sent[a.samples.length]? = some b →
      SampledAs .attemptEnd (.wave true (List.replicate units false)) [] 1 b.level s ∧
      ∀ t : State, exec (.attemptEnd (.wave true (List.replicate units false))) s = .next t → t.link.clock.driving = !b.level) ∧
    (1 ≤ q → s.link.clock.driving = true →
      SampledAs .attemptEnd (.wave true (List.replicate units false)) (if q = 13 then [false] else []) ((q + 1) % 20)
        (if q = 19 then false else s.link.clock.resynced) s)) ∧
  (∀ (cfg : Settings) (s : State) (left q units : Nat) (before level : Bool), activeSettings s = some cfg →
    units = (if cfg.bitRate = 0 then 4 else if cfg.bitRate = 1 then 2 else 1) →
    s.link.tracking = .rejecting left → s.link.state = .active →
    s.link.clock.quantum = q → q < 20 → s.link.clock.unit = 0 → q = 0 ∨ s.link.clock.driving = true →
    SampledAs .lineIdle (.wave before (List.replicate units level)) (if q = 13 then [level] else []) ((q + 1) % 20)
      (if q = 0 ∨ q = 19 then false else s.link.clock.resynced) s) ∧
  (∀ (cfg : Settings) (s : State) (rx : Reception) (position q units : Nat), activeSettings s = some cfg →
    units = (if cfg.bitRate = 0 then 4 else if cfg.bitRate = 1 then 2 else 1) →
    s.link.state = .detached → s.link.tracking = .inFrame position → s.link.attempt = none → s.link.reception = some rx →
    s.link.clock.quantum = q → 1 ≤ q → q ≤ 13 → s.link.clock.unit = 0 → s.link.clock.driving = false → s.link.clock.resynced = false →
    (rxFrame rx.bits = .void [] → SampledAs .quietInterval (.wave true (List.replicate units false)) [] 1 true s) ∧
    (rxFrame rx.bits = .void (List.replicate 10 true ++ [false]) →
      SampledAs .quietInterval (.wave true (List.replicate units false)) [] (q - min q 2 + 1) true s)) ∧
  (∀ (cfg : Settings) (s : State) (a : Attempt) (position : Nat) (rest : List Bool), s.link.tracking = .inFrame position →
    s.link.attempt = some a → s.link.reception = none → txCompare a.sent a.samples = .bitError rest →
    (s.link.state = .active → s.link.tec < 92 → s.link.recv < 96 → rest.length < 7 →
      (onLine cfg s).tracking = .rejecting (7 - rest.length) ∧ drivesDominant (onLine cfg s) = true) ∧
    (s.link.state = .passive → 77 ≤ s.link.tec ∨ 81 ≤ s.link.recv → rest = [] → rxFrame a.samples = .incomplete →
      (onLine cfg s).tracking = .inFrame a.samples.length ∧ (onLine cfg s).attempt = none ∧
      (onLine cfg s).reception = some { bits := a.samples, mute := true, ack := none } ∧ drivesDominant (onLine cfg s) = false))

/-- START_BIT: a dominant bit while line tracking is IDLE opens a reception, with the cycle number and position of this moment as its
timestamp; the bit timing stands after the sample of a bit whose leading edge has aligned it; a run of recessive bits counted while
DETACHED begins again; nothing else changes (R8, R134, R135, R152). That the aligning edge is the one of its bit is assumption log 27.
LINE_IDLE: ten recessive bits in a row while WAITING_IDLE reach IDLE, and a dominant bit begins the run again (R135). That IDLE begins
with a count of 3 is how the model counts the end of the intermission (assumption log 17). LINE_IDLE while IDLE: recessive bits raise the
count in every link state that is not DETACHED, LISTEN_ONLY included (R135). LINE_IDLE while the own reject burst is on the line, where
the command that found the error carried less than all of it: nothing is taken from its bits, of either level, and line tracking is
WAITING_IDLE with an idle run of 0 at the seventh of them (R135, R141). That LINE_IDLE carries them is assumption log 18. -/
def Obligations.LineTrackingTakesItsBits : Prop :=
  (∀ (cfg : Settings) (s : State) (count : Nat), activeSettings s = some cfg → s.link.tracking = .idle count →
    exec .startBit s = .next
      { s with
        timeBase := { s.timeBase with timestamp := some { cycle := s.timeBase.cycle, position := s.timeBase.position } }
        link := { s.link with
          tracking := .inFrame 0, reception := some { bits := [], mute := false, ack := none }
          clock := { unit := 0, quantum := 14, resynced := true, driving := false }
          quietRun := if s.link.state = .detached then 0 else s.link.quietRun } }) ∧
  (∀ (cfg : Settings) (s : State) (run : Nat), activeSettings s = some cfg → s.link.state ≠ .detached →
    s.link.tracking = .waitingIdle run →
    (∀ n : Nat, run + n < 10 →
      exec (.lineIdle (.sampled (List.replicate n true))) s = .next { s with link := { s.link with tracking := .waitingIdle (run + n) } }) ∧
    (run < 10 →
      exec (.lineIdle (.sampled (List.replicate (10 - run) true))) s = .next { s with link := { s.link with tracking := .idle 3 } }) ∧
    exec (.lineIdle (.sampled [false])) s = .next { s with link := { s.link with tracking := .waitingIdle 0 } }) ∧
  (∀ (cfg : Settings) (s : State) (count n : Nat), activeSettings s = some cfg → s.link.state ≠ .detached →
    s.link.tracking = .idle count →
    exec (.lineIdle (.sampled (List.replicate n true))) s = .next { s with link := { s.link with tracking := .idle (count + n) } }) ∧
  (∀ (cfg : Settings) (s : State) (left : Nat) (bits : List Bool), activeSettings s = some cfg → s.link.state = .active →
    s.link.tracking = .rejecting left →
    (bits.length < left →
      exec (.lineIdle (.sampled bits)) s = .next { s with link := { s.link with tracking := .rejecting (left - bits.length) } }) ∧
    (1 ≤ left → bits.length = left →
      exec (.lineIdle (.sampled bits)) s = .next { s with link := { s.link with tracking := .waitingIdle 0 } }))

/-- FRAME_RECEIVED, a valid LINE or PLACE frame with a route, from another address, while the queue has room: it becomes the queue's last
entry, a PLACE with the order number it takes from the counter; line tracking is IDLE with count 0, the timestamp is dropped, the election
hears the source, REC goes down by one in ACTIVE and PASSIVE, and the frame counts as acknowledged as its Acknowledge bit was, or, where
these bits hold that bit, as the link state then decides (R14, R72, R135, R140, R143, R147, R169). -/
def Obligations.ReceivedFrameIsQueued : Prop :=
  ∀ (cfg : Settings) (s : State) (rx : Reception) (bits : List Bool) (f : Frame) (flow : Bool), activeSettings s = some cfg →
    s.link.reception = some rx → rxFrame (rx.bits ++ bits) = .received f [] → frameValid f = true →
    f.kind = 1 ∨ f.kind = 2 → (routesOf cfg f).any = true → f.source ≠ cfg.address → s.queue.entries.length < 4 →
    s.link.state ≠ .detached →
    ∃ t : State, exec (.frameReceived (.sampled bits) flow) s = .next t ∧
      t.queue = { s.queue with entries := s.queue.entries ++ [
        { source := f.source, group := f.group, payload := f.payload, routes := routesOf cfg f,
          order := if f.kind = 2 then some (min 255 (s.placement.orderCounter + 1)) else none,
          target := if f.kind = 2 then some (byteAt f.payload 0) else none }] } ∧
      t.placement.orderCounter = (if f.kind = 2 then min 255 (s.placement.orderCounter + 1) else s.placement.orderCounter) ∧
      t.placement.map = s.placement.map ∧ t.peers = s.peers ∧ t.ring = s.ring ∧ t.zones = s.zones ∧
      t.link.tracking = .idle 0 ∧ t.link.reception = none ∧ t.link.tec = s.link.tec ∧
      t.link.recv = (if linkSends s.link.state then s.link.recv - 1 else s.link.recv) ∧
      t.link.ackDriven = (match rx.ack with | none => linkSends s.link.state && !rx.mute | some a => a) ∧
      t.timeBase.timestamp = none ∧ t.timeBase.position = s.timeBase.position ∧ t.timeBase.cycle = s.timeBase.cycle ∧
      t.timeBase.heardNow = some (match s.timeBase.heardNow with | none => f.source | some a => min f.source a)

/-- FRAME_RECEIVED with the queue locked: the four entries stand, the overflow count goes up by one, and the loss of a PLACE marks the view
incomplete while that of a LINE does not (R74, R169, R170). FRAME_RECEIVED, a refused frame: received at the link like any other, it sets
the refusal mark and reaches no block: not the election, the order counter, the queue, the clash test or the Peer Table (R122, R128).
FRAME_RECEIVED, a void frame, one with a dominant End bit and no error of the station's own: neither TEC nor REC changes, nothing is
handed on, the timestamp is dropped, no reject is driven, and line tracking waits for idle; a DETACHED station counts its bits for quiet
intervals like any others. An ACTIVE or PASSIVE station that found no error has driven the Acknowledge bit (R140, R142, R147, R152).
FRAME_RECEIVED, a stuff or check error: in ACTIVE and PASSIVE REC goes up by two and the link state is evaluated; a station that was not
ACTIVE marks the view incomplete; a station ACTIVE after it sends a reject burst of seven bits; the frame reaches no block, and line
tracking of any other station waits for idle at once (R74, R135, R140, R141, R147, R150). That a station becoming PASSIVE at the error
neither rejects nor reports it is assumption log 16. -/
def Obligations.LostAndRefusedFramesAreNoted : Prop :=
  (∀ (cfg : Settings) (s : State) (rx : Reception) (bits : List Bool) (f : Frame) (flow : Bool), activeSettings s = some cfg →
    s.link.reception = some rx → rxFrame (rx.bits ++ bits) = .received f [] → frameValid f = true →
    f.kind = 1 ∨ f.kind = 2 → (routesOf cfg f).any = true → f.source ≠ cfg.address → 4 ≤ s.queue.entries.length →
    ∃ t : State, exec (.frameReceived (.sampled bits) flow) s = .next t ∧
      t.queue = { s.queue with overflow := min 255 (s.queue.overflow + 1) } ∧
      t.placement.viewFlag = (s.placement.viewFlag || decide (f.kind = 2))) ∧
  (∀ (cfg : Settings) (s : State) (rx : Reception) (bits : List Bool) (f : Frame) (flow : Bool), activeSettings s = some cfg →
    s.link.reception = some rx → rxFrame (rx.bits ++ bits) = .received f [] → frameValid f = false → s.link.state ≠ .detached →
    ∃ t : State, exec (.frameReceived (.sampled bits) flow) s = .next t ∧
      t.queue = { s.queue with refusalMark := true } ∧ t.placement = s.placement ∧ t.peers = s.peers ∧ t.ring = s.ring ∧
      t.zones = s.zones ∧ t.supervisor = s.supervisor ∧ t.scanner = s.scanner ∧
      t.timeBase = { s.timeBase with timestamp := none } ∧
      t.link.recv = (if linkSends s.link.state then s.link.recv - 1 else s.link.recv) ∧ t.link.clash = s.link.clash ∧
      t.link.tracking = .idle 0) ∧
  (∀ (cfg : Settings) (s : State) (rx : Reception) (bits : List Bool) (flow : Bool), activeSettings s = some cfg →
    s.link.reception = some rx → rxFrame (rx.bits ++ bits) = .void [] →
    ∃ t : State, exec (.frameReceived (.sampled bits) flow) s = .next t ∧
      t = { s with
        flowPin := flow
        timeBase := { s.timeBase with timestamp := none }
        link := { bits.foldl quietBit s.link with
          tracking := .waitingIdle 0, attempt := none, reception := none, ackDriven := t.link.ackDriven, rejectDriven := false } } ∧
      (s.link.state ≠ .detached → t.link.tec = s.link.tec ∧ t.link.recv = s.link.recv ∧ t.link.state = s.link.state ∧
        (rx.ack = none → t.link.ackDriven = (linkSends s.link.state && !rx.mute)) ∧
        (∀ driven : Bool, rx.ack = some driven → t.link.ackDriven = driven))) ∧
  (∀ (cfg : Settings) (s : State) (rx : Reception) (bits : List Bool) (flow : Bool), activeSettings s = some cfg →
    s.link.reception = some rx →
    rxFrame (rx.bits ++ bits) = .stuffError [] ∨ rxFrame (rx.bits ++ bits) = .checkError [] → s.link.state ≠ .detached →
    ∃ t : State, exec (.frameReceived (.sampled bits) flow) s = .next t ∧
      t.link.recv = (if linkSends s.link.state then min 255 (s.link.recv + 2) else s.link.recv) ∧ t.link.tec = s.link.tec ∧
      (s.link.state = .listenOnly → t.link.state = .listenOnly) ∧
      (s.link.state = .active → s.link.tec < 96 → t.link.state = if 96 ≤ min 255 (s.link.recv + 2) then .passive else .active) ∧
      t.link.tracking = (if t.link.state = .active then .rejecting 7 else .waitingIdle 0) ∧ t.link.reception = none ∧ t.link.rejectDriven = decide (t.link.state = .active) ∧
      t.placement = { s.placement with viewFlag := s.placement.viewFlag || decide (s.link.state ≠ .active) } ∧
      t.queue = s.queue ∧ t.peers = s.peers ∧ t.ring = s.ring ∧ t.zones = s.zones ∧
      t.timeBase = { s.timeBase with timestamp := none })

/-- FRAME_RECEIVED, a TIME frame used in RUNNING, HELD or MAINS_LOST: the TIME age becomes 0, the good-TIME age becomes 0 when the phase error
is within `jump_limit`, the cycle offset becomes pending, and the position moves by the phase error bounded by `jump_limit`. A move back,
within a slot, or into a slot that is not the one following the taken slot issues no event (R5, R9, R10, R12, R13). FRAME_RECEIVED, a used
TIME frame whose bounded move carries the position forward into the slot following the taken slot: that slot's event is issued at the
move. The slot is taken, its scan and window are armed, and the gates are set. In slot 0 the move is a cycle boundary: the cycle number
takes the offset that this frame has made pending, the ages go up by one, and the rollover is taken (R5, R6, R12, R13, R19, R20, R96,
R185). That the ages go up from the frame's 0 is assumption log 44. FRAME_RECEIVED, a TIME frame used in LISTENING: the correction is
outright, the position moves by the whole phase error, the cycle number is the sender's, one more when the count from the sender's
position passes the end of slot 31, and the join flag is set, here where no event is reached (R9, R11). FRAME_RECEIVED, a TIME frame used
in LISTENING whose outright move passes the start of the slot following the taken slot: the slot of the new position is taken, and one
event is issued, for it alone, with the adopted cycle number. Landing in slot 0 is a cycle boundary without a further count of the cycle
number: the ages and the join count go up by one (R6, R9, R11, R19, R20, R178, R185). From which position the way to that slot is counted
is assumption log 31, and that the frame is noted before that boundary is assumption log 44. -/
def Obligations.UsedTimeFrameCorrectsThePosition : Prop :=
  (∀ (cfg : Settings) (s : State) (rx : Reception) (bits : List Bool) (f : Frame) (flow : Bool) (stamp : Timestamp),
    activeSettings s = some cfg → settledState s.supervisor.station = true → s.link.reception = some rx →
    rxFrame (rx.bits ++ bits) = .received f [] → frameValid f = true → f.kind = 0 → s.timeBase.timestamp = some stamp →
    timeUsed cfg f.source (timePayload f.payload) (hearAddress cfg f.source s.timeBase) = true →
    s.link.state ≠ .detached →
    ∃ (t : State) (d e m : Int),
      exec (.frameReceived (.sampled bits) flow) s = .next t ∧
      d = ((u8At f.payload 2 * cfg.slotLen + u8At f.payload 3 : Nat) : Int) - stamp.position ∧
      e = (if (16 * cfg.slotLen : Int) < d then d - 32 * cfg.slotLen
        else if d < -(16 * cfg.slotLen - 1 : Int) then d + 32 * cfg.slotLen else d) ∧
      m = max (-(cfg.jumpLimit : Int)) (min cfg.jumpLimit e) ∧
      t.timeBase.position = ((s.timeBase.position + m) % (32 * cfg.slotLen : Nat)).toNat ∧
      (slotOf cfg t.timeBase.position = slotOf cfg s.timeBase.position ∨ m ≤ 0 ∨
          slotOf cfg t.timeBase.position ≠ (s.timeBase.takenSlot + 1) % 32 →
        t.timeBase.timeAge = 0 ∧ t.timeBase.takenSlot = s.timeBase.takenSlot ∧ t.timeBase.cycle = s.timeBase.cycle ∧
        t.timeBase.goodAge = (if e.natAbs ≤ cfg.jumpLimit then some 0 else s.timeBase.goodAge) ∧
        t.timeBase.pendingOffset = BitVec.ofNat 16 (u16At f.payload 0) -
          (if (16 * cfg.slotLen : Int) < d then stamp.cycle - 1
            else if d < -(16 * cfg.slotLen - 1 : Int) then stamp.cycle + 1 else stamp.cycle))) ∧
  (∀ (cfg : Settings) (s : State) (rx : Reception) (bits : List Bool) (f : Frame) (flow : Bool) (stamp : Timestamp) (e m : Int)
    (position : Nat) (offset : Cycle),
    activeSettings s = some cfg → settledState s.supervisor.station = true → s.link.reception = some rx →
    rxFrame (rx.bits ++ bits) = .received f [] → frameValid f = true → f.kind = 0 → s.timeBase.timestamp = some stamp →
    timeUsed cfg f.source (timePayload f.payload) (hearAddress cfg f.source s.timeBase) = true →
    s.link.state ≠ .detached →
    e = phaseError cfg (((u8At f.payload 2 * cfg.slotLen + u8At f.payload 3 : Nat) : Int) - stamp.position) →
    m = max (-(cfg.jumpLimit : Int)) (min cfg.jumpLimit e) → 0 < m →
    position = ((s.timeBase.position + m) % (32 * cfg.slotLen : Nat)).toNat →
    position / cfg.slotLen ≠ s.timeBase.position / cfg.slotLen → position / cfg.slotLen = (s.timeBase.takenSlot + 1) % 32 →
    offset = BitVec.ofNat 16 (u16At f.payload 0) -
      expectedCycle cfg (((u8At f.payload 2 * cfg.slotLen + u8At f.payload 3 : Nat) : Int) - stamp.position) stamp.cycle →
    ∃ t : State, exec (.frameReceived (.sampled bits) flow) s = .next t ∧
      t.timeBase.position = position ∧ t.timeBase.takenSlot = position / cfg.slotLen ∧
      t.scanner.scan = true ∧
      t.scanner.window = some { ends := 0, slot := t.timeBase.takenSlot, cycle := t.timeBase.cycle,
                                level := Six.fill false, changed := Six.fill false } ∧
      (∀ z : Index, t.supervisor.gates.get z = true ↔
        (t.supervisor.station = .running ∧ (t.zones.get z).condition = .normal ∧ (t.zones.get z).permit = true ∧
          ∃ r : Run, runOf t.placement.current z = some r ∧ (t.timeBase.takenSlot + 32 - r.start) % 32 < r.length)) ∧
      (t.timeBase.takenSlot ≠ 0 →
        t.timeBase.cycle = s.timeBase.cycle ∧ t.timeBase.pendingOffset = offset ∧ t.timeBase.timeAge = 0) ∧
      (t.timeBase.takenSlot = 0 →
        t.timeBase.cycle = s.timeBase.cycle + 1 + offset ∧ t.timeBase.pendingOffset = 0 ∧ t.timeBase.timeAge = 1 ∧
        t.timeBase.heardNow = none ∧ t.placement.map = [] ∧ t.placement.working = none ∧ t.placement.frozen = none ∧
        t.placement.current = (s.placement.frozen.getD []).filter (fun r =>
          !r.stuck || indexes.any fun z => decide (z.val + 1 = r.zone) && decide ((s.zones.get z).condition = .stuckOn)))) ∧
  (∀ (cfg : Settings) (s : State) (rx : Reception) (bits : List Bool) (f : Frame) (flow : Bool) (stamp : Timestamp),
    activeSettings s = some cfg → s.supervisor.station = .listening → s.link.reception = some rx →
    rxFrame (rx.bits ++ bits) = .received f [] → frameValid f = true → f.kind = 0 → s.timeBase.timestamp = some stamp →
    timeUsed cfg f.source (timePayload f.payload) (hearAddress cfg f.source s.timeBase) = true →
    s.link.state ≠ .detached →
    (phaseError cfg ((senderPosition cfg (timePayload f.payload) : Int) - stamp.position) < aheadToNext cfg s.timeBase) →
    ∃ (t : State) (e : Int),
      exec (.frameReceived (.sampled bits) flow) s = .next t ∧
      e = phaseError cfg ((senderPosition cfg (timePayload f.payload) : Int) - stamp.position) ∧
      t.timeBase.position = ((s.timeBase.position + e) % (32 * cfg.slotLen : Nat)).toNat ∧
      t.timeBase.cycle = BitVec.ofNat 16 (u16At f.payload 0) +
        (if t.timeBase.position < u8At f.payload 2 * cfg.slotLen + u8At f.payload 3 then 1 else 0) ∧
      t.timeBase.pendingOffset = 0 ∧ t.timeBase.joinFlag = true ∧ t.timeBase.timeAge = 0 ∧
      t.timeBase.takenSlot = s.timeBase.takenSlot ∧ t.zones = s.zones ∧ t.placement = s.placement) ∧
  (∀ (cfg : Settings) (s : State) (rx : Reception) (bits : List Bool) (f : Frame) (flow : Bool) (stamp : Timestamp) (e : Int),
    activeSettings s = some cfg → s.supervisor.station = .listening → s.link.reception = some rx →
    rxFrame (rx.bits ++ bits) = .received f [] → frameValid f = true → f.kind = 0 → s.timeBase.timestamp = some stamp →
    timeUsed cfg f.source (timePayload f.payload) (hearAddress cfg f.source s.timeBase) = true →
    s.link.state ≠ .detached →
    e = phaseError cfg (((u8At f.payload 2 * cfg.slotLen + u8At f.payload 3 : Nat) : Int) - stamp.position) →
    (aheadToNext cfg s.timeBase : Int) ≤ e →
    ∃ t : State, exec (.frameReceived (.sampled bits) flow) s = .next t ∧
      t.timeBase.position = ((s.timeBase.position + e) % (32 * cfg.slotLen : Nat)).toNat ∧
      t.timeBase.takenSlot = t.timeBase.position / cfg.slotLen ∧
      t.timeBase.cycle = BitVec.ofNat 16 (u16At f.payload 0) +
        (if t.timeBase.position < u8At f.payload 2 * cfg.slotLen + u8At f.payload 3 then 1 else 0) ∧
      t.timeBase.pendingOffset = 0 ∧
      t.scanner.scan = true ∧
      t.scanner.window = some { ends := 0, slot := t.timeBase.takenSlot, cycle := t.timeBase.cycle,
                                level := Six.fill false, changed := Six.fill false } ∧
      (∀ z : Index, t.supervisor.gates.get z = true ↔
        (t.supervisor.station = .running ∧ (t.zones.get z).condition = .normal ∧ (t.zones.get z).permit = true ∧
          ∃ r : Run, runOf t.placement.current z = some r ∧ (t.timeBase.takenSlot + 32 - r.start) % 32 < r.length)) ∧
      (t.timeBase.takenSlot ≠ 0 →
        t.timeBase.joinFlag = true ∧ t.timeBase.timeAge = 0 ∧ t.supervisor.station = .listening ∧
        t.supervisor.joinCount = s.supervisor.joinCount) ∧
      (t.timeBase.takenSlot = 0 →
        t.timeBase.timeAge = 1 ∧ t.timeBase.heardNow = none ∧ t.supervisor.joinCount = min 16 (s.supervisor.joinCount + 1) ∧
        t.supervisor.station =
          (if cfg.joinCycles ≤ min 16 (s.supervisor.joinCount + 1) ∧ s.supervisor.mainsLost = false then .running else .listening)))

/-- FRAME_RECEIVED, a valid frame of any kind that carries the own address: the clash record is set, the link state becomes LISTEN_ONLY until
the next reset, the mailbox is emptied, no READY or SENDING descriptor is left where no request waits for one, and ALARM is asserted
(R155, R156, R164, R189). -/
def Obligations.AddressClashSilencesTheStation : Prop :=
  ∀ (cfg : Settings) (s : State) (rx : Reception) (bits : List Bool) (f : Frame) (flow : Bool), activeSettings s = some cfg →
    s.link.reception = some rx → rxFrame (rx.bits ++ bits) = .received f [] → frameValid f = true → f.source = cfg.address →
    s.link.clash = false → s.ring.waiting = [] →
    ∃ t : State, exec (.frameReceived (.sampled bits) flow) s = .next t ∧
      t.link.clash = true ∧ t.link.state = .listenOnly ∧ t.link.inHand = none ∧ t.ring.mailbox = .empty ∧
      (∀ i : Index, (t.ring.descriptors.get i).state ≠ .ready ∧ (t.ring.descriptors.get i).state ≠ .sending) ∧ alarm t = true

/-! ### Sending (R16, R135 to R139, R145, R146, R150, R152, R160, R166) -/

/-- CHANCE_TO_SEND with a TIME frame in the mailbox, in ACTIVE or PASSIVE once the wait of 3 or 11 is counted: the TIME frame is taken ahead
of the ring, its payload filled from this moment, its Start bit stamped, the bit timing stands after the sample of this bit, driven
dominant, and the mailbox is STARTED (R16, R123, R134 to R136, R166; that bit timing is assumption log 27, and that the own Start bit is
sampled dominant log 45). CHANCE_TO_SEND with an empty mailbox takes the ring's head descriptor when it is READY or SENDING, which is
SENDING from its first Start bit on, with the payload it was built with; with neither, only the count of recessive bits goes on. Before
the wait is over nothing is taken, and in LISTEN_ONLY and DETACHED nothing ever is: the recessive bits are counted there alone (R134 to
R136, R148, R152, R160). That CHANCE_TO_SEND counts recessive bits where no chance comes about is assumption log 17, and the bit timing
after the own Start bit is assumption log 27. -/
def Obligations.ChanceToSendTakesAFrame : Prop :=
  (∀ (cfg : Settings) (s : State) (count recessive : Nat), activeSettings s = some cfg → s.link.tracking = .idle count →
    (s.link.state = .active ∧ 3 ≤ count + recessive) ∨ (s.link.state = .passive ∧ 11 ≤ count + recessive) →
    s.ring.mailbox ≠ .empty →
    exec (.chanceToSend recessive (.sampled [])) s = .next
      { s with
        timeBase := { s.timeBase with timestamp := some { cycle := s.timeBase.cycle, position := s.timeBase.position } }
        ring := { s.ring with mailbox := .started }
        link := { s.link with
          tracking := .inFrame 0
          inHand := some .mailbox
          timeTries := if s.ring.mailbox = .started then s.link.timeTries else { count := 0, noAck := true }
          attempt := some
            { sent := sentBits 0 cfg.address cfg.group (timeBytes s.timeBase.cycle (s.timeBase.position / cfg.slotLen)
                (s.timeBase.position % cfg.slotLen) cfg.slotLen s.timeBase.mainsClass)
              samples := [] }
          reception := none
          clock := { unit := 0, quantum := 14, resynced := true, driving := true } } }) ∧
  (∀ (cfg : Settings) (s : State) (count recessive : Nat), activeSettings s = some cfg → s.link.tracking = .idle count →
    (∀ p : Producer, (s.link.state = .active ∧ 3 ≤ count + recessive) ∨ (s.link.state = .passive ∧ 11 ≤ count + recessive) →
      s.ring.mailbox = .empty → (headDescriptor s.ring).producer = some p →
      (headDescriptor s.ring).state = .ready ∨ (headDescriptor s.ring).state = .sending →
      exec (.chanceToSend recessive (.sampled [])) s = .next
        { s with
          timeBase := { s.timeBase with timestamp := some { cycle := s.timeBase.cycle, position := s.timeBase.position } }
          ring := { s.ring with
            descriptors := s.ring.descriptors.set s.ring.head { headDescriptor s.ring with state := .sending } }
          link := { s.link with
            tracking := .inFrame 0
            inHand := some .ring
            ringTries := if (headDescriptor s.ring).state = .sending then s.link.ringTries else { count := 0, noAck := true }
            attempt := some
              { sent := sentBits (producerKind p) cfg.address cfg.group (headDescriptor s.ring).payload, samples := [] }
            reception := none
            clock := { unit := 0, quantum := 14, resynced := true, driving := true } } }) ∧
    (linkSends s.link.state = true → s.link.attempt = none → s.ring.mailbox = .empty →
      (headDescriptor s.ring).producer = none ∨
        ((headDescriptor s.ring).state ≠ .ready ∧ (headDescriptor s.ring).state ≠ .sending) →
      exec (.chanceToSend recessive (.sampled [])) s = .next { s with link := { s.link with tracking := .idle (count + recessive) } }) ∧
    ((s.link.state = .active ∧ count + recessive < 3) ∨ (s.link.state = .passive ∧ count + recessive < 11) →
      exec (.chanceToSend recessive (.sampled [])) s = .next { s with link := { s.link with tracking := .idle (count + recessive) } }) ∧
    (s.link.state = .listenOnly ∨ (s.link.state = .detached ∧ s.link.quietRun + recessive < 12) →
      exec (.chanceToSend recessive (.sampled [])) s = .next { s with link := { s.link with
        tracking := .idle (count + recessive)
        quietRun := if s.link.state = .detached then s.link.quietRun + recessive else s.link.quietRun } }))

/-- ATTEMPT_END with success, of a TIME frame: the mailbox is EMPTY, no frame is in hand, TEC goes down by one, line tracking is IDLE with
count 0, and the timestamp is dropped (R139, R145, R146, R166). ATTEMPT_END with success, of an own PLACE frame: its descriptor is
released and the request is NONE, even where a cancel was recorded; it takes the next order number, and a revision is counted. Before the
freeze its runs become the announced placement and the own contribution at that order, here where the yield test passes; after it the
announced placement stands (R72, R82, R83, R84, R87, R145, R161). ATTEMPT_END with success, of a LINE frame: the station adopts the report
it carried, with its own address as the source, and releases the descriptor; a confirmed level that has moved on since is requested at
once with the change flag (R113, R114, R145, R161). ATTEMPT_END with success, of a STATUS frame, at every station, whether it senses flow
or not: its descriptor is released, line tracking is IDLE, TEC goes down by one, and nothing else follows (R145, R146, R161, R192). -/
def Obligations.SuccessfulAttemptCompletesTheFrame : Prop :=
  (∀ (cfg : Settings) (s : State) (a : Attempt) (bits : List Bool), activeSettings s = some cfg → s.link.attempt = some a →
    s.link.inHand = some .mailbox → linkSends s.link.state = true → s.link.tec < 192 →
    txCompare a.sent (a.samples ++ bits) = .success [] →
    (headDescriptor s.ring).state = .free ∨ (headDescriptor s.ring).state = .ready ∨ (headDescriptor s.ring).state = .sending →
    ∃ t : State, exec (.attemptEnd (.sampled bits)) s = .next t ∧
      t.ring = { s.ring with mailbox := .empty } ∧ t.link.inHand = none ∧ t.link.attempt = none ∧
      t.link.tec = s.link.tec - 1 ∧ t.link.recv = s.link.recv ∧ t.link.tracking = .idle 0 ∧
      t.timeBase = { s.timeBase with timestamp := none } ∧ t.placement = s.placement ∧ t.peers = s.peers ∧ t.queue = s.queue) ∧
  (∀ (cfg : Settings) (s : State) (a : Attempt) (bits : List Bool), activeSettings s = some cfg → s.link.attempt = some a →
    s.link.inHand = some .ring → (headDescriptor s.ring).state = .sending → (headDescriptor s.ring).producer = some .place →
    linkSends s.link.state = true → s.link.tec < 192 → s.placement.computation = none →
    s.placement.request = .queued s.ring.head ∨ s.placement.request = .cancelRecorded s.ring.head →
    s.ring.occupancy = 1 → s.ring.waiting = [] → s.ring.descriptors.get (s.ring.head + 1) = Descriptor.freed →
    yieldFails cfg (setOwn s.placement.requestRuns (min 255 (s.placement.orderCounter + 1)) s.placement.map) = false →
    txCompare a.sent (a.samples ++ bits) = .success [] →
    ∃ t : State, exec (.attemptEnd (.sampled bits)) s = .next t ∧
      t.ring = { s.ring with
        descriptors := s.ring.descriptors.set s.ring.head Descriptor.freed, head := s.ring.head + 1, occupancy := 0 } ∧
      t.link.inHand = none ∧ t.link.attempt = none ∧ t.link.tec = s.link.tec - 1 ∧
      (s.timeBase.takenSlot < 28 →
        t.placement = { s.placement with
          request := .none
          orderCounter := min 255 (s.placement.orderCounter + 1)
          revisionsSent := if 1 ≤ s.placement.requestRevision then s.placement.revisionsSent + 1 else s.placement.revisionsSent
          announced := some
            { runs := s.placement.requestRuns, order := min 255 (s.placement.orderCounter + 1), revision := s.placement.requestRevision }
          map := setOwn s.placement.requestRuns (min 255 (s.placement.orderCounter + 1)) s.placement.map
          lastFailure := none }) ∧
      (28 ≤ s.timeBase.takenSlot →
        t.placement = { s.placement with
          request := .none
          orderCounter := min 255 (s.placement.orderCounter + 1)
          revisionsSent := if 1 ≤ s.placement.requestRevision then s.placement.revisionsSent + 1 else s.placement.revisionsSent }) ∧
      t.zones = s.zones ∧ t.peers = s.peers ∧ t.queue = s.queue ∧ t.supervisor = s.supervisor) ∧
  (∀ (cfg : Settings) (s : State) (a : Attempt) (bits : List Bool) (carried confirmed : FlowLevel), activeSettings s = some cfg →
    s.link.attempt = some a → s.link.inHand = some .ring → (headDescriptor s.ring).state = .sending → (headDescriptor s.ring).reason = none →
    (headDescriptor s.ring).producer = some .line →
    linkSends s.link.state = true → s.link.tec < 192 → settledState s.supervisor.station = true →
    s.ring.occupancy = 1 → s.ring.waiting = [] → s.ring.fill = s.ring.head + 1 →
    s.ring.descriptors.get (s.ring.head + 1) = Descriptor.freed →
    s.peers.flow.carried = some carried → s.peers.flow.confirmed = some confirmed →
    txCompare a.sent (a.samples ++ bits) = .success [] →
    ∃ t : State, exec (.attemptEnd (.sampled bits)) s = .next t ∧ t.ring.head = s.ring.head + 1 ∧
      t.ring.descriptors.get s.ring.head = Descriptor.freed ∧ t.placement = s.placement ∧ t.queue = s.queue ∧
      t.supervisor = s.supervisor ∧ t.link.inHand = none ∧
      t.peers.line = { state := if carried = .flowing then .flowing else .standing, source := some cfg.address, age := 0 } ∧
      t.peers.flow.confirmed = some confirmed ∧
      (confirmed = carried → t.peers.flow.request = .none ∧ t.ring.occupancy = 0) ∧
      (confirmed ≠ carried → t.peers.flow.request = .queued ∧ t.ring.occupancy = 1 ∧
        t.ring.descriptors.get (s.ring.head + 1) =
          { state := .ready, reason := none, producer := some .line, cancel := false,
            payload := lineBytes confirmed s.peers.flow.changeCycle true (decide (s.supervisor.station = .held))
              s.timeBase.cycle })) ∧
  (∀ (cfg : Settings) (s : State) (a : Attempt) (bits : List Bool), activeSettings s = some cfg →
    s.link.attempt = some a → s.link.inHand = some .ring → (headDescriptor s.ring).state = .sending → (headDescriptor s.ring).reason = none →
    (headDescriptor s.ring).producer = some .status →
    linkSends s.link.state = true → s.link.tec < 192 →
    s.ring.occupancy = 1 → s.ring.waiting = [] →
    s.ring.descriptors.get (s.ring.head + 1) = Descriptor.freed →
    txCompare a.sent (a.samples ++ bits) = .success [] →
    ∃ t : State, exec (.attemptEnd (.sampled bits)) s = .next t ∧ t.ring.head = s.ring.head + 1 ∧
      t.ring.descriptors.get s.ring.head = Descriptor.freed ∧ t.placement = s.placement ∧ t.queue = s.queue ∧
      t.supervisor = s.supervisor ∧ t.link.inHand = none ∧
      t.peers = s.peers ∧ t.ring.occupancy = 0 ∧ t.ring.waiting = [] ∧ t.link.attempt = none ∧ t.link.tec = s.link.tec - 1 ∧
      t.link.tracking = .idle 0 ∧ t.zones = s.zones ∧ t.scanner = s.scanner)

/-- ATTEMPT_END with a failure other than at the Acknowledge bit, or with an acknowledge error while ACTIVE, adds 4 to TEC, and one with an
acknowledge error while PASSIVE adds nothing. A ring frame then stays SENDING in hand with its attempt count one higher while that is
below 4 and no cancel is recorded. At a bit error or an acknowledge error a station ACTIVE after it sends a reject burst of seven bits; at
a receiver's reject, or an acknowledge error of any other station, line tracking waits for idle at once (R138, R139, R141, R145, R146,
R150). That a station which the error makes PASSIVE does not reject is assumption log 16. ATTEMPT_END with the fourth failure of a STATUS
frame at the ring's head completes it DONE_FAIL: its descriptor is released, and the supervisor sets the change mark and, by the model's
reading (assumption log 14), the refusal mark (R128, R145, R161, R192). ATTEMPT_END with the fourth failure of an own PLACE frame before
the freeze: the request is NONE, the last failure is NO_ACK when all four were acknowledge errors and ERRORS otherwise, the own
contribution returns to an announced placement, here where the yield test passes, and the descriptor is released. With a cancel recorded
any failure ends it CANCELLED: the last failure stands and a recompute begins (R83, R86, R145, R161). ATTEMPT_END with the fourth failure
of a LINE frame: the station adopts its confirmed level as it stands, with its own address as the source, and the descriptor is released
(R114, R145, R161). -/
def Obligations.FailedAttemptCountsAndEnds : Prop :=
  (∀ (cfg : Settings) (s : State) (a : Attempt) (bits : List Bool), activeSettings s = some cfg → s.link.attempt = some a →
    s.link.inHand = some .ring → (headDescriptor s.ring).state = .sending → (headDescriptor s.ring).cancel = false →
    linkSends s.link.state = true → s.link.tec < 188 → s.link.ringTries.count < 3 →
    (txCompare a.sent (a.samples ++ bits) = .endReject [] ∨ txCompare a.sent (a.samples ++ bits) = .ackError [] ∨
      txCompare a.sent (a.samples ++ bits) = .bitError []) →
    ∃ t : State, exec (.attemptEnd (.sampled bits)) s = .next t ∧
      t.link.tec = (if txCompare a.sent (a.samples ++ bits) = .ackError [] ∧ s.link.state = .passive then s.link.tec
        else s.link.tec + 4) ∧
      t.link.state = (if 96 ≤ t.link.tec ∨ 96 ≤ s.link.recv then
          (if txCompare a.sent (a.samples ++ bits) = .ackError [] ∧ s.link.state = .passive then s.link.state else .passive)
        else if t.link.tec ≤ 80 ∧ s.link.recv ≤ 80 ∧
            ¬(txCompare a.sent (a.samples ++ bits) = .ackError [] ∧ s.link.state = .passive) then .active
        else s.link.state) ∧
      t.link.ringTries = { count := s.link.ringTries.count + 1
                           noAck := s.link.ringTries.noAck && decide (txCompare a.sent (a.samples ++ bits) = .ackError []) } ∧
      t.link.inHand = some .ring ∧ t.link.attempt = none ∧ t.ring = s.ring ∧ t.link.recv = s.link.recv ∧
      t.link.rejectDriven =
        (if txCompare a.sent (a.samples ++ bits) ≠ .endReject [] ∧ t.link.state = .active then true
          else if txCompare a.sent (a.samples ++ bits) = .bitError [] then s.link.rejectDriven else false) ∧
      (txCompare a.sent (a.samples ++ bits) ≠ .endReject [] → t.link.state = .active → t.link.tracking = .rejecting 7) ∧
      (txCompare a.sent (a.samples ++ bits) = .endReject [] ∨
        (txCompare a.sent (a.samples ++ bits) = .ackError [] ∧ t.link.state ≠ .active) → t.link.tracking = .waitingIdle 0)) ∧
  (∀ (cfg : Settings) (s : State) (a : Attempt) (bits : List Bool), activeSettings s = some cfg → s.link.attempt = some a →
    s.link.inHand = some .ring → (headDescriptor s.ring).state = .sending → (headDescriptor s.ring).cancel = false →
    (headDescriptor s.ring).producer = some .status → linkSends s.link.state = true → s.link.tec < 188 →
    s.link.ringTries.count = 3 → txCompare a.sent (a.samples ++ bits) = .endReject [] → s.ring.occupancy = 1 →
    s.ring.waiting = [] → s.ring.descriptors.get (s.ring.head + 1) = Descriptor.freed →
    ∃ t : State, exec (.attemptEnd (.sampled bits)) s = .next t ∧
      t.ring = { s.ring with
        descriptors := s.ring.descriptors.set s.ring.head Descriptor.freed, head := s.ring.head + 1, occupancy := 0 } ∧
      t.link.inHand = none ∧ t.link.attempt = none ∧ t.link.tec = s.link.tec + 4 ∧
      t.queue = { s.queue with refusalMark := true } ∧ t.supervisor = { s.supervisor with changeMark := true } ∧
      t.placement = s.placement ∧ t.peers = s.peers) ∧
  (∀ (cfg : Settings) (s : State) (a : Attempt) (bits : List Bool), activeSettings s = some cfg → s.link.attempt = some a →
    s.link.inHand = some .ring → (headDescriptor s.ring).state = .sending → (headDescriptor s.ring).producer = some .place →
    linkSends s.link.state = true → s.link.tec < 188 → s.placement.computation = none → s.timeBase.takenSlot < 28 →
    s.ring.occupancy = 1 → s.ring.waiting = [] → s.ring.descriptors.get (s.ring.head + 1) = Descriptor.freed →
    txCompare a.sent (a.samples ++ bits) = .endReject [] ∨ txCompare a.sent (a.samples ++ bits) = .ackError [] →
    ∃ t : State, exec (.attemptEnd (.sampled bits)) s = .next t ∧
      ((headDescriptor s.ring).cancel = false → s.placement.request = .queued s.ring.head → s.link.ringTries.count = 3 →
        (∀ x : Announced, s.placement.announced = some x → yieldFails cfg (setOwn x.runs x.order s.placement.map) = false) →
        t.placement = { s.placement with
          request := .none
          lastFailure := some (if s.link.ringTries.noAck = true ∧ txCompare a.sent (a.samples ++ bits) = .ackError [] then .noAck
            else .errors)
          map := match s.placement.announced with
            | none => s.placement.map
            | some x => setOwn x.runs x.order s.placement.map } ∧
        t.link.inHand = none ∧
        t.ring = { s.ring with
          descriptors := s.ring.descriptors.set s.ring.head Descriptor.freed, head := s.ring.head + 1, occupancy := 0 }) ∧
      ((headDescriptor s.ring).cancel = true → s.placement.request = .cancelRecorded s.ring.head → s.supervisor.station = .running →
        t.placement.request = .none ∧ t.placement.lastFailure = s.placement.lastFailure ∧
        t.placement.announced = s.placement.announced ∧ t.placement.computation.isSome = true ∧ t.link.inHand = none ∧
        t.ring = { s.ring with
          descriptors := s.ring.descriptors.set s.ring.head Descriptor.freed, head := s.ring.head + 1, occupancy := 0 })) ∧
  (∀ (cfg : Settings) (s : State) (a : Attempt) (bits : List Bool) (level : FlowLevel), activeSettings s = some cfg →
    s.link.attempt = some a → s.link.inHand = some .ring → (headDescriptor s.ring).state = .sending →
    (headDescriptor s.ring).producer = some .line → (headDescriptor s.ring).cancel = false → linkSends s.link.state = true →
    s.link.tec < 188 → s.link.ringTries.count = 3 → s.ring.occupancy = 1 → s.ring.waiting = [] →
    s.ring.descriptors.get (s.ring.head + 1) = Descriptor.freed → s.peers.flow.confirmed = some level →
    s.peers.flow.carried = some level → txCompare a.sent (a.samples ++ bits) = .endReject [] →
    ∃ t : State, exec (.attemptEnd (.sampled bits)) s = .next t ∧
      t.peers = { s.peers with
        line := { state := if level = .flowing then .flowing else .standing, source := some cfg.address, age := 0 }
        flow := { s.peers.flow with request := .none, carried := none } } ∧
      t.ring = { s.ring with
        descriptors := s.ring.descriptors.set s.ring.head Descriptor.freed, head := s.ring.head + 1, occupancy := 0 } ∧
      t.placement = s.placement ∧ t.queue = s.queue)

/-- How an own attempt ends, by the bits sampled. The first bit that differs from the one sent is lost arbitration where it is a recessive bit
of Kind or Source, and a bit error otherwise; a frame sent whole meets an acknowledge error at a recessive Acknowledge bit, a receiver's
reject at the first dominant End bit, and a success at the seventh recessive one (R137 to R139). That a stuff bit among Kind and Source is
none of their bits is assumption log 41. CHANCE_TO_SEND whose bits lose arbitration: the frame stays in hand, SENDING, with its attempt
count and TEC as they were, and the station receives the frame on the line from the bits it has sampled, under the timestamp of its own
Start bit (R136, R137, R140). That the bit timing stands where the Start bit left it is assumption log 27. Lost arbitration while a cancel
is recorded for the own PLACE frame: it completes CANCELLED, its descriptor is released, and a recompute begins (R83, R86, R145).
ATTEMPT_END with the failure that brings TEC to 192: the link state is DETACHED with the quiet run and count at 0, the engine holds no
frame, the mailbox is empty, no descriptor is left READY or SENDING where no request waits for one, and an own PLACE frame in hand
completes with last failure DETACHED (R86, R145, R146, R151, R164). -/
def Obligations.LostArbitrationAndDetachment : Prop :=
  (∀ (sent : List SentBit) (xs : List Bool),
    (∀ (pre post : List SentBit) (b : SentBit), sent = pre ++ b :: post →
      txCompare sent (pre.map SentBit.level ++ (!b.level) :: xs) =
        if b.arbitration = true ∧ b.level = true then .lost xs else .bitError xs) ∧
    txCompare sent (sent.map SentBit.level ++ true :: xs) = .ackError xs ∧
    (∀ n : Nat, n < 7 → txCompare sent (sent.map SentBit.level ++ false :: (List.replicate n true ++ false :: xs)) = .endReject xs) ∧
    txCompare sent (sent.map SentBit.level ++ false :: (List.replicate 7 true ++ xs)) = .success xs ∧
    ∀ (kind source group : Nat) (payload : List Byte),
      ((sentBits kind source group payload).filter SentBit.arbitration).map SentBit.level = natBits 3 kind ++ natBits 6 source) ∧
  (∀ (cfg : Settings) (s : State) (count recessive : Nat) (bits rest : List Bool) (p : Producer), activeSettings s = some cfg →
    s.link.tracking = .idle count →
    (s.link.state = .active ∧ 3 ≤ count + recessive) ∨ (s.link.state = .passive ∧ 11 ≤ count + recessive) →
    s.ring.mailbox = .empty → (headDescriptor s.ring).producer = some p →
    (headDescriptor s.ring).state = .ready ∨ (headDescriptor s.ring).state = .sending → (headDescriptor s.ring).cancel = false →
    txCompare (sentBits (producerKind p) cfg.address cfg.group (headDescriptor s.ring).payload) bits = .lost rest →
    exec (.chanceToSend recessive (.sampled bits)) s = .next
      { s with
        timeBase := { s.timeBase with timestamp := some { cycle := s.timeBase.cycle, position := s.timeBase.position } }
        ring := { s.ring with
          descriptors := s.ring.descriptors.set s.ring.head { headDescriptor s.ring with state := .sending } }
        link := { s.link with
          tracking := .inFrame bits.length
          inHand := some .ring
          ringTries := if (headDescriptor s.ring).state = .sending then s.link.ringTries else { count := 0, noAck := true }
          attempt := none
          reception := some { bits := bits, mute := false, ack := (ackTail bits).map (fun _ => true) }
          clock := { unit := 0, quantum := 14, resynced := true, driving := true } } }) ∧
  (∀ (cfg : Settings) (s : State) (a : Attempt) (bits rest : List Bool), activeSettings s = some cfg → s.link.attempt = some a →
    s.link.inHand = some .ring → (headDescriptor s.ring).state = .sending → (headDescriptor s.ring).cancel = true →
    (headDescriptor s.ring).producer = some .place → s.placement.request = .cancelRecorded s.ring.head →
    s.placement.computation = none → s.timeBase.takenSlot < 28 → s.supervisor.station = .running →
    s.ring.occupancy = 1 → s.ring.waiting = [] → s.ring.descriptors.get (s.ring.head + 1) = Descriptor.freed →
    txCompare a.sent (a.samples ++ bits) = .lost rest →
    ∃ t : State, exec (.attemptEnd (.sampled bits)) s = .next t ∧
      t.link.inHand = none ∧ t.link.attempt = none ∧ t.link.tec = s.link.tec ∧ t.link.ringTries = s.link.ringTries ∧
      t.link.tracking = .inFrame (a.samples ++ bits).length ∧
      t.placement.request = .none ∧ t.placement.lastFailure = s.placement.lastFailure ∧ t.placement.computation.isSome = true ∧
      t.ring = { s.ring with
        descriptors := s.ring.descriptors.set s.ring.head Descriptor.freed, head := s.ring.head + 1, occupancy := 0 }) ∧
  (∀ (cfg : Settings) (s : State) (a : Attempt) (bits : List Bool), activeSettings s = some cfg → s.link.attempt = some a →
    linkSends s.link.state = true → 188 ≤ s.link.tec → s.ring.waiting = [] →
    txCompare a.sent (a.samples ++ bits) = .endReject [] →
    ∃ t : State, exec (.attemptEnd (.sampled bits)) s = .next t ∧
      t.link.state = .detached ∧ t.link.tec = min 255 (s.link.tec + 4) ∧ t.link.recv = s.link.recv ∧
      t.link.quietRun = 0 ∧ t.link.quietCount = 0 ∧ t.link.inHand = none ∧ t.link.attempt = none ∧
      t.link.tracking = .waitingIdle 0 ∧ t.ring.mailbox = .empty ∧
      (∀ i : Index, (t.ring.descriptors.get i).state ≠ .ready ∧ (t.ring.descriptors.get i).state ≠ .sending) ∧
      ((headDescriptor s.ring).state = .sending → (headDescriptor s.ring).producer = some .place →
        s.placement.request = .queued s.ring.head → s.placement.computation = none →
        t.placement.lastFailure = some .detached ∧ t.placement.request = .none))

/-- QUIET_INTERVAL: while DETACHED each recessive bit raises the quiet run, a dominant bit clears it, and the twelfth of a run completes an
interval; the 64th interval returns the link to ACTIVE with TEC and REC at 0; ring, queue and the other blocks stand. Here no frame whose
end has been sampled waits for its FRAME_RECEIVED (R152). Every bit of a frame and after it is counted once: a QUIET_INTERVAL while
DETACHED and within a frame, with a FRAME_RECEIVED after it, does what one FRAME_RECEIVED with the bits of both does. That the bits after
an end are counted when FRAME_RECEIVED takes that end is the model's choice (assumption log 18) (R152). -/
def Obligations.SixtyFourQuietIntervalsReturnTheLink : Prop :=
  (∀ (cfg : Settings) (s : State) (b : Bool), activeSettings s = some cfg → s.link.state = .detached → endKept s.link = false →
    ∃ t : State, exec (.quietInterval (.sampled [b])) s = .next t ∧
      (b = false → t.link.quietRun = 0 ∧ t.link.quietCount = s.link.quietCount ∧ t.link.state = .detached ∧
        t.link.tec = s.link.tec ∧ t.link.recv = s.link.recv) ∧
      (b = true → s.link.quietRun < 11 →
        t.link.quietRun = s.link.quietRun + 1 ∧ t.link.quietCount = s.link.quietCount ∧ t.link.state = .detached ∧
        t.link.tec = s.link.tec ∧ t.link.recv = s.link.recv) ∧
      (b = true → s.link.quietRun = 11 → s.link.quietCount < 63 →
        t.link.quietRun = 0 ∧ t.link.quietCount = s.link.quietCount + 1 ∧ t.link.state = .detached ∧
        t.link.tec = s.link.tec ∧ t.link.recv = s.link.recv) ∧
      (b = true → s.link.quietRun = 11 → s.link.quietCount = 63 →
        t.link.quietRun = 0 ∧ t.link.quietCount = 0 ∧ t.link.state = .active ∧ t.link.tec = 0 ∧ t.link.recv = 0) ∧
      t.ring = s.ring ∧ t.queue = s.queue ∧ t.placement = s.placement ∧ t.peers = s.peers ∧ t.zones = s.zones ∧
      t.supervisor = s.supervisor ∧ t.scanner = s.scanner ∧ t.loader = s.loader) ∧
  (∀ (cfg : Settings) (s t : State) (rx : Reception) (position : Nat) (a b : List Bool) (flow : Bool), activeSettings s = some cfg →
    s.link.state = .detached → s.link.tracking = .inFrame position → s.link.reception = some rx →
    exec (.quietInterval (.sampled a)) s = .next t → exec (.frameReceived (.sampled b) flow) t = exec (.frameReceived (.sampled (a ++ b)) flow) s)

/-! ### Resets, the image, the loopback check and the outputs (R18, R35, R66, R98, R115, R157, R174, R175, R187 to R189, R193 to R208) -/

/-- POWER_ON_RESET: from any state, every block takes its reset values, all zones are NORMAL with their permits, the contactor latch is
cleared, the image is lost, and the reset is in progress until it ends (R18, R35, R66, R98, R115, R157, R174, R175, R193, R195, R208). The
cause record stands until the reset ends, and HOLD and FLOW are inputs: the model's choices (assumption logs 7 and 35). SUPPLY_DIP_RESET,
CLOCK_STOP_RESET and EXTERNAL_RESET: every block takes its reset values, but TRIPPED and STUCK_ON conditions, the contactor latch, the
retained image and its complete mark stay; the first two disturb the retained bytes given with them (R66, R188, R193, R195, R200, R208).
That a zone DISABLED before stays so until settlement is assumption log 22. -/
def Obligations.ResetsClearTheBlocks : Prop :=
  (∀ s : State, exec .powerOnReset s = .next
    { State.reset with
      supervisor := { State.reset.supervisor with cause := s.supervisor.cause }
      resets := { s.resets with powerOn := true }
      holdPin := s.holdPin
      flowPin := s.flowPin
      pending := s.pending }) ∧
  (∀ (s : State) (disturbed : List (Nat × Byte)),
    (∀ (c : Instr) (k : ResetKinds) (image : List Byte),
      (c = .supplyDipReset disturbed ∧ k = { s.resets with supplyDip := true } ∧
          image = disturbed.foldl (fun l p => l.set p.1 p.2) s.loader.retained) ∨
        (c = .clockStopReset disturbed ∧ k = { s.resets with clockStop := true } ∧
          image = disturbed.foldl (fun l p => l.set p.1 p.2) s.loader.retained) ∨
        (c = .externalReset ∧ k = { s.resets with external := true } ∧ image = s.loader.retained) →
      exec c s = .next
        { State.reset with
          zones := s.zones.map fun x => Zone.resetIn (match x.condition with
            | .disabled => .disabled
            | .normal => .normal
            | .tripped => .tripped
            | .openFault => .normal
            | .stuckOn => .stuckOn)
          supervisor := { State.reset.supervisor with
            cause := s.supervisor.cause, contactorLatch := s.supervisor.contactorLatch }
          loader := { State.reset.loader with retained := image, complete := s.loader.complete }
          resets := k
          holdPin := s.holdPin
          flowPin := s.flowPin
          pending := s.pending }))

/-- The reset values of the transmit ring and mailbox, of the receive queue, and of the Peer Table, after every reset kind, and held for as
long as the reset is in progress (R115, R174, R175). -/
def Obligations.EveryResetEmptiesRingQueueAndPeers : Prop :=
  ∀ (c : Instr) (s : State), beginsReset c = true →
    ∃ t : State, exec c s = .next t ∧
      (∀ i : Index, (t.ring.descriptors.get i).state = .free ∧ (t.ring.descriptors.get i).cancel = false) ∧
      t.ring.head = 0 ∧ t.ring.fill = 0 ∧ t.ring.occupancy = 0 ∧ t.ring.waiting = [] ∧ t.ring.mailbox = .empty ∧
      t.queue.entries = [] ∧ queueLocked t.queue = false ∧ t.queue.overflow = 0 ∧ mapInUse t.placement = false ∧
      t.peers.entries = [] ∧ t.peers.row = [] ∧
      t.peers.upstream.temperature = none ∧ t.peers.upstream.age = 255 ∧ t.peers.upstream.valid = false ∧
      t.peers.downstream.temperature = none ∧ t.peers.downstream.age = 255 ∧ t.peers.downstream.valid = false ∧
      t.peers.line = { state := .unknown, source := none, age := 0 } ∧
      t.peers.flow.confirmed = none ∧ t.peers.flow.candidate = none ∧ t.peers.flow.changeCycle = 0 ∧
      t.peers.flow.candidateCount = 0 ∧ t.peers.flow.periodCount = 0 ∧ t.peers.flow.request = .none ∧
      ∀ (d : Instr) (u : State), exec d t = .next u → d ≠ .resetEnd → u.ring = t.ring ∧ u.queue = t.queue ∧ u.peers = t.peers

/-- RESET_END of a reset that holds a power-on or an external kind, or that finds the complete mark clear, begins a read: CFG_CS is asserted,
the complete mark is cleared and the running check is 65535; the cause is the first of power-on, supply-dip, clock-stop and external that
is among the kinds, and zero-cross monitoring runs (R1, R196, R197, R198). That the first bit of the command, which is low, stands on
CFG_MOSI from then on is assumption log 39. RESET_END of a supply-dip or clock-stop reset that finds the complete mark set verifies the
retained image: a mismatch of its check begins a read; a match with a field out of range enters CONFIG_FAULT; a match with good fields
settles them and begins the loopback check (R197, R200, R201, R204, R205). -/
def Obligations.ResetEndReadsOrVerifies : Prop :=
  (∀ s : State, resetInProgress s = true →
    s.resets.powerOn = true ∨ s.resets.external = true ∨ s.loader.complete = false → s.supervisor.station = .starting →
    ∃ t : State, exec .resetEnd s = .next t ∧
      t = { s with
        resets := { powerOn := false, supplyDip := false, clockStop := false, external := false }
        supervisor := { s.supervisor with
          cause := if s.resets.powerOn then .powerOn else if s.resets.supplyDip then .supplyDip
            else if s.resets.clockStop then .clockStop else .external }
        loader := { s.loader with
          state := .reading, complete := false, runningCheck := 0xFFFF#16, clocks := 0, shift := [], sck := false, mosi := false } } ∧
      cfgSelect t = true ∧ monitoring t = true) ∧
  (∀ s : State, resetInProgress s = true → s.resets.powerOn = false → s.resets.external = false → s.loader.complete = true →
    s.supervisor.station = .starting →
    ∃ t : State, exec .resetEnd s = .next t ∧ t.resets = ResetKinds.clear ∧ t.loader.retained = s.loader.retained ∧
      (imageCheck s.loader.retained ≠ storedCheck s.loader.retained →
        t.loader.state = .reading ∧ t.loader.complete = false ∧ t.supervisor.station = .starting) ∧
      (imageCheck s.loader.retained = storedCheck s.loader.retained → imageFieldsGood s.loader.retained = false →
        t.loader.state = .bad ∧ t.loader.complete = true ∧ t.supervisor.station = .configFault ∧ t.loader.settled = s.loader.settled) ∧
      (imageCheck s.loader.retained = storedCheck s.loader.retained → imageFieldsGood s.loader.retained = true →
        t.loader.state = .settled ∧ t.loader.settled = some (settingsOf s.loader.retained) ∧ t.link.loopback = .waiting 0 0 ∧
        t.supervisor.station = .starting))

/-- READ_COMPLETE with a whole read on CFG_MISO, bit 7 of each byte first, after the 24 levels under the command: the image is retained and
the complete mark set, CFG_SCK and CFG_MOSI are low and CFG_CS released; with its check matching and its fields good, the fields are
settled, every zone not enabled is DISABLED and every enabled one is not, and the loopback check begins; otherwise the station enters
CONFIG_FAULT with ALARM asserted (R37, R66, R133, R177, R189, R198, R201, R204, R205). That CFG_MOSI is low after the read, and that the
levels under the command are not kept, is assumption log 39; that the settlement leaves the change mark, as it does the rest of the
supervisor's record, is assumption log 40. The read command on CFG_MOSI: before each of the 24 rising edges under it CFG_MOSI has the
level of the next bit of a byte of value 3 and a 16-bit address of 0, and CFG_SCK is low between clocks (R198). That CFG_MOSI is low after
the last of those bits, and that the levels of CFG_MISO under the command are not kept, is assumption log 39. The levels may arrive in any
pieces: two READ_COMPLETE commands in turn do what one with both pieces does, where the first leaves the read unfinished (R198). Commands
that carry part of a read are the model's own form (assumption log 33). -/
def Obligations.ReadImageIsValidated : Prop :=
  (∀ (s : State) (under : List Bool) (image : List Byte), startingUp s = true → s.loader.state = .reading → s.loader.clocks = 0 →
    s.loader.shift = [] → s.loader.runningCheck = 0xFFFF#16 → under.length = 24 → image.length = 128 →
    s.loader.retained.length ≤ 128 →
    ∃ t : State, exec (.readComplete (under ++ image.flatMap byteBits)) s = .next t ∧
      t.loader.retained = image ∧ t.loader.complete = true ∧ t.loader.sck = false ∧ t.loader.mosi = false ∧ cfgSelect t = false ∧
      (imageCheck image = storedCheck image ∧ imageFieldsGood image = true →
        t.loader.state = .settled ∧ t.loader.settled = some (settingsOf image) ∧ t.link.loopback = .waiting 0 0 ∧
        t.supervisor = s.supervisor ∧
        ∀ z : Index, ((t.zones.get z).condition = .disabled ↔ ((settingsOf image).zone z).enabled = false) ∧
          (((settingsOf image).zone z).enabled = true → (s.zones.get z).condition ≠ .disabled →
            t.zones.get z = s.zones.get z)) ∧
      (¬(imageCheck image = storedCheck image ∧ imageFieldsGood image = true) →
        t.loader.state = .bad ∧ t.loader.settled = s.loader.settled ∧ t.supervisor.station = .configFault ∧ alarm t = true ∧
        contactorClosed t = false ∧ monitoring t = false)) ∧
  (∀ (s : State) (miso : Bool), startingUp s = true → s.loader.state = .reading → s.loader.clocks < 24 →
    exec (.readComplete [miso]) s = .next
      { s with loader := { s.loader with
          clocks := s.loader.clocks + 1, sck := false, mosi := decide (s.loader.clocks = 5 ∨ s.loader.clocks = 6) } }) ∧
  (∀ (s t : State) (a b : List Bool), s.loader.clocks + a.length < 1048 →
    exec (.readComplete a) s = .next t → exec (.readComplete b) t = exec (.readComplete (a ++ b)) s)

/-- LOOPBACK_IDLE_WAIT_PASSED: ten recessive samples in a row within 2048 bit times pass the idle wait, and the transmit engine sends the test
frame into the link loop: the stuffed bits of STATUS from the own address and group with the payload bytes 0 and 255, and of their check,
up to the last bit of the Check; a dominant sample begins the run again; nothing else changes (R119, R120, R205, R206). LOOPBACK_TIMEOUT:
the idle wait fails, and the station enters LISTENING with the result FAILED: position, slot and cycle number 0, join count 0, the hold
request at the level of HOLD, line tracking waiting for idle, the own address elected, and ALARM asserted (R4, R14, R17, R135, R176, R178,
R189, R205). That the address is elected at the entry into LISTENING is the model's reading (assumption log 36). That the command fails
the wait at any count of bit times, trusting its sender that 2048 have passed, is assumption log 32. That the bit timing stands as the
idle wait left it is assumption log 46. LOOPBACK_CHECK_END: what the receive engine takes from the link loop is the frame sent there, but
for the places at which a faulty loop hands on the other level (assumption log 42). Through a working loop the test frame, STATUS from the
own address and group with the payload bytes 0 and 255, passes the check. The check passes whenever the frame taken has those fields, and
fails on any other ending. Either way the station enters LISTENING, the counts and the link state stand, and the frame reaches no block
(R176, R206). The bit timing stands as the idle wait left it (assumption log 46). -/
def Obligations.LoopbackCheckEntersListening : Prop :=
  (∀ (cfg : Settings) (s : State) (run n : Nat), startingSettings s = some cfg → s.link.loopback = .waiting run n → run < 10 →
    (n + (10 - run) ≤ 2048 →
      ∃ sent extra : List SentBit, exec (.loopbackIdleWaitPassed (.sampled (List.replicate (10 - run) true))) s =
          .next { s with link := { s.link with loopback := .sending sent } } ∧
        sentBits 3 cfg.address cfg.group [0#8, 255#8] = sent ++ extra ∧ (∀ b ∈ extra, b.stuff = true) ∧
        ∃ b : SentBit, sent.getLast? = some b ∧ b.stuff = false) ∧
    (n < 2048 → exec (.loopbackIdleWaitPassed (.sampled [false])) s =
      .next { s with link := { s.link with loopback := .waiting 0 (n + 1) } })) ∧
  (∀ (cfg : Settings) (s : State) (run n : Nat), startingSettings s = some cfg → s.link.loopback = .waiting run n →
    ∃ t : State, exec .loopbackTimeout s = .next t ∧
      t.link = { s.link with loopResult := some .failed, tracking := .waitingIdle 0, loopback := .notRunning } ∧
      t.supervisor = { s.supervisor with
        station := .listening, changeMark := true, joinCount := 0, holdRequest := s.holdPin } ∧
      t.timeBase.position = 0 ∧ t.timeBase.takenSlot = 0 ∧ t.timeBase.cycle = 0 ∧ t.timeBase.pendingOffset = 0 ∧
      t.timeBase.timeAge = 0 ∧ t.timeBase.run = s.timeBase.run ∧ t.timeBase.source = s.timeBase.source ∧
      (s.timeBase.heardNow = none → s.timeBase.heardBefore = none → t.timeBase.reference = some cfg.address) ∧
      t.zones = s.zones ∧ t.placement = s.placement ∧ t.peers = s.peers ∧ t.ring = s.ring ∧ t.queue = s.queue ∧
      t.loader = s.loader ∧ alarm t = true) ∧
  (∀ (cfg : Settings) (s : State) (sent : List SentBit) (disturbed : List Nat) (f : Frame), startingSettings s = some cfg →
    s.link.loopback = .sending sent →
    f = { kind := 3, source := cfg.address, group := cfg.group, length := 2, payload := [0#8, 255#8] } →
    ∃ t : State, exec (.loopbackCheckEnd disturbed) s = .next t ∧
      t.supervisor.station = .listening ∧ t.supervisor.joinCount = 0 ∧ t.supervisor.holdRequest = s.holdPin ∧
      t.link = { s.link with loopResult := t.link.loopResult, tracking := .waitingIdle 0, loopback := .notRunning } ∧
      t.queue = s.queue ∧ t.ring = s.ring ∧ t.peers = s.peers ∧ t.placement = s.placement ∧ t.zones = s.zones ∧
      (cfg.address < 64 → cfg.group < 16 → disturbed = [] →
        (sent = sentBits 3 cfg.address cfg.group [0#8, 255#8] ∨
          ∃ b : SentBit, b.stuff = true ∧ sentBits 3 cfg.address cfg.group [0#8, 255#8] = sent ++ [b]) →
        t.link.loopResult = some .passed) ∧
      (loopFrame false 1 [] 0 19 (sent.mapIdx fun i b => if i ∈ disturbed then !b.level else b.level) = some f →
        t.link.loopResult = some .passed) ∧
      (loopFrame false 1 [] 0 19 (sent.mapIdx fun i b => if i ∈ disturbed then !b.level else b.level) ≠ some f →
        t.link.loopResult = some .failed ∧ alarm t = true))

/-- The causes of ALARM, and when CONTACTOR is open and HELD asserted (R187, R188, R189). -/
def Obligations.OutputsFollowTheirCauses : Prop :=
  ∀ s : State,
    (alarm s = true ↔ resetInProgress s = true ∨ s.supervisor.station = .starting ∨ s.supervisor.station = .configFault ∨
      s.supervisor.station = .mainsLost ∨ s.supervisor.mainsLost = true ∨
      (∃ z : Index, (s.zones.get z).condition = .tripped ∨ (s.zones.get z).condition = .openFault ∨
        (s.zones.get z).condition = .stuckOn) ∨
      s.supervisor.contactorLatch = true ∨ s.link.clash = true ∨ s.link.loopResult = some .failed) ∧
    (contactorClosed s = false ↔ s.supervisor.station = .starting ∨ s.supervisor.station = .configFault ∨
      resetInProgress s = true ∨ s.supervisor.contactorLatch = true) ∧
    (heldOutput s = true ↔ s.supervisor.station = .held ∧ resetInProgress s = false)

/-! ### Invariants -/

/-- Every step keeps the gates safe: a gate that is on has its station RUNNING, its zone NORMAL with its permit, and the taken slot within the
zone's run in the current placement; and a reset in progress has its station STARTING, as the model records it (R185, R186, R193;
assumption log 35). -/
def Obligations.StepKeepsTheGatesSafe : Prop :=
  ∀ s t : State, ResetInStarting s → GatesSafe s → step s = .next t → ResetInStarting t ∧ GatesSafe t

/-- Every step keeps the ring's occupied span and its head: the descriptors of the span are not FREE, those outside it are, the fill position
follows it, and a ring frame in hand stands SENDING at the head (R158, R160). With that, every step keeps the requests sound: a request
waits only while the ring is full, a PLACE waits only while the placement unit's request is WAITING, no second PLACE with it, and a
request QUEUED or CANCEL_RECORDED stands on a descriptor of PLACE that is not FREE (R76, R158, R159, R162). -/
def Obligations.StepKeepsTheRingSound : Prop :=
  ∀ s t : State, RingSound s → step s = .next t → RingSound t ∧ (RequestsSound s → RequestsSound t)

/-- Every step keeps the line driver safe: an attempt stands only while the link state lets the station send, within a frame the station is
not receiving, a reject burst stands only while the station is ACTIVE, for one to seven bits, with no frame beside it, and the link state
is LISTEN_ONLY before the end of the join; and a reset in progress has its station STARTING, as the model records it (R141, R148, R149,
R193; assumption log 35). -/
def Obligations.StepKeepsTheDriverSafe : Prop :=
  ∀ s t : State, ResetInStarting s → DriverSafe s → step s = .next t → ResetInStarting t ∧ DriverSafe t

/-- Every step keeps the counts and tables within their bounds, and the bit timing within the 20 quanta of a bit, and a quantum within four
steps of 1.25 µs (R72, R101, R134, R146, R147, R158, R169, R170). -/
def Obligations.StepKeepsTheBounds : Prop :=
  ∀ s t : State, Bounded s → step s = .next t → Bounded t

/-- Every step keeps every temperature within −500 to 2000, every accumulator within 0 to 8192 and every demand within 0 to 32, under settled
fields in their ranges (R23, R54, R62, R63, R204). -/
def Obligations.StepKeepsTheValuesInRange : Prop :=
  ∀ s t : State, ValuesInRange s → step s = .next t → ValuesInRange t

/-- Every step keeps the Peer Table's keys: at most one entry and one set per address, none with both, and none for the own address; and a
reset in progress has its station STARTING, as the model records it (R101, R102, R193; assumption log 35). -/
def Obligations.StepKeepsThePeersSound : Prop :=
  ∀ s t : State, ResetInStarting s → PeersSound s → step s = .next t → ResetInStarting t ∧ PeersSound t

/-- All eight invariants hold at reset. -/
def Obligations.ResetMeetsTheInvariants : Prop :=
  ResetInStarting State.reset ∧ GatesSafe State.reset ∧ RingSound State.reset ∧ RequestsSound State.reset ∧
    DriverSafe State.reset ∧ Bounded State.reset ∧ ValuesInRange State.reset ∧ PeersSound State.reset
end

