-- ==== Sys2Proof/Laws/Sampled.lean ====
section
/-! SUPPORT. What sampled bits and waves can change at the link, what the scanner's updates leave alone, and what one clock of the image read
leaves alone. -/

namespace Sys2Proof.Machine

/-! ### Bits that no other operation takes (R8, R135, R152) -/

/-- What bits of the line can change while no frame ends: line tracking, the reception, the bit timing, the start instant, and, while DETACHED alone, the
quiet counts with the return to ACTIVE. -/
structure Sampled (s t : State) : Prop where
  rest : { t with timeBase := s.timeBase, link := s.link } = s
  timeBase : { t.timeBase with timestamp := s.timeBase.timestamp } = s.timeBase
  link : { t.link with
    tracking := s.link.tracking, reception := s.link.reception, clock := s.link.clock, state := s.link.state, tec := s.link.tec
    recv := s.link.recv, quietRun := s.link.quietRun, quietCount := s.link.quietCount } = s.link
  counts : s.link.state ≠ .detached →
    { t.link with tracking := s.link.tracking, reception := s.link.reception, clock := s.link.clock } = s.link
  returned : t.link.state = s.link.state ∨ (s.link.state = .detached ∧ t.link.state = .active)

theorem Sampled.refl (s : State) : Sampled s s := ⟨rfl, rfl, rfl, fun _ => rfl, .inl rfl⟩

theorem Sampled.trans {s t u : State} (h : Sampled s t) (k : Sampled t u) : Sampled s u where
  rest := (congrArg (fun x : State => { x with timeBase := s.timeBase, link := s.link }) k.rest).trans h.rest
  timeBase := (congrArg (fun x : TimeBase => { x with timestamp := s.timeBase.timestamp }) k.timeBase).trans h.timeBase
  link := (congrArg (fun x : Link => { x with
    tracking := s.link.tracking, reception := s.link.reception, clock := s.link.clock, state := s.link.state, tec := s.link.tec
    recv := s.link.recv, quietRun := s.link.quietRun, quietCount := s.link.quietCount }) k.link).trans h.link
  counts := fun e =>
    have e' : t.link.state ≠ .detached := by
      rcases h.returned with h | h
      · rwa [h]
      · exact absurd h.1 e
    (congrArg (fun x : Link => { x with
      tracking := s.link.tracking, reception := s.link.reception, clock := s.link.clock }) (k.counts e')).trans
      (h.counts e)
  returned := by
    rcases h.returned with h | ⟨h, h'⟩ <;> rcases k.returned with k | ⟨k, k'⟩ <;> simp_all

theorem quietBit_of_not_detached (l : Link) (b : Bool) (h : l.state ≠ .detached) : quietBit l b = l := if_neg h

theorem quietBits_sampled (b : Bool) (s : State) : Sampled s (quietBits [b] s) := by
  by_cases h : s.link.state = .detached
  · refine ⟨rfl, rfl, ?_, fun e => absurd h e, ?_⟩ <;> simp only [quietBits, List.foldl, State.setLink, quietBit, if_pos h]
    · split_ifs <;> rfl
    · split_ifs <;> first | exact .inl rfl | exact .inr ⟨h, rfl⟩
  · have e : quietBits [b] s = s := by simp only [quietBits, List.foldl, quietBit_of_not_detached _ _ h, State.setLink]
    rw [e]; exact Sampled.refl s

theorem trackBit_sampled (s : State) (b : Bool) : Sampled s (trackBit s b) := by
  unfold trackBit startReception
  (repeat' split) <;> exact ⟨rfl, rfl, rfl, fun _ => rfl, .inl rfl⟩

theorem sampleBit_sampled (s : State) (b : Bool) : Sampled s (sampleBit s b) := by
  unfold sampleBit
  split
  · exact trackBit_sampled s b
  · exact (trackBit_sampled s b).trans (quietBits_sampled b _)

/-- All that bits that no other operation takes can do (R8, R135, R152). -/
theorem sampleBits_sampled (bits : List Bool) (s : State) : Sampled s (sampleBits bits s) := by
  induction bits generalizing s with
  | nil => exact Sampled.refl s
  | cons b bits ih => exact (sampleBit_sampled s b).trans (ih _)

/-! ### The bit timing (R134) -/

@[simp] theorem takeBits_sampled (cfg : Settings) (f : List Bool → State → State) (bits : List Bool) (s : State) :
    takeBits cfg f (.sampled bits) s = f bits s := rfl

/-- All that the bits of the line can do in a command: what sampled bits do, and with a wave the bit timing is set (R134). -/
theorem takeBits_cases (cfg : Settings) (f : List Bool → State → State) (line : Line) (s : State) :
    (∃ bits : List Bool, takeBits cfg f line s = f bits s) ∨
      ∃ (bits : List Bool) (clock : BitClock),
        takeBits cfg f line s = (f bits s).setLink { (f bits s).link with clock := clock } := by
  cases line with
  | sampled bits => exact .inl ⟨bits, rfl⟩
  | wave before levels => exact .inr ⟨_, _, rfl⟩

/-- Where no end is kept the bit timing goes by the link as it stands (R134; assumption log 18). -/
theorem onLine_of_no_end (cfg : Settings) (s : State) (h : attemptOver s.link = false) (k : endKept s.link = false) :
    onLine cfg s = s.link := by
  simp only [onLine, afterKeptEnds, h, k, Bool.or_self, Bool.false_eq_true, if_false]

/-- A kept end is taken before the bit timing goes on (R134; assumption log 18). -/
theorem afterKeptEnds_of_end (cfg : Settings) (n : Nat) (s : State) (h : attemptOver s.link = true ∨ endKept s.link = true) :
    afterKeptEnds cfg (n + 1) s = afterKeptEnds cfg n (takeKeptEnd cfg s) := by
  rcases h with h | h <;> simp [afterKeptEnds, h]

/-- A bit has 20 quanta (R134). -/
theorem endBit_quantum (l : Link) (c : BitClock) : (endBit l c).quantum < quantaPerBit := by
  unfold endBit
  split
  · assumption
  · exact Nat.succ_pos _

/-- The end of a quantum leaves the bit timing in one of the 20 (R134). -/
theorem endQuantum_quantum (view : List Bool → Link) (level : Bool) (p : Sampling) :
    (endQuantum view level p).clock.quantum < quantaPerBit := endBit_quantum _ _

/-! ### The scanner (R19, R20) -/

@[simp] theorem scannerMainsEnd_control (g : Six Bool) (sc : Scanner) : (scannerMainsEnd g sc).control = sc.control := rfl
@[simp] theorem scannerMainsEnd_limiter (g : Six Bool) (sc : Scanner) : (scannerMainsEnd g sc).limiter = sc.limiter := rfl
@[simp] theorem scannerMainsEnd_zones (g : Six Bool) (sc : Scanner) : (scannerMainsEnd g sc).zones = sc.zones := rfl
@[simp] theorem scannerMainsEnd_voltage (g : Six Bool) (sc : Scanner) : (scannerMainsEnd g sc).voltage = sc.voltage := rfl
@[simp] theorem scannerMainsEnd_voltageClass (g : Six Bool) (sc : Scanner) :
    (scannerMainsEnd g sc).voltageClass = sc.voltageClass := rfl
@[simp] theorem scannerMainsEnd_scanDue (g : Six Bool) (sc : Scanner) : (scannerMainsEnd g sc).scanDue = sc.scan := rfl

@[simp] theorem armScanner_control (k : Nat) (c : Cycle) (sc : Scanner) : (armScanner k c sc).control = sc.control := rfl
@[simp] theorem armScanner_limiter (k : Nat) (c : Cycle) (sc : Scanner) : (armScanner k c sc).limiter = sc.limiter := rfl
@[simp] theorem armScanner_zones (k : Nat) (c : Cycle) (sc : Scanner) : (armScanner k c sc).zones = sc.zones := rfl
@[simp] theorem armScanner_scanDue (k : Nat) (c : Cycle) (sc : Scanner) : (armScanner k c sc).scanDue = sc.scanDue := rfl
@[simp] theorem armScanner_windowDue (k : Nat) (c : Cycle) (sc : Scanner) : (armScanner k c sc).windowDue = sc.windowDue := rfl

/-- A window taken from the scanner changes no record. -/
theorem takeWindow_kept (sc : Scanner) :
    { takeWindow sc with window := sc.window, windowDue := sc.windowDue } = sc ∧ (takeWindow sc).windowDue = none := by
  unfold takeWindow
  split <;> rename_i h
  · exact ⟨rfl, rfl⟩
  · exact ⟨rfl, h⟩

/-! ### The image read (R198) -/

/-- The bits of a byte in progress move, and at its eighth the retained image and the running check; nothing else (R198). -/
theorem takeMiso_kept (m : Bool) (l : Loader) :
    { takeMiso m l with shift := l.shift, retained := l.retained, runningCheck := l.runningCheck } = l := by
  unfold takeMiso
  by_cases h : (l.shift ++ [m]).length < 8
  · rw [if_pos h]
  · rw [if_neg h]; rfl

theorem endRead_settled (l : Loader) : (endRead l).settled = l.settled := by
  unfold endRead; split <;> rfl

theorem risingEdge_settled (m : Bool) (l : Loader) : (risingEdge m l).settled = l.settled := by
  unfold risingEdge
  rw [endRead_settled]
  by_cases h : l.clocks < commandClocks
  · simp only [if_pos h]
  · have e := congrArg Loader.settled (takeMiso_kept m l)
    simp only [if_neg h]
    exact e

/-- One clock keeps the settled fields (R198). -/
theorem spiClock_settled (l : Loader) (m : Bool) : (spiClock l m).settled = l.settled := by
  unfold spiClock
  split
  · exact risingEdge_settled m l
  · rfl

/-- Outside a read the levels do nothing (R198). -/
theorem spiClocks_of_not_reading (bits : List Bool) (l : Loader) (h : l.state ≠ .reading) : bits.foldl spiClock l = l := by
  induction bits with
  | nil => rfl
  | cons b bits ih => rw [List.foldl_cons, spiClock, if_neg h, ih]

end Sys2Proof.Machine
end

