-- ==== Sys2Proof/Laws/State.lean ====
section
/-! SUPPORT. One lemma per field per update of State, and the lemmas of the six-fold records. -/

namespace Sys2Proof.Machine

@[simp] theorem setTimeBase_timeBase (s : State) (x : TimeBase) : (s.setTimeBase x).timeBase = x := rfl
@[simp] theorem setTimeBase_scanner (s : State) (x : TimeBase) : (s.setTimeBase x).scanner = s.scanner := rfl
@[simp] theorem setTimeBase_zones (s : State) (x : TimeBase) : (s.setTimeBase x).zones = s.zones := rfl
@[simp] theorem setTimeBase_placement (s : State) (x : TimeBase) : (s.setTimeBase x).placement = s.placement := rfl
@[simp] theorem setTimeBase_peers (s : State) (x : TimeBase) : (s.setTimeBase x).peers = s.peers := rfl
@[simp] theorem setTimeBase_link (s : State) (x : TimeBase) : (s.setTimeBase x).link = s.link := rfl
@[simp] theorem setTimeBase_ring (s : State) (x : TimeBase) : (s.setTimeBase x).ring = s.ring := rfl
@[simp] theorem setTimeBase_queue (s : State) (x : TimeBase) : (s.setTimeBase x).queue = s.queue := rfl
@[simp] theorem setTimeBase_supervisor (s : State) (x : TimeBase) : (s.setTimeBase x).supervisor = s.supervisor := rfl
@[simp] theorem setTimeBase_loader (s : State) (x : TimeBase) : (s.setTimeBase x).loader = s.loader := rfl
@[simp] theorem setTimeBase_resets (s : State) (x : TimeBase) : (s.setTimeBase x).resets = s.resets := rfl
@[simp] theorem setTimeBase_holdPin (s : State) (x : TimeBase) : (s.setTimeBase x).holdPin = s.holdPin := rfl
@[simp] theorem setTimeBase_flowPin (s : State) (x : TimeBase) : (s.setTimeBase x).flowPin = s.flowPin := rfl
@[simp] theorem setTimeBase_pending (s : State) (x : TimeBase) : (s.setTimeBase x).pending = s.pending := rfl

@[simp] theorem setScanner_timeBase (s : State) (x : Scanner) : (s.setScanner x).timeBase = s.timeBase := rfl
@[simp] theorem setScanner_scanner (s : State) (x : Scanner) : (s.setScanner x).scanner = x := rfl
@[simp] theorem setScanner_zones (s : State) (x : Scanner) : (s.setScanner x).zones = s.zones := rfl
@[simp] theorem setScanner_placement (s : State) (x : Scanner) : (s.setScanner x).placement = s.placement := rfl
@[simp] theorem setScanner_peers (s : State) (x : Scanner) : (s.setScanner x).peers = s.peers := rfl
@[simp] theorem setScanner_link (s : State) (x : Scanner) : (s.setScanner x).link = s.link := rfl
@[simp] theorem setScanner_ring (s : State) (x : Scanner) : (s.setScanner x).ring = s.ring := rfl
@[simp] theorem setScanner_queue (s : State) (x : Scanner) : (s.setScanner x).queue = s.queue := rfl
@[simp] theorem setScanner_supervisor (s : State) (x : Scanner) : (s.setScanner x).supervisor = s.supervisor := rfl
@[simp] theorem setScanner_loader (s : State) (x : Scanner) : (s.setScanner x).loader = s.loader := rfl
@[simp] theorem setScanner_resets (s : State) (x : Scanner) : (s.setScanner x).resets = s.resets := rfl
@[simp] theorem setScanner_holdPin (s : State) (x : Scanner) : (s.setScanner x).holdPin = s.holdPin := rfl
@[simp] theorem setScanner_flowPin (s : State) (x : Scanner) : (s.setScanner x).flowPin = s.flowPin := rfl
@[simp] theorem setScanner_pending (s : State) (x : Scanner) : (s.setScanner x).pending = s.pending := rfl

@[simp] theorem setZones_timeBase (s : State) (x : Six Zone) : (s.setZones x).timeBase = s.timeBase := rfl
@[simp] theorem setZones_scanner (s : State) (x : Six Zone) : (s.setZones x).scanner = s.scanner := rfl
@[simp] theorem setZones_zones (s : State) (x : Six Zone) : (s.setZones x).zones = x := rfl
@[simp] theorem setZones_placement (s : State) (x : Six Zone) : (s.setZones x).placement = s.placement := rfl
@[simp] theorem setZones_peers (s : State) (x : Six Zone) : (s.setZones x).peers = s.peers := rfl
@[simp] theorem setZones_link (s : State) (x : Six Zone) : (s.setZones x).link = s.link := rfl
@[simp] theorem setZones_ring (s : State) (x : Six Zone) : (s.setZones x).ring = s.ring := rfl
@[simp] theorem setZones_queue (s : State) (x : Six Zone) : (s.setZones x).queue = s.queue := rfl
@[simp] theorem setZones_supervisor (s : State) (x : Six Zone) : (s.setZones x).supervisor = s.supervisor := rfl
@[simp] theorem setZones_loader (s : State) (x : Six Zone) : (s.setZones x).loader = s.loader := rfl
@[simp] theorem setZones_resets (s : State) (x : Six Zone) : (s.setZones x).resets = s.resets := rfl
@[simp] theorem setZones_holdPin (s : State) (x : Six Zone) : (s.setZones x).holdPin = s.holdPin := rfl
@[simp] theorem setZones_flowPin (s : State) (x : Six Zone) : (s.setZones x).flowPin = s.flowPin := rfl
@[simp] theorem setZones_pending (s : State) (x : Six Zone) : (s.setZones x).pending = s.pending := rfl

@[simp] theorem setPlacement_timeBase (s : State) (x : PlacementUnit) : (s.setPlacement x).timeBase = s.timeBase := rfl
@[simp] theorem setPlacement_scanner (s : State) (x : PlacementUnit) : (s.setPlacement x).scanner = s.scanner := rfl
@[simp] theorem setPlacement_zones (s : State) (x : PlacementUnit) : (s.setPlacement x).zones = s.zones := rfl
@[simp] theorem setPlacement_placement (s : State) (x : PlacementUnit) : (s.setPlacement x).placement = x := rfl
@[simp] theorem setPlacement_peers (s : State) (x : PlacementUnit) : (s.setPlacement x).peers = s.peers := rfl
@[simp] theorem setPlacement_link (s : State) (x : PlacementUnit) : (s.setPlacement x).link = s.link := rfl
@[simp] theorem setPlacement_ring (s : State) (x : PlacementUnit) : (s.setPlacement x).ring = s.ring := rfl
@[simp] theorem setPlacement_queue (s : State) (x : PlacementUnit) : (s.setPlacement x).queue = s.queue := rfl
@[simp] theorem setPlacement_supervisor (s : State) (x : PlacementUnit) : (s.setPlacement x).supervisor = s.supervisor := rfl
@[simp] theorem setPlacement_loader (s : State) (x : PlacementUnit) : (s.setPlacement x).loader = s.loader := rfl
@[simp] theorem setPlacement_resets (s : State) (x : PlacementUnit) : (s.setPlacement x).resets = s.resets := rfl
@[simp] theorem setPlacement_holdPin (s : State) (x : PlacementUnit) : (s.setPlacement x).holdPin = s.holdPin := rfl
@[simp] theorem setPlacement_flowPin (s : State) (x : PlacementUnit) : (s.setPlacement x).flowPin = s.flowPin := rfl
@[simp] theorem setPlacement_pending (s : State) (x : PlacementUnit) : (s.setPlacement x).pending = s.pending := rfl

@[simp] theorem setPeers_timeBase (s : State) (x : PeerTable) : (s.setPeers x).timeBase = s.timeBase := rfl
@[simp] theorem setPeers_scanner (s : State) (x : PeerTable) : (s.setPeers x).scanner = s.scanner := rfl
@[simp] theorem setPeers_zones (s : State) (x : PeerTable) : (s.setPeers x).zones = s.zones := rfl
@[simp] theorem setPeers_placement (s : State) (x : PeerTable) : (s.setPeers x).placement = s.placement := rfl
@[simp] theorem setPeers_peers (s : State) (x : PeerTable) : (s.setPeers x).peers = x := rfl
@[simp] theorem setPeers_link (s : State) (x : PeerTable) : (s.setPeers x).link = s.link := rfl
@[simp] theorem setPeers_ring (s : State) (x : PeerTable) : (s.setPeers x).ring = s.ring := rfl
@[simp] theorem setPeers_queue (s : State) (x : PeerTable) : (s.setPeers x).queue = s.queue := rfl
@[simp] theorem setPeers_supervisor (s : State) (x : PeerTable) : (s.setPeers x).supervisor = s.supervisor := rfl
@[simp] theorem setPeers_loader (s : State) (x : PeerTable) : (s.setPeers x).loader = s.loader := rfl
@[simp] theorem setPeers_resets (s : State) (x : PeerTable) : (s.setPeers x).resets = s.resets := rfl
@[simp] theorem setPeers_holdPin (s : State) (x : PeerTable) : (s.setPeers x).holdPin = s.holdPin := rfl
@[simp] theorem setPeers_flowPin (s : State) (x : PeerTable) : (s.setPeers x).flowPin = s.flowPin := rfl
@[simp] theorem setPeers_pending (s : State) (x : PeerTable) : (s.setPeers x).pending = s.pending := rfl

@[simp] theorem setLink_timeBase (s : State) (x : Link) : (s.setLink x).timeBase = s.timeBase := rfl
@[simp] theorem setLink_scanner (s : State) (x : Link) : (s.setLink x).scanner = s.scanner := rfl
@[simp] theorem setLink_zones (s : State) (x : Link) : (s.setLink x).zones = s.zones := rfl
@[simp] theorem setLink_placement (s : State) (x : Link) : (s.setLink x).placement = s.placement := rfl
@[simp] theorem setLink_peers (s : State) (x : Link) : (s.setLink x).peers = s.peers := rfl
@[simp] theorem setLink_link (s : State) (x : Link) : (s.setLink x).link = x := rfl
@[simp] theorem setLink_ring (s : State) (x : Link) : (s.setLink x).ring = s.ring := rfl
@[simp] theorem setLink_queue (s : State) (x : Link) : (s.setLink x).queue = s.queue := rfl
@[simp] theorem setLink_supervisor (s : State) (x : Link) : (s.setLink x).supervisor = s.supervisor := rfl
@[simp] theorem setLink_loader (s : State) (x : Link) : (s.setLink x).loader = s.loader := rfl
@[simp] theorem setLink_resets (s : State) (x : Link) : (s.setLink x).resets = s.resets := rfl
@[simp] theorem setLink_holdPin (s : State) (x : Link) : (s.setLink x).holdPin = s.holdPin := rfl
@[simp] theorem setLink_flowPin (s : State) (x : Link) : (s.setLink x).flowPin = s.flowPin := rfl
@[simp] theorem setLink_pending (s : State) (x : Link) : (s.setLink x).pending = s.pending := rfl

@[simp] theorem setRing_timeBase (s : State) (x : Ring) : (s.setRing x).timeBase = s.timeBase := rfl
@[simp] theorem setRing_scanner (s : State) (x : Ring) : (s.setRing x).scanner = s.scanner := rfl
@[simp] theorem setRing_zones (s : State) (x : Ring) : (s.setRing x).zones = s.zones := rfl
@[simp] theorem setRing_placement (s : State) (x : Ring) : (s.setRing x).placement = s.placement := rfl
@[simp] theorem setRing_peers (s : State) (x : Ring) : (s.setRing x).peers = s.peers := rfl
@[simp] theorem setRing_link (s : State) (x : Ring) : (s.setRing x).link = s.link := rfl
@[simp] theorem setRing_ring (s : State) (x : Ring) : (s.setRing x).ring = x := rfl
@[simp] theorem setRing_queue (s : State) (x : Ring) : (s.setRing x).queue = s.queue := rfl
@[simp] theorem setRing_supervisor (s : State) (x : Ring) : (s.setRing x).supervisor = s.supervisor := rfl
@[simp] theorem setRing_loader (s : State) (x : Ring) : (s.setRing x).loader = s.loader := rfl
@[simp] theorem setRing_resets (s : State) (x : Ring) : (s.setRing x).resets = s.resets := rfl
@[simp] theorem setRing_holdPin (s : State) (x : Ring) : (s.setRing x).holdPin = s.holdPin := rfl
@[simp] theorem setRing_flowPin (s : State) (x : Ring) : (s.setRing x).flowPin = s.flowPin := rfl
@[simp] theorem setRing_pending (s : State) (x : Ring) : (s.setRing x).pending = s.pending := rfl

@[simp] theorem setQueue_timeBase (s : State) (x : ReceiveQueue) : (s.setQueue x).timeBase = s.timeBase := rfl
@[simp] theorem setQueue_scanner (s : State) (x : ReceiveQueue) : (s.setQueue x).scanner = s.scanner := rfl
@[simp] theorem setQueue_zones (s : State) (x : ReceiveQueue) : (s.setQueue x).zones = s.zones := rfl
@[simp] theorem setQueue_placement (s : State) (x : ReceiveQueue) : (s.setQueue x).placement = s.placement := rfl
@[simp] theorem setQueue_peers (s : State) (x : ReceiveQueue) : (s.setQueue x).peers = s.peers := rfl
@[simp] theorem setQueue_link (s : State) (x : ReceiveQueue) : (s.setQueue x).link = s.link := rfl
@[simp] theorem setQueue_ring (s : State) (x : ReceiveQueue) : (s.setQueue x).ring = s.ring := rfl
@[simp] theorem setQueue_queue (s : State) (x : ReceiveQueue) : (s.setQueue x).queue = x := rfl
@[simp] theorem setQueue_supervisor (s : State) (x : ReceiveQueue) : (s.setQueue x).supervisor = s.supervisor := rfl
@[simp] theorem setQueue_loader (s : State) (x : ReceiveQueue) : (s.setQueue x).loader = s.loader := rfl
@[simp] theorem setQueue_resets (s : State) (x : ReceiveQueue) : (s.setQueue x).resets = s.resets := rfl
@[simp] theorem setQueue_holdPin (s : State) (x : ReceiveQueue) : (s.setQueue x).holdPin = s.holdPin := rfl
@[simp] theorem setQueue_flowPin (s : State) (x : ReceiveQueue) : (s.setQueue x).flowPin = s.flowPin := rfl
@[simp] theorem setQueue_pending (s : State) (x : ReceiveQueue) : (s.setQueue x).pending = s.pending := rfl

@[simp] theorem setSupervisor_timeBase (s : State) (x : Supervisor) : (s.setSupervisor x).timeBase = s.timeBase := rfl
@[simp] theorem setSupervisor_scanner (s : State) (x : Supervisor) : (s.setSupervisor x).scanner = s.scanner := rfl
@[simp] theorem setSupervisor_zones (s : State) (x : Supervisor) : (s.setSupervisor x).zones = s.zones := rfl
@[simp] theorem setSupervisor_placement (s : State) (x : Supervisor) : (s.setSupervisor x).placement = s.placement := rfl
@[simp] theorem setSupervisor_peers (s : State) (x : Supervisor) : (s.setSupervisor x).peers = s.peers := rfl
@[simp] theorem setSupervisor_link (s : State) (x : Supervisor) : (s.setSupervisor x).link = s.link := rfl
@[simp] theorem setSupervisor_ring (s : State) (x : Supervisor) : (s.setSupervisor x).ring = s.ring := rfl
@[simp] theorem setSupervisor_queue (s : State) (x : Supervisor) : (s.setSupervisor x).queue = s.queue := rfl
@[simp] theorem setSupervisor_supervisor (s : State) (x : Supervisor) : (s.setSupervisor x).supervisor = x := rfl
@[simp] theorem setSupervisor_loader (s : State) (x : Supervisor) : (s.setSupervisor x).loader = s.loader := rfl
@[simp] theorem setSupervisor_resets (s : State) (x : Supervisor) : (s.setSupervisor x).resets = s.resets := rfl
@[simp] theorem setSupervisor_holdPin (s : State) (x : Supervisor) : (s.setSupervisor x).holdPin = s.holdPin := rfl
@[simp] theorem setSupervisor_flowPin (s : State) (x : Supervisor) : (s.setSupervisor x).flowPin = s.flowPin := rfl
@[simp] theorem setSupervisor_pending (s : State) (x : Supervisor) : (s.setSupervisor x).pending = s.pending := rfl

@[simp] theorem setLoader_timeBase (s : State) (x : Loader) : (s.setLoader x).timeBase = s.timeBase := rfl
@[simp] theorem setLoader_scanner (s : State) (x : Loader) : (s.setLoader x).scanner = s.scanner := rfl
@[simp] theorem setLoader_zones (s : State) (x : Loader) : (s.setLoader x).zones = s.zones := rfl
@[simp] theorem setLoader_placement (s : State) (x : Loader) : (s.setLoader x).placement = s.placement := rfl
@[simp] theorem setLoader_peers (s : State) (x : Loader) : (s.setLoader x).peers = s.peers := rfl
@[simp] theorem setLoader_link (s : State) (x : Loader) : (s.setLoader x).link = s.link := rfl
@[simp] theorem setLoader_ring (s : State) (x : Loader) : (s.setLoader x).ring = s.ring := rfl
@[simp] theorem setLoader_queue (s : State) (x : Loader) : (s.setLoader x).queue = s.queue := rfl
@[simp] theorem setLoader_supervisor (s : State) (x : Loader) : (s.setLoader x).supervisor = s.supervisor := rfl
@[simp] theorem setLoader_loader (s : State) (x : Loader) : (s.setLoader x).loader = x := rfl
@[simp] theorem setLoader_resets (s : State) (x : Loader) : (s.setLoader x).resets = s.resets := rfl
@[simp] theorem setLoader_holdPin (s : State) (x : Loader) : (s.setLoader x).holdPin = s.holdPin := rfl
@[simp] theorem setLoader_flowPin (s : State) (x : Loader) : (s.setLoader x).flowPin = s.flowPin := rfl
@[simp] theorem setLoader_pending (s : State) (x : Loader) : (s.setLoader x).pending = s.pending := rfl

@[simp] theorem setResets_timeBase (s : State) (x : ResetKinds) : (s.setResets x).timeBase = s.timeBase := rfl
@[simp] theorem setResets_scanner (s : State) (x : ResetKinds) : (s.setResets x).scanner = s.scanner := rfl
@[simp] theorem setResets_zones (s : State) (x : ResetKinds) : (s.setResets x).zones = s.zones := rfl
@[simp] theorem setResets_placement (s : State) (x : ResetKinds) : (s.setResets x).placement = s.placement := rfl
@[simp] theorem setResets_peers (s : State) (x : ResetKinds) : (s.setResets x).peers = s.peers := rfl
@[simp] theorem setResets_link (s : State) (x : ResetKinds) : (s.setResets x).link = s.link := rfl
@[simp] theorem setResets_ring (s : State) (x : ResetKinds) : (s.setResets x).ring = s.ring := rfl
@[simp] theorem setResets_queue (s : State) (x : ResetKinds) : (s.setResets x).queue = s.queue := rfl
@[simp] theorem setResets_supervisor (s : State) (x : ResetKinds) : (s.setResets x).supervisor = s.supervisor := rfl
@[simp] theorem setResets_loader (s : State) (x : ResetKinds) : (s.setResets x).loader = s.loader := rfl
@[simp] theorem setResets_resets (s : State) (x : ResetKinds) : (s.setResets x).resets = x := rfl
@[simp] theorem setResets_holdPin (s : State) (x : ResetKinds) : (s.setResets x).holdPin = s.holdPin := rfl
@[simp] theorem setResets_flowPin (s : State) (x : ResetKinds) : (s.setResets x).flowPin = s.flowPin := rfl
@[simp] theorem setResets_pending (s : State) (x : ResetKinds) : (s.setResets x).pending = s.pending := rfl

@[simp] theorem setHoldPin_timeBase (s : State) (x : Bool) : (s.setHoldPin x).timeBase = s.timeBase := rfl
@[simp] theorem setHoldPin_scanner (s : State) (x : Bool) : (s.setHoldPin x).scanner = s.scanner := rfl
@[simp] theorem setHoldPin_zones (s : State) (x : Bool) : (s.setHoldPin x).zones = s.zones := rfl
@[simp] theorem setHoldPin_placement (s : State) (x : Bool) : (s.setHoldPin x).placement = s.placement := rfl
@[simp] theorem setHoldPin_peers (s : State) (x : Bool) : (s.setHoldPin x).peers = s.peers := rfl
@[simp] theorem setHoldPin_link (s : State) (x : Bool) : (s.setHoldPin x).link = s.link := rfl
@[simp] theorem setHoldPin_ring (s : State) (x : Bool) : (s.setHoldPin x).ring = s.ring := rfl
@[simp] theorem setHoldPin_queue (s : State) (x : Bool) : (s.setHoldPin x).queue = s.queue := rfl
@[simp] theorem setHoldPin_supervisor (s : State) (x : Bool) : (s.setHoldPin x).supervisor = s.supervisor := rfl
@[simp] theorem setHoldPin_loader (s : State) (x : Bool) : (s.setHoldPin x).loader = s.loader := rfl
@[simp] theorem setHoldPin_resets (s : State) (x : Bool) : (s.setHoldPin x).resets = s.resets := rfl
@[simp] theorem setHoldPin_holdPin (s : State) (x : Bool) : (s.setHoldPin x).holdPin = x := rfl
@[simp] theorem setHoldPin_flowPin (s : State) (x : Bool) : (s.setHoldPin x).flowPin = s.flowPin := rfl
@[simp] theorem setHoldPin_pending (s : State) (x : Bool) : (s.setHoldPin x).pending = s.pending := rfl

@[simp] theorem setFlowPin_timeBase (s : State) (x : Bool) : (s.setFlowPin x).timeBase = s.timeBase := rfl
@[simp] theorem setFlowPin_scanner (s : State) (x : Bool) : (s.setFlowPin x).scanner = s.scanner := rfl
@[simp] theorem setFlowPin_zones (s : State) (x : Bool) : (s.setFlowPin x).zones = s.zones := rfl
@[simp] theorem setFlowPin_placement (s : State) (x : Bool) : (s.setFlowPin x).placement = s.placement := rfl
@[simp] theorem setFlowPin_peers (s : State) (x : Bool) : (s.setFlowPin x).peers = s.peers := rfl
@[simp] theorem setFlowPin_link (s : State) (x : Bool) : (s.setFlowPin x).link = s.link := rfl
@[simp] theorem setFlowPin_ring (s : State) (x : Bool) : (s.setFlowPin x).ring = s.ring := rfl
@[simp] theorem setFlowPin_queue (s : State) (x : Bool) : (s.setFlowPin x).queue = s.queue := rfl
@[simp] theorem setFlowPin_supervisor (s : State) (x : Bool) : (s.setFlowPin x).supervisor = s.supervisor := rfl
@[simp] theorem setFlowPin_loader (s : State) (x : Bool) : (s.setFlowPin x).loader = s.loader := rfl
@[simp] theorem setFlowPin_resets (s : State) (x : Bool) : (s.setFlowPin x).resets = s.resets := rfl
@[simp] theorem setFlowPin_holdPin (s : State) (x : Bool) : (s.setFlowPin x).holdPin = s.holdPin := rfl
@[simp] theorem setFlowPin_flowPin (s : State) (x : Bool) : (s.setFlowPin x).flowPin = x := rfl
@[simp] theorem setFlowPin_pending (s : State) (x : Bool) : (s.setFlowPin x).pending = s.pending := rfl

@[simp] theorem setPending_timeBase (s : State) (x : List Instr) : (s.setPending x).timeBase = s.timeBase := rfl
@[simp] theorem setPending_scanner (s : State) (x : List Instr) : (s.setPending x).scanner = s.scanner := rfl
@[simp] theorem setPending_zones (s : State) (x : List Instr) : (s.setPending x).zones = s.zones := rfl
@[simp] theorem setPending_placement (s : State) (x : List Instr) : (s.setPending x).placement = s.placement := rfl
@[simp] theorem setPending_peers (s : State) (x : List Instr) : (s.setPending x).peers = s.peers := rfl
@[simp] theorem setPending_link (s : State) (x : List Instr) : (s.setPending x).link = s.link := rfl
@[simp] theorem setPending_ring (s : State) (x : List Instr) : (s.setPending x).ring = s.ring := rfl
@[simp] theorem setPending_queue (s : State) (x : List Instr) : (s.setPending x).queue = s.queue := rfl
@[simp] theorem setPending_supervisor (s : State) (x : List Instr) : (s.setPending x).supervisor = s.supervisor := rfl
@[simp] theorem setPending_loader (s : State) (x : List Instr) : (s.setPending x).loader = s.loader := rfl
@[simp] theorem setPending_resets (s : State) (x : List Instr) : (s.setPending x).resets = s.resets := rfl
@[simp] theorem setPending_holdPin (s : State) (x : List Instr) : (s.setPending x).holdPin = s.holdPin := rfl
@[simp] theorem setPending_flowPin (s : State) (x : List Instr) : (s.setPending x).flowPin = s.flowPin := rfl
@[simp] theorem setPending_pending (s : State) (x : List Instr) : (s.setPending x).pending = x := rfl

end Sys2Proof.Machine

namespace Sys2Proof

@[simp] theorem Six.get_ofFn {α : Type} (f : Index → α) (i : Index) : (Six.ofFn f).get i = f i := by
  fin_cases i <;> rfl

@[simp] theorem Six.get_fill {α : Type} (x : α) (i : Index) : (Six.fill x).get i = x := by
  fin_cases i <;> rfl

@[simp] theorem Six.get_map {α β : Type} (f : α → β) (v : Six α) (i : Index) : (v.map f).get i = f (v.get i) := by
  simp [Six.map]

theorem Six.get_set {α : Type} (v : Six α) (i j : Index) (x : α) :
    (v.set i x).get j = if j = i then x else v.get j := by
  simp [Six.set]

@[simp] theorem Six.get_set_same {α : Type} (v : Six α) (i : Index) (x : α) : (v.set i x).get i = x := by
  simp [Six.set]

theorem Six.get_set_other {α : Type} (v : Six α) {i j : Index} (x : α) (h : j ≠ i) : (v.set i x).get j = v.get j := by
  simp [Six.set, h]

/-- Two six-fold records with equal entries are equal. -/
theorem Six.ext_get {α : Type} {v w : Six α} (h : ∀ i, v.get i = w.get i) : v = w := by
  obtain ⟨a, b, c, d, e, f⟩ := v
  obtain ⟨a', b', c', d', e', f'⟩ := w
  have h0 := h 0; have h1 := h 1; have h2 := h 2; have h3 := h 3; have h4 := h 4; have h5 := h 5
  simp [Six.get] at h0 h1 h2 h3 h4 h5
  simp [*]

end Sys2Proof
end

