-- ==== Sys2Proof/Laws/Served.lean ====
section
/-! SUPPORT. What the exchanges between the producers and the transmit ring leave as it was. -/

namespace Sys2Proof.Machine

/-- What requests, completions, releases and yields leave as it was: everything but the request side of the Load Placement Unit and its
map, the flow sender and the line state record, the ring, the refusal mark, the change mark and the frame in hand. -/
structure Served (s t : State) : Prop where
  timeBase : t.timeBase = s.timeBase
  scanner : t.scanner = s.scanner
  zones : t.zones = s.zones
  loader : t.loader = s.loader
  resets : t.resets = s.resets
  holdPin : t.holdPin = s.holdPin
  flowPin : t.flowPin = s.flowPin
  pending : t.pending = s.pending
  linkState : t.link.state = s.link.state
  linkTec : t.link.tec = s.link.tec
  linkRecv : t.link.recv = s.link.recv
  linkClash : t.link.clash = s.link.clash
  linkLoopResult : t.link.loopResult = s.link.loopResult
  linkQuietRun : t.link.quietRun = s.link.quietRun
  linkQuietCount : t.link.quietCount = s.link.quietCount
  linkTracking : t.link.tracking = s.link.tracking
  linkRingTries : t.link.ringTries = s.link.ringTries
  linkTimeTries : t.link.timeTries = s.link.timeTries
  linkAttempt : t.link.attempt = s.link.attempt
  linkReception : t.link.reception = s.link.reception
  linkLoopback : t.link.loopback = s.link.loopback
  linkAckDriven : t.link.ackDriven = s.link.ackDriven
  linkRejectDriven : t.link.rejectDriven = s.link.rejectDriven
  supStation : t.supervisor.station = s.supervisor.station
  supJoinCount : t.supervisor.joinCount = s.supervisor.joinCount
  supMainsLost : t.supervisor.mainsLost = s.supervisor.mainsLost
  supRecovery : t.supervisor.recovery = s.supervisor.recovery
  supHoldRequest : t.supervisor.holdRequest = s.supervisor.holdRequest
  supStepRecord : t.supervisor.stepRecord = s.supervisor.stepRecord
  supContactorLatch : t.supervisor.contactorLatch = s.supervisor.contactorLatch
  supCause : t.supervisor.cause = s.supervisor.cause
  supGates : t.supervisor.gates = s.supervisor.gates
  supPeriod : t.supervisor.periodCount = s.supervisor.periodCount
  unitCurrent : t.placement.current = s.placement.current
  unitFrozen : t.placement.frozen = s.placement.frozen
  unitViewFlag : t.placement.viewFlag = s.placement.viewFlag
  unitUnannounced : t.placement.unannounced = s.placement.unannounced
  unitSagCount : t.placement.sagCount = s.placement.sagCount
  unitHanded : t.placement.handed = s.placement.handed
  unitRevisionsBefore : t.placement.revisionsBefore = s.placement.revisionsBefore
  peersEntries : t.peers.entries = s.peers.entries
  peersRow : t.peers.row = s.peers.row
  peersUpstream : t.peers.upstream = s.peers.upstream
  peersDownstream : t.peers.downstream = s.peers.downstream
  queueEntries : t.queue.entries = s.queue.entries
  queueOverflow : t.queue.overflow = s.queue.overflow

theorem Served.refl (s : State) : Served s s := by constructor <;> rfl

theorem Served.trans {s t u : State} (h : Served s t) (k : Served t u) : Served s u where
  timeBase := k.timeBase.trans h.timeBase
  scanner := k.scanner.trans h.scanner
  zones := k.zones.trans h.zones
  loader := k.loader.trans h.loader
  resets := k.resets.trans h.resets
  holdPin := k.holdPin.trans h.holdPin
  flowPin := k.flowPin.trans h.flowPin
  pending := k.pending.trans h.pending
  linkState := k.linkState.trans h.linkState
  linkTec := k.linkTec.trans h.linkTec
  linkRecv := k.linkRecv.trans h.linkRecv
  linkClash := k.linkClash.trans h.linkClash
  linkLoopResult := k.linkLoopResult.trans h.linkLoopResult
  linkQuietRun := k.linkQuietRun.trans h.linkQuietRun
  linkQuietCount := k.linkQuietCount.trans h.linkQuietCount
  linkTracking := k.linkTracking.trans h.linkTracking
  linkRingTries := k.linkRingTries.trans h.linkRingTries
  linkTimeTries := k.linkTimeTries.trans h.linkTimeTries
  linkAttempt := k.linkAttempt.trans h.linkAttempt
  linkReception := k.linkReception.trans h.linkReception
  linkLoopback := k.linkLoopback.trans h.linkLoopback
  linkAckDriven := k.linkAckDriven.trans h.linkAckDriven
  linkRejectDriven := k.linkRejectDriven.trans h.linkRejectDriven
  supStation := k.supStation.trans h.supStation
  supJoinCount := k.supJoinCount.trans h.supJoinCount
  supMainsLost := k.supMainsLost.trans h.supMainsLost
  supRecovery := k.supRecovery.trans h.supRecovery
  supHoldRequest := k.supHoldRequest.trans h.supHoldRequest
  supStepRecord := k.supStepRecord.trans h.supStepRecord
  supContactorLatch := k.supContactorLatch.trans h.supContactorLatch
  supCause := k.supCause.trans h.supCause
  supGates := k.supGates.trans h.supGates
  supPeriod := k.supPeriod.trans h.supPeriod
  unitCurrent := k.unitCurrent.trans h.unitCurrent
  unitFrozen := k.unitFrozen.trans h.unitFrozen
  unitViewFlag := k.unitViewFlag.trans h.unitViewFlag
  unitUnannounced := k.unitUnannounced.trans h.unitUnannounced
  unitSagCount := k.unitSagCount.trans h.unitSagCount
  unitHanded := k.unitHanded.trans h.unitHanded
  unitRevisionsBefore := k.unitRevisionsBefore.trans h.unitRevisionsBefore
  peersEntries := k.peersEntries.trans h.peersEntries
  peersRow := k.peersRow.trans h.peersRow
  peersUpstream := k.peersUpstream.trans h.peersUpstream
  peersDownstream := k.peersDownstream.trans h.peersDownstream
  queueEntries := k.queueEntries.trans h.queueEntries
  queueOverflow := k.queueOverflow.trans h.queueOverflow

theorem beginComputation_served (cfg : Settings) (s : State) : Served s (beginComputation cfg s) := by
  unfold beginComputation; split <;> constructor <;> rfl

theorem yieldUnrequested_served (cfg : Settings) (s : State) : Served s (yieldUnrequested cfg s) := by
  unfold yieldUnrequested
  split
  · exact beginComputation_served cfg s
  · split
    · exact beginComputation_served cfg s
    · exact Served.refl s

theorem yieldIdle_served (cfg : Settings) (s : State) : Served s (yieldIdle cfg s) := by
  unfold yieldIdle
  split
  · exact yieldUnrequested_served cfg s
  · exact Served.refl s

theorem returnAnnounced_served (s : State) (p : PlacementUnit) (h : Served s (s.setPlacement p)) :
    Served s (s.setPlacement (returnAnnounced p)) := by
  unfold returnAnnounced
  split
  · exact h
  · exact h.trans (by constructor <;> rfl)

theorem endRequest_served (reason : FailReason) (s : State) : Served s (s.setPlacement (endRequest reason s.placement)) := by
  constructor <;> rfl

theorem countSent_served (s : State) : Served s (s.setPlacement (countSent s.placement)) := by constructor <;> rfl

theorem announce_served (s : State) : Served s (s.setPlacement (announce (countSent s.placement))) := by constructor <;> rfl

theorem takePlaceOk_served (cfg : Settings) (s : State) : Served s (takePlaceOk cfg s) := by
  unfold takePlaceOk
  split
  · exact countSent_served s
  · exact (announce_served s).trans (yieldIdle_served cfg _)

theorem takePlaceFail_served (cfg : Settings) (reason : FailReason) (s : State) : Served s (takePlaceFail cfg reason s) := by
  have h := returnAnnounced_served s _ (endRequest_served reason s)
  simp only [takePlaceFail]
  split
  · exact endRequest_served reason s
  · split
    · exact h.trans (beginComputation_served cfg _)
    · split
      · exact h.trans (yieldIdle_served cfg _)
      · exact h

theorem takePlace_served (cfg : Settings) (i : Index) (d : Descriptor) (s : State) : Served s (takePlace cfg i d s) := by
  unfold takePlace
  split
  · split
    · exact takePlaceOk_served cfg s
    · exact takePlaceFail_served cfg _ s
  · exact Served.refl s

theorem setRing_served (s : State) (r : Ring) : Served s (s.setRing r) := by constructor <;> rfl

theorem noteQueued_served (p : Producer) (i : Index) (s : State) : Served s (noteQueued p i s) := by
  cases p <;> constructor <;> rfl

theorem serveWaiting_served (s : State) : Served s (serveWaiting s) := by
  unfold serveWaiting
  split
  · exact Served.refl s
  · exact (setRing_served s _).trans (noteQueued_served _ _ _)

theorem releaseHead_served (s : State) : Served s (releaseHead s) :=
  (setRing_served s _).trans (serveWaiting_served _)

theorem putLine_served (change : Bool) (level : FlowLevel) (s : State) : Served s (putLine change level s) := by
  simp only [putLine]
  split <;> constructor <;> rfl

theorem adoptOwn_served (cfg : Settings) (level : FlowLevel) (s : State) : Served s (adoptOwn cfg level s) := by
  constructor <;> rfl

theorem restartPeriod_served (s : State) : Served s (restartPeriod s) := by constructor <;> rfl

theorem lineRequest_served (cfg : Settings) (change : Bool) (s : State) : Served s (lineRequest cfg change s) := by
  unfold lineRequest
  split
  · exact Served.refl s
  · split
    · split
      · exact putLine_served change _ s
      · exact (adoptOwn_served cfg _ s).trans (restartPeriod_served _)
    · exact Served.refl s

theorem adoptCompleted_served (cfg : Settings) (d : Descriptor) (s : State) : Served s (adoptCompleted cfg d s) := by
  unfold adoptCompleted
  split
  · exact Served.refl s
  · exact adoptOwn_served cfg _ s

theorem clearLine_served (s : State) : Served s (clearLine s) := by constructor <;> rfl

theorem takeLine_served (cfg : Settings) (d : Descriptor) (s : State) : Served s (takeLine cfg d s) := by
  have h : Served s (releaseHead (clearLine (adoptCompleted cfg d s))) :=
    ((adoptCompleted_served cfg d s).trans (clearLine_served _)).trans (releaseHead_served _)
  simp only [takeLine]
  split
  · exact h.trans (lineRequest_served cfg true _)
  · exact h

theorem takeStatus_served (d : Descriptor) (s : State) : Served s (takeStatus d s) := by
  unfold takeStatus
  split
  · exact Served.refl s
  · constructor <;> rfl

theorem takeHead_served (cfg : Settings) (d : Descriptor) (s t : State) (h : takeHead cfg d s = some t) : Served s t := by
  unfold takeHead at h
  split at h
  · cases h; exact releaseHead_served s
  · split at h
    · cases h
    · cases h; exact (takePlace_served cfg _ d s).trans (releaseHead_served _)
  · cases h; exact takeLine_served cfg d s
  · cases h; exact (takeStatus_served d s).trans (releaseHead_served _)

theorem serviceOnce_served (cfg : Settings) (s t : State) (h : serviceOnce cfg s = some t) : Served s t := by
  simp only [serviceOnce] at h
  split at h
  · cases h
  · cases h
  · split at h
    · cases h
    · cases h; exact setRing_served s _
  · cases h; exact setRing_served s _
  · exact takeHead_served cfg _ s t h
  · exact takeHead_served cfg _ s t h

theorem serviceSteps_served (cfg : Settings) (fuel : Nat) (s : State) : Served s (serviceSteps cfg fuel s) := by
  induction fuel generalizing s with
  | zero => exact Served.refl s
  | succ n ih =>
    simp only [serviceSteps]
    split
    · exact Served.refl s
    · rename_i s1 h
      exact (serviceOnce_served cfg s s1 h).trans (ih s1)

/-- The service of the head, said once. -/
theorem serviceHead_served (cfg : Settings) (s : State) : Served s (serviceHead cfg s) := serviceSteps_served cfg 24 s

theorem dropRingFrame_served (s : State) : Served s (dropRingFrame s) := by
  unfold dropRingFrame
  split
  · constructor <;> rfl
  · exact Served.refl s

theorem setRequest_served (r : Ring) (q : Request) (s : State) :
    Served s ((s.setRing r).setPlacement { s.placement with request := q }) := by constructor <;> rfl

theorem serviceIfHead_served (cfg : Settings) (i : Index) (s : State) : Served s (serviceIfHead cfg i s) := by
  unfold serviceIfHead
  split
  · exact serviceHead_served cfg s
  · exact Served.refl s

theorem cancelRequest_served (cfg : Settings) (i : Index) (s : State) : Served s (cancelRequest cfg i s).1 := by
  unfold cancelRequest
  split
  · exact (setRequest_served _ _ s).trans (serviceIfHead_served cfg i _)
  · exact ((setRequest_served _ _ s).trans (dropRingFrame_served _)).trans (serviceIfHead_served cfg i _)

theorem yieldBy_served (cfg : Settings) (s : State) : Served s (yieldBy cfg s) := by
  unfold yieldBy
  split
  · exact yieldUnrequested_served cfg s
  · exact Served.trans
      (Served.trans (setRing_served s (withdrawWaiting .place s.ring))
        (returnAnnounced_served _ { s.placement with request := .none } (by constructor <;> rfl)))
      (beginComputation_served cfg _)
  · rename_i i _
    have h := cancelRequest_served cfg i s
    split
    · rename_i s1 heq
      rw [heq] at h
      exact (h.trans (returnAnnounced_served _ _ (by constructor <;> rfl))).trans (beginComputation_served cfg _)
    · rename_i s1 heq
      rw [heq] at h
      exact h
  · exact Served.refl s

/-- The yield test, said once. -/
theorem yieldTest_served (cfg : Settings) (s : State) : Served s (yieldTest cfg s) := by
  unfold yieldTest
  split
  · exact yieldBy_served cfg s
  · exact Served.refl s

theorem putPlace_served (cfg : Settings) (runs : List Run) (s : State) : Served s (putPlace cfg runs s) := by
  simp only [putPlace]
  split <;> constructor <;> rfl

theorem decideRequest_served (cfg : Settings) (runs : List Run) (s : State) : Served s (decideRequest cfg runs s) := by
  unfold decideRequest
  split
  · exact returnAnnounced_served s _ (by constructor <;> rfl)
  · split
    · exact putPlace_served cfg runs s
    · exact Served.refl s

theorem takeReported_served (cfg : Settings) (s : State) : Served s (takeReported cfg s) := by
  simp only [takeReported]
  split
  · exact (takePlace_served cfg _ _ s).trans (releaseHead_served _)
  · exact Served.refl s

/-- The completion of a computation, said once. -/
theorem completeComputation_served (cfg : Settings) (s : State) : Served s (completeComputation cfg s) := by
  unfold completeComputation
  split
  · exact Served.refl s
  · exact (((Served.trans (by constructor <;> rfl) (decideRequest_served cfg _ _)).trans
      (yieldTest_served cfg _)).trans (takeReported_served cfg _)).trans (serviceHead_served cfg _)

theorem abandonRequest_served (s : State) : Served s (abandonRequest s) := by
  unfold abandonRequest
  split
  · exact Served.refl s
  · exact setRing_served s _
  · exact (setRing_served s _).trans (dropRingFrame_served _)
  · exact Served.refl s

theorem closeWindow_served (cfg : Settings) (s : State) : Served s (closeWindow cfg s) := by
  have h : Served s (s.setPlacement { s.placement with computation := none }) := by constructor <;> rfl
  simp only [closeWindow]
  split
  · exact h.trans (serviceHead_served cfg _)
  · exact (h.trans (by constructor <;> rfl)).trans (serviceHead_served cfg _)
  · exact (h.trans (cancelRequest_served cfg _ _)).trans (serviceHead_served cfg _)
  · exact h.trans (serviceHead_served cfg _)

end Sys2Proof.Machine
end

