-- ==== Sys2Proof/Laws/Slots.lean ====
section
/-! SUPPORT. What a slot-boundary event leaves as it was, and what it does to the gates. -/

namespace Sys2Proof.Machine

/-- What a slot-boundary event leaves as it was: the position, the mains record, the readings, the link but for its state and the frame
in hand, the receive queue, the pins, the Loader, and the waiting commands. -/
structure EventKept (s t : State) : Prop where
  loader : t.loader = s.loader
  resets : t.resets = s.resets
  holdPin : t.holdPin = s.holdPin
  flowPin : t.flowPin = s.flowPin
  pending : t.pending = s.pending
  timePosition : t.timeBase.position = s.timeBase.position
  timeSource : t.timeBase.source = s.timeBase.source
  timeMeasuredPeriod : t.timeBase.measuredPeriod = s.timeBase.measuredPeriod
  timeMainsClass : t.timeBase.mainsClass = s.timeBase.mainsClass
  timeRun : t.timeBase.run = s.timeBase.run
  timeCrossingSeen : t.timeBase.crossingSeen = s.timeBase.crossingSeen
  timePeriodBase : t.timeBase.periodBase = s.timeBase.periodBase
  timeTimestamp : t.timeBase.timestamp = s.timeBase.timestamp
  linkTec : t.link.tec = s.link.tec
  linkRecv : t.link.recv = s.link.recv
  linkClash : t.link.clash = s.link.clash
  linkLoopResult : t.link.loopResult = s.link.loopResult
  linkQuietRun : t.link.quietRun = s.link.quietRun
  linkQuietCount : t.link.quietCount = s.link.quietCount
  linkTracking : t.link.tracking = s.link.tracking
  linkRingTries : t.link.ringTries = s.link.ringTries
  linkTimeTries : t.link.timeTries = s.link.timeTries
  linkAttempt : t.link.attempt = s.link.attempt
  linkReception : t.link.reception = s.link.reception
  linkLoopback : t.link.loopback = s.link.loopback
  linkAckDriven : t.link.ackDriven = s.link.ackDriven
  linkRejectDriven : t.link.rejectDriven = s.link.rejectDriven
  supMainsLost : t.supervisor.mainsLost = s.supervisor.mainsLost
  supRecovery : t.supervisor.recovery = s.supervisor.recovery
  supHoldRequest : t.supervisor.holdRequest = s.supervisor.holdRequest
  supContactorLatch : t.supervisor.contactorLatch = s.supervisor.contactorLatch
  supCause : t.supervisor.cause = s.supervisor.cause
  scanControl : t.scanner.control = s.scanner.control
  scanLimiter : t.scanner.limiter = s.scanner.limiter
  scanZones : t.scanner.zones = s.scanner.zones
  scanVoltage : t.scanner.voltage = s.scanner.voltage
  scanVoltageClass : t.scanner.voltageClass = s.scanner.voltageClass
  queueEntries : t.queue.entries = s.queue.entries
  queueOverflow : t.queue.overflow = s.queue.overflow

theorem EventKept.refl (s : State) : EventKept s s := by constructor <;> rfl

theorem EventKept.trans {s t u : State} (h : EventKept s t) (k : EventKept t u) : EventKept s u where
  loader := k.loader.trans h.loader
  resets := k.resets.trans h.resets
  holdPin := k.holdPin.trans h.holdPin
  flowPin := k.flowPin.trans h.flowPin
  pending := k.pending.trans h.pending
  timePosition := k.timePosition.trans h.timePosition
  timeSource := k.timeSource.trans h.timeSource
  timeMeasuredPeriod := k.timeMeasuredPeriod.trans h.timeMeasuredPeriod
  timeMainsClass := k.timeMainsClass.trans h.timeMainsClass
  timeRun := k.timeRun.trans h.timeRun
  timeCrossingSeen := k.timeCrossingSeen.trans h.timeCrossingSeen
  timePeriodBase := k.timePeriodBase.trans h.timePeriodBase
  timeTimestamp := k.timeTimestamp.trans h.timeTimestamp
  linkTec := k.linkTec.trans h.linkTec
  linkRecv := k.linkRecv.trans h.linkRecv
  linkClash := k.linkClash.trans h.linkClash
  linkLoopResult := k.linkLoopResult.trans h.linkLoopResult
  linkQuietRun := k.linkQuietRun.trans h.linkQuietRun
  linkQuietCount := k.linkQuietCount.trans h.linkQuietCount
  linkTracking := k.linkTracking.trans h.linkTracking
  linkRingTries := k.linkRingTries.trans h.linkRingTries
  linkTimeTries := k.linkTimeTries.trans h.linkTimeTries
  linkAttempt := k.linkAttempt.trans h.linkAttempt
  linkReception := k.linkReception.trans h.linkReception
  linkLoopback := k.linkLoopback.trans h.linkLoopback
  linkAckDriven := k.linkAckDriven.trans h.linkAckDriven
  linkRejectDriven := k.linkRejectDriven.trans h.linkRejectDriven
  supMainsLost := k.supMainsLost.trans h.supMainsLost
  supRecovery := k.supRecovery.trans h.supRecovery
  supHoldRequest := k.supHoldRequest.trans h.supHoldRequest
  supContactorLatch := k.supContactorLatch.trans h.supContactorLatch
  supCause := k.supCause.trans h.supCause
  scanControl := k.scanControl.trans h.scanControl
  scanLimiter := k.scanLimiter.trans h.scanLimiter
  scanZones := k.scanZones.trans h.scanZones
  scanVoltage := k.scanVoltage.trans h.scanVoltage
  scanVoltageClass := k.scanVoltageClass.trans h.scanVoltageClass
  queueEntries := k.queueEntries.trans h.queueEntries
  queueOverflow := k.queueOverflow.trans h.queueOverflow

theorem Served.eventKept {s t : State} (h : Served s t) : EventKept s t := by
  constructor
  case loader => exact h.loader
  case resets => exact h.resets
  case holdPin => exact h.holdPin
  case flowPin => exact h.flowPin
  case pending => exact h.pending
  case timePosition => exact by rw [h.timeBase]
  case timeSource => exact by rw [h.timeBase]
  case timeMeasuredPeriod => exact by rw [h.timeBase]
  case timeMainsClass => exact by rw [h.timeBase]
  case timeRun => exact by rw [h.timeBase]
  case timeCrossingSeen => exact by rw [h.timeBase]
  case timePeriodBase => exact by rw [h.timeBase]
  case timeTimestamp => exact by rw [h.timeBase]
  case linkTec => exact h.linkTec
  case linkRecv => exact h.linkRecv
  case linkClash => exact h.linkClash
  case linkLoopResult => exact h.linkLoopResult
  case linkQuietRun => exact h.linkQuietRun
  case linkQuietCount => exact h.linkQuietCount
  case linkTracking => exact h.linkTracking
  case linkRingTries => exact h.linkRingTries
  case linkTimeTries => exact h.linkTimeTries
  case linkAttempt => exact h.linkAttempt
  case linkReception => exact h.linkReception
  case linkLoopback => exact h.linkLoopback
  case linkAckDriven => exact h.linkAckDriven
  case linkRejectDriven => exact h.linkRejectDriven
  case supMainsLost => exact h.supMainsLost
  case supRecovery => exact h.supRecovery
  case supHoldRequest => exact h.supHoldRequest
  case supContactorLatch => exact h.supContactorLatch
  case supCause => exact h.supCause
  case scanControl => exact by rw [h.scanner]
  case scanLimiter => exact by rw [h.scanner]
  case scanZones => exact by rw [h.scanner]
  case scanVoltage => exact by rw [h.scanner]
  case scanVoltageClass => exact by rw [h.scanner]
  case queueEntries => exact h.queueEntries
  case queueOverflow => exact h.queueOverflow

/-- The part of the state that gate drive reads, with the gates. -/
structure GateKept (s t : State) : Prop where
  gates : t.supervisor.gates = s.supervisor.gates
  station : t.supervisor.station = s.supervisor.station
  current : t.placement.current = s.placement.current
  taken : t.timeBase.takenSlot = s.timeBase.takenSlot
  condition : ∀ z : Index, (t.zones.get z).condition = (s.zones.get z).condition
  permit : ∀ z : Index, (t.zones.get z).permit = (s.zones.get z).permit

theorem GateKept.refl (s : State) : GateKept s s := ⟨rfl, rfl, rfl, rfl, fun _ => rfl, fun _ => rfl⟩

theorem GateKept.trans {s t u : State} (h : GateKept s t) (k : GateKept t u) : GateKept s u where
  gates := k.gates.trans h.gates
  station := k.station.trans h.station
  current := k.current.trans h.current
  taken := k.taken.trans h.taken
  condition z := (k.condition z).trans (h.condition z)
  permit z := (k.permit z).trans (h.permit z)

theorem Served.gateKept {s t : State} (h : Served s t) : GateKept s t where
  gates := h.supGates
  station := h.supStation
  current := h.unitCurrent
  taken := by rw [h.timeBase]
  condition z := by rw [h.zones]
  permit z := by rw [h.zones]

theorem gateLevel_congr {s t : State} (h : GateKept s t) (k : Nat) (z : Index) : gateLevel t k z = gateLevel s k z := by
  simp only [gateLevel, h.station, h.condition, h.permit, h.current]

/-- What gate drive reads being kept, the gates stay safe. -/
theorem GatesSafe.kept {s t : State} (hs : GatesSafe s) (h : GateKept s t) : GatesSafe t := by
  intro z hz
  rw [gateLevel_congr h, h.taken]
  exact hs z (by rw [← h.gates]; exact hz)

theorem setGates_gates (s : State) (g : Six Bool) : (setGates s g).supervisor.gates = g := rfl

theorem driveGates_gateKept_but_gates (k : Nat) (s : State) :
    (driveGates k s).supervisor.station = s.supervisor.station ∧ (driveGates k s).placement = s.placement ∧
      (driveGates k s).timeBase = s.timeBase ∧ (driveGates k s).zones = s.zones := ⟨rfl, rfl, rfl, rfl⟩

/-- Gate drive at the taken slot makes the gates safe. -/
theorem driveGates_gatesSafe (k : Nat) (s : State) (h : s.timeBase.takenSlot = k) : GatesSafe (driveGates k s) := by
  intro z hz
  have h1 : (driveGates k s).supervisor.gates.get z = gateLevel s k z := by
    simp [driveGates, setGates_gates]
  rw [h1] at hz
  rw [← hz]
  have h2 : (driveGates k s).timeBase.takenSlot = k := h
  rw [h2]
  rfl

theorem samplePin_served (cfg : Settings) (s : State) : Served s (samplePin cfg s) := by
  simp only [samplePin]
  split
  · split
    · exact Served.trans (by constructor <;> rfl) (lineRequest_served cfg true _)
    · constructor <;> rfl
  · exact Served.refl s

theorem everySlot_gatesSafe (cfg : Settings) (k : Nat) (s : State) (h : s.timeBase.takenSlot = k) :
    GatesSafe (everySlot cfg k s) := by
  have h1 := driveGates_gatesSafe k s h
  have h2 : GateKept (driveGates k s)
      ((driveGates k s).setScanner (armScanner k (driveGates k s).timeBase.cycle (driveGates k s).scanner)) :=
    ⟨rfl, rfl, rfl, rfl, fun _ => rfl, fun _ => rfl⟩
  exact (h1.kept h2).kept (samplePin_served cfg _).gateKept

theorem selectSource_condition (cfg : Settings) (sc : Scanner) (u d : BoundaryRecord) (z : Index) (x : Zone) :
    (selectSource cfg sc u d z x).condition = x.condition ∧ (selectSource cfg sc u d z x).permit = x.permit := by
  unfold selectSource holdZone
  split
  · split
    · exact ⟨rfl, rfl⟩
    · split
      · exact ⟨rfl, rfl⟩
      · split
        · split <;> exact ⟨rfl, rfl⟩
        · exact ⟨rfl, rfl⟩
        · exact ⟨rfl, rfl⟩
  · exact ⟨rfl, rfl⟩

theorem regulate_condition (cfg : Settings) (b : Bank) (e : Int) (x : Zone) :
    (regulate cfg b e x).condition = x.condition ∧ (regulate cfg b e x).permit = x.permit := ⟨rfl, rfl⟩

theorem coldStartStep_condition (cfg : Settings) (b : Bank) (e : Int) (x : Zone) :
    (coldStartStep cfg b e x).condition = x.condition ∧ (coldStartStep cfg b e x).permit = x.permit := by
  unfold coldStartStep
  split
  · split <;> exact ⟨rfl, rfl⟩
  · exact ⟨rfl, rfl⟩

theorem normalDemand_condition (cfg : Settings) (b : Bank) (e : Int) (x : Zone) :
    (normalDemand cfg b e x).condition = x.condition ∧ (normalDemand cfg b e x).permit = x.permit := by
  unfold normalDemand
  split
  · exact ⟨rfl, rfl⟩
  · exact ⟨rfl, rfl⟩
  · exact ⟨rfl, rfl⟩
  · split
    · exact coldStartStep_condition cfg b e x
    · exact regulate_condition cfg b e x
    · exact ⟨rfl, rfl⟩

theorem computeDemand_condition (cfg : Settings) (l : LineState) (z : Index) (x : Zone) :
    (computeDemand cfg l z x).condition = x.condition ∧ (computeDemand cfg l z x).permit = x.permit := by
  simp only [computeDemand]
  split
  · split
    · exact normalDemand_condition cfg _ _ x
    · exact ⟨rfl, rfl⟩
  · exact ⟨rfl, rfl⟩

/-- New zone records with the same conditions and permits keep what gate drive reads. -/
theorem setZones_gateKept (s : State) (f : Index → Zone)
    (h : ∀ z, (f z).condition = (s.zones.get z).condition ∧ (f z).permit = (s.zones.get z).permit) :
    GateKept s (s.setZones (Six.ofFn f)) where
  gates := rfl
  station := rfl
  current := rfl
  taken := rfl
  condition z := by simp [(h z).1]
  permit z := by simp [(h z).2]

theorem selectSources_gateKept (s : State) (cfg : Settings) : GateKept s (selectSources s cfg) :=
  setZones_gateKept s _ fun z => selectSource_condition cfg _ _ _ z _

theorem computeDemands_gateKept (cfg : Settings) (s : State) : GateKept s (computeDemands cfg s) :=
  setZones_gateKept s _ fun z => computeDemand_condition cfg _ z _

theorem takeCurtailment_gateKept (l : List Nat) (s : State) : GateKept s (takeCurtailment l s) :=
  setZones_gateKept s _ fun _ => ⟨rfl, rfl⟩

theorem demandPoint_gateKept (cfg : Settings) (s : State) : GateKept s (demandPoint cfg s) := by
  have h := selectSources_gateKept s cfg
  simp only [demandPoint]
  split
  · exact GateKept.refl s
  · exact GateKept.refl s
  · exact h
  · refine h.trans ((computeDemands_gateKept cfg _).trans ?_)
    have h1 : GateKept (computeDemands cfg (selectSources s cfg)) (handOver (computeDemands cfg (selectSources s cfg))) :=
      ⟨rfl, rfl, rfl, rfl, fun _ => rfl, fun _ => rfl⟩
    exact h1.trans (beginComputation_served cfg _).gateKept
  · exact h.trans (beginComputation_served cfg _).gateKept
  · exact h

theorem settleFreeze_gateKept (cfg : Settings) (s : State) : GateKept s (settleFreeze cfg s) := by
  have h : GateKept s (installFrozen cfg s) := ⟨rfl, rfl, rfl, rfl, fun _ => rfl, fun _ => rfl⟩
  exact h.trans (takeCurtailment_gateKept _ _)

theorem freeze_gateKept (cfg : Settings) (s : State) : GateKept s (freeze cfg s) := by
  unfold freeze
  split
  · exact (closeWindow_served cfg s).gateKept.trans (settleFreeze_gateKept cfg _)
  · exact GateKept.refl s

theorem statusPoint_gateKept (cfg : Settings) (s : State) : GateKept s (statusPoint cfg s) := by
  have h : ∀ v : Supervisor, v.gates = s.supervisor.gates → v.station = s.supervisor.station →
      GateKept s (s.setSupervisor v) := fun v h1 h2 => ⟨h1, h2, rfl, rfl, fun _ => rfl, fun _ => rfl⟩
  simp only [statusPoint]
  split
  · split
    · refine GateKept.trans (h _ rfl rfl) (GateKept.trans ?_ (serviceHead_served cfg _).gateKept)
      exact ⟨rfl, rfl, rfl, rfl, fun _ => rfl, fun _ => rfl⟩
    · exact h _ rfl rfl
  · exact GateKept.refl s

theorem slotPoint_gateKept (cfg : Settings) (k : Nat) (s : State) : GateKept s (slotPoint cfg k s) := by
  unfold slotPoint
  split
  · exact demandPoint_gateKept cfg s
  · split
    · exact freeze_gateKept cfg s
    · split
      · exact statusPoint_gateKept cfg s
      · exact GateKept.refl s

theorem boundaryBlocks_taken (cfg : Settings) (entered : Bool) (s : State) :
    (boundaryBlocks cfg entered s).timeBase = s.timeBase := by
  simp only [boundaryBlocks]
  have h1 : (rollover cfg s).timeBase = s.timeBase := by
    simp only [rollover]
    rw [(serviceHead_served cfg _).timeBase]
    exact (abandonRequest_served s).timeBase
  have h2 : ∀ x : State, (flowBoundary cfg entered x).timeBase = x.timeBase := by
    intro x
    simp only [flowBoundary]
    split
    · split
      · rw [(lineRequest_served cfg false _).timeBase]; rfl
      · split
        · split
          · rw [(lineRequest_served cfg false _).timeBase]; rfl
          · rfl
        · rfl
    · rfl
  rw [h2]
  exact h1

/-- After a slot-boundary event the gates are safe, whatever stood before it (R185). -/
theorem slotEvent_gatesSafe (cfg : Settings) (counted : Bool) (k : Nat) (s : State) :
    GatesSafe (slotEvent cfg counted k s) := by
  simp only [slotEvent]
  split
  · apply everySlot_gatesSafe
    rw [boundaryBlocks_taken]
    rfl
  · have h := everySlot_gatesSafe cfg k (takeSlot k (beforeEvent cfg k s)) rfl
    exact h.kept (slotPoint_gateKept cfg k _)

/-! ### What an event keeps -/

theorem setStation_eventKept (s : State) (x : StationState) : EventKept s (setStation s x) := by
  unfold setStation; split <;> constructor <;> rfl

theorem joinBoundary_eventKept (cfg : Settings) (s : State) : EventKept s (joinBoundary cfg s) := by
  simp only [joinBoundary]
  split
  · exact EventKept.trans (by constructor <;> rfl) (setStation_eventKept _ _)
  · constructor <;> rfl

theorem boundaryDecision_eventKept (cfg : Settings) (s : State) : EventKept s (boundaryDecision cfg s) := by
  simp only [boundaryDecision]
  split
  · exact EventKept.refl s
  · exact EventKept.refl s
  · exact joinBoundary_eventKept cfg s
  · split
    · exact setStation_eventKept s _
    · exact EventKept.refl s
  · split
    · exact (setStation_eventKept s _).trans (by constructor <;> rfl)
    · exact EventKept.refl s
  · split
    · exact EventKept.refl s
    · exact setStation_eventKept s _

theorem decideLink_kept (l : Link) : { decideLink l with state := l.state } = l := by
  unfold decideLink; split <;> rfl

theorem checkJoinFlag_eventKept (cfg : Settings) (s : State) :
    EventKept s (s.setTimeBase (checkJoinFlag cfg s.timeBase)) := by
  unfold checkJoinFlag; split <;> constructor <;> rfl

theorem passJoin_eventKept (cfg : Settings) (s : State) : EventKept s (passJoin cfg s) := by
  have h1 : EventKept s (s.setLink (decideLink s.link)) := by
    unfold decideLink; split <;> constructor <;> rfl
  have h2 := checkJoinFlag_eventKept cfg (s.setLink (decideLink s.link))
  exact (h1.trans h2).trans (by constructor <;> rfl)

theorem stationBoundary_eventKept (cfg : Settings) (s : State) : EventKept s (stationBoundary cfg s) := by
  have h := boundaryDecision_eventKept cfg s
  simp only [stationBoundary]
  split
  · exact h.trans (passJoin_eventKept cfg _)
  · exact h

theorem cycleSteps_eventKept (cfg : Settings) (counted : Bool) (s : State) : EventKept s (cycleSteps cfg counted s) := by
  have h1 : EventKept s (s.setTimeBase (cycleTimes cfg s.supervisor.station counted s.timeBase)) := by
    cases counted <;> constructor <;> rfl
  simp only [cycleSteps, offerAtBoundary]
  split
  · exact h1.trans (by constructor <;> rfl)
  · exact h1

theorem beforeEvent_served (cfg : Settings) (k : Nat) (s : State) : Served s (beforeEvent cfg k s) := by
  simp only [beforeEvent]
  split
  · exact setRing_served s _
  · exact (completeComputation_served cfg s).trans (setRing_served _ _)

theorem rollover_eventKept (cfg : Settings) (s : State) : EventKept s (rollover cfg s) := by
  simp only [rollover]
  refine (abandonRequest_served s).eventKept.trans (EventKept.trans ?_ (serviceHead_served cfg _).eventKept)
  constructor <;> rfl

theorem flowBoundary_served (cfg : Settings) (entered : Bool) (s : State) : Served s (flowBoundary cfg entered s) := by
  have h : ∀ n : Nat, Served s (s.setPeers { s.peers with flow := { s.peers.flow with periodCount := n } }) :=
    fun _ => by constructor <;> rfl
  simp only [flowBoundary]
  split
  · split
    · exact (h _).trans (lineRequest_served cfg false _)
    · split
      · split
        · exact (h _).trans (lineRequest_served cfg false _)
        · exact restartPeriod_served s
      · exact h _
  · exact Served.refl s

theorem boundaryBlocks_eventKept (cfg : Settings) (entered : Bool) (s : State) :
    EventKept s (boundaryBlocks cfg entered s) := by
  simp only [boundaryBlocks]
  refine (rollover_eventKept cfg s).trans (EventKept.trans ?_ (flowBoundary_served cfg entered _).eventKept)
  constructor <;> rfl

theorem everySlot_eventKept (cfg : Settings) (k : Nat) (s : State) : EventKept s (everySlot cfg k s) := by
  have h1 : EventKept s ((driveGates k s).setScanner
      (armScanner k (driveGates k s).timeBase.cycle (driveGates k s).scanner)) := by constructor <;> rfl
  exact h1.trans (samplePin_served cfg _).eventKept

theorem setZones_eventKept (s : State) (x : Six Zone) : EventKept s (s.setZones x) := by constructor <;> rfl

theorem demandPoint_eventKept (cfg : Settings) (s : State) : EventKept s (demandPoint cfg s) := by
  have h : EventKept s (selectSources s cfg) := setZones_eventKept s _
  simp only [demandPoint]
  split
  · exact EventKept.refl s
  · exact EventKept.refl s
  · exact h
  · have h1 : EventKept (selectSources s cfg) (handOver (computeDemands cfg (selectSources s cfg))) := by
      constructor <;> rfl
    exact (h.trans h1).trans (beginComputation_served cfg _).eventKept
  · exact h.trans (beginComputation_served cfg _).eventKept
  · exact h

theorem freeze_eventKept (cfg : Settings) (s : State) : EventKept s (freeze cfg s) := by
  unfold freeze
  split
  · exact (closeWindow_served cfg s).eventKept.trans (by constructor <;> rfl)
  · exact EventKept.refl s

theorem statusPoint_eventKept (cfg : Settings) (s : State) : EventKept s (statusPoint cfg s) := by
  simp only [statusPoint]
  split
  · split
    · exact EventKept.trans (by constructor <;> rfl) (serviceHead_served cfg _).eventKept
    · constructor <;> rfl
  · exact EventKept.refl s

theorem slotPoint_eventKept (cfg : Settings) (k : Nat) (s : State) : EventKept s (slotPoint cfg k s) := by
  unfold slotPoint
  split
  · exact demandPoint_eventKept cfg s
  · split
    · exact freeze_eventKept cfg s
    · split
      · exact statusPoint_eventKept cfg s
      · exact EventKept.refl s

/-- A slot-boundary event, said once. -/
theorem slotEvent_eventKept (cfg : Settings) (counted : Bool) (k : Nat) (s : State) :
    EventKept s (slotEvent cfg counted k s) := by
  have h := (beforeEvent_served cfg k s).eventKept
  simp only [slotEvent]
  split
  · refine h.trans (EventKept.trans ?_ (EventKept.trans (boundaryBlocks_eventKept cfg _ _) (everySlot_eventKept cfg 0 _)))
    exact ((stationBoundary_eventKept cfg _).trans (cycleSteps_eventKept cfg counted _)).trans (by constructor <;> rfl)
  · refine h.trans (EventKept.trans ?_ (EventKept.trans (everySlot_eventKept cfg k _) (slotPoint_eventKept cfg k _)))
    constructor <;> rfl

theorem moveTo_gatesSafe (cfg : Settings) (p : Nat) (s : State) (h : GatesSafe s) : GatesSafe (moveTo cfg p s) := by
  simp only [moveTo]
  split
  · exact slotEvent_gatesSafe cfg true _ _
  · exact h.kept ⟨rfl, rfl, rfl, rfl, fun _ => rfl, fun _ => rfl⟩

theorem mainsCycleEnd_gatesSafe (s : State) (h : GatesSafe s) : GatesSafe (mainsCycleEnd s) := by
  simp only [mainsCycleEnd, whenActive]
  split
  · exact h
  · exact moveTo_gatesSafe _ _ _ (h.kept ⟨rfl, rfl, rfl, rfl, fun _ => rfl, fun _ => rfl⟩)

theorem takeTime_gatesSafe (cfg : Settings) (a : Nat) (p : TimePayload) (s : State) (h : GatesSafe s) :
    GatesSafe (takeTime cfg a p s) := by
  have hk : ∀ t : TimeBase, t.takenSlot = s.timeBase.takenSlot → GatesSafe (s.setTimeBase t) :=
    fun t ht => h.kept ⟨rfl, rfl, rfl, ht, fun _ => rfl, fun _ => rfl⟩
  simp only [takeTime]
  split
  · exact h
  · split
    · split
      · simp only [outright]
        split
        · exact slotEvent_gatesSafe cfg false _ _
        · exact hk _ rfl
      · simp only [bounded]
        split
        · exact moveTo_gatesSafe cfg _ _ (hk _ rfl)
        · exact hk _ rfl
    · exact h

end Sys2Proof.Machine
end

