-- ==== Sys2Proof/WellFormed.lean ====
section
/-! DEFINITION. Which commands the outside world can give: operands within what the pins and the converters can carry.
`exec` has a meaning for every command, well-formed or not; this predicate is what a sender keeps to. -/

namespace Sys2Proof

/-- A crossing has an interval of at least one microsecond since the one before it (R1). -/
def wfInterval (interval : Nat) : Bool := decide (0 < interval)

/-- What a command carries of the line is no more than a number of bits. A bit lasts at most 22 quanta with its resynchronisation, and a
quantum at most 5 µs, four levels of a wave (R134). -/
def wfLine (most : Nat) : Line → Bool
  | .sampled bits => decide (bits.length ≤ most)
  | .wave _ levels => decide (levels.length ≤ 88 * most)

/-- The longest frame after its Start bit that a Length of 63 can delimit, with its stuff bits (R119, R121): 63 payload bytes give 540
stuffed-part bits, at most 107 stuff bits, and 8 bits of Acknowledge and End. -/
def longestFrame : Nat := 654

/-- The bits of one command stay within the longest frame. -/
def wfFrameBits (bits : Line) : Bool := wfLine longestFrame bits

/-- An occasion whose operands are well-formed. -/
def wfOccasion : Occasion → Bool
  | .crossing interval _ => wfInterval interval
  | .loss _ => true
  | .oscillator _ => true
  | .frame bits _ => wfFrameBits bits

/-- Disturbed bytes lie in the retained image (R197). -/
def wfDisturbed (l : List (Nat × Byte)) : Bool := l.all fun p => decide (p.1 < Config.imageSize)

/-- A command whose operands the outside world can give. -/
def wellFormed : Instr → Bool
  | .crossing interval _ => wfInterval interval
  | .sourceReturnToMains interval _ => wfInterval interval
  | .lossOfZeroCross _ => true
  | .oscillatorMainsCycleEnd _ => true
  | .joinEnd o => wfOccasion o
  | .syncTimeout o => wfOccasion o
  | .entryRemoval o => wfOccasion o
  | .boundaryRecordExpiry o => wfOccasion o
  | .lineStateTimeout o => wfOccasion o
  | .sagResponseEnd o => wfOccasion o
  | .periodicLineRequest o => wfOccasion o
  | .fallback o => wfOccasion o
  | .computationCompletion => true
  | .timeMailboxExpiry o => wfOccasion o
  | .scanCompletion _ _ => true
  | .windowCompletion _ _ => true
  | .mainsRecovery interval _ => wfInterval interval
  | .tripClearEdge => true
  | .hold _ => true
  | .frameReceived bits _ => wfFrameBits bits
  | .dispatch => true
  | .lineIdle _ => true
  | .chanceToSend _ bits => wfFrameBits bits
  | .attemptEnd bits => wfFrameBits bits
  | .quietInterval _ => true
  | .powerOnReset => true
  | .supplyDipReset l => wfDisturbed l
  | .clockStopReset l => wfDisturbed l
  | .externalReset => true
  | .resetEnd => true
  | .readComplete miso => decide (miso.length ≤ 24 + 8 * Config.imageSize)
  | .loopbackIdleWaitPassed bits => wfLine Config.loopbackLimit bits
  | .loopbackTimeout => true
  | .loopbackCheckEnd disturbed => disturbed.all fun i => decide (i < longestFrame)
  | .startBit => true

end Sys2Proof
end

