-- ==== Sys2Proof/Tests/Slice0.lean ====
section
/-! SUPPORT. The model's own tests: ill-formed commands refused, worked examples of the manual, and a concrete state for the hypotheses of
every statement. -/

namespace Sys2Proof.Test

open Sys2Proof Sys2Proof.Machine

set_option Elab.async false

/-! ### Small states -/

/-- Zones of 12 LU, trip at 110.0, target 90.0 flowing and 50.0 standing. -/
def zone : ZoneSettings where
  enabled := true
  ratedLu := 12
  tripLimit := 1100
  flowing := { target := 900, kp := 4, ki := 2 }
  standing := { target := 500, kp := 4, ki := 2 }

/-- Station 5 of group 2 with zones 1 to 5 enabled. -/
def cfg : Settings where
  address := 5
  group := 2
  upstreamAddr := 4
  downstreamAddr := 6
  bitRate := 1
  flowSensing := false
  slotLen := 8
  budget := 60
  luWatts := 100
  inrushCold := 32
  minRun := 3
  tCold := 0
  tWarm := 400
  blindMargin := 20
  ration := 10
  sagDerate := 15
  sagHold := 2
  vNom := 2300
  sagPct := 85
  silentLimit := 2
  joinCycles := 3
  jumpLimit := 2
  syncTimeout := 10
  lineTimeout := 24
  statusPeriod := 4
  filterShift := 1
  rateLimit := 50
  holdCycles := 3
  fallbackDemand := 5
  substPenalty := 30
  coldFloor := 100
  warmPreset := 1000
  zones := (Six.fill zone).set 5 { zone with enabled := false }

/-- A station in a state, its settled fields given, its link state given. -/
def station (c : Settings) (x : StationState) (l : LinkState) : State :=
  { State.reset with
    supervisor := { State.reset.supervisor with station := x }
    loader := { State.reset.loader with state := .settled, settled := some c, complete := true }
    link := { State.reset.link with state := l, loopResult := some .passed } }

/-- A RUNNING station with an ACTIVE link. -/
def running : State := station cfg .running .active

/-- The last mains cycle of slot 31. -/
def atBoundary (s : State) : State := { s with timeBase := { s.timeBase with position := 255, takenSlot := 31 } }

/-- The last mains cycle before a slot. -/
def beforeSlot (k : Nat) (s : State) : State :=
  { s with timeBase := { s.timeBase with position := 8 * k - 1, takenSlot := k - 1 } }

/-- The source is OSCILLATOR, with a run of crossings. -/
def onOscillator (n : Nat) (s : State) : State :=
  { s with timeBase := { s.timeBase with source := .oscillator, run := n } }

/-- A frame of another station, its bits up to the end: a PLACE of one run, or any payload. -/
def lineFrame (kind source group : Nat) (payload : List Byte) : List Bool :=
  (sentBits kind source group payload).map SentBit.level ++ false :: List.replicate 7 true

/-- A reception that has just begun. -/
def receiving (s : State) : State :=
  { s with
    link := { s.link with tracking := .inFrame 0, reception := some Reception.opened }
    timeBase := { s.timeBase with timestamp := some { cycle := 0, position := 0 } } }

/-- One zone record replaced. -/
def withZone (z : Index) (f : Zone → Zone) (s : State) : State := s.setZone z (f (s.zones.get z))

/-- A computation in flight, with nothing to place. -/
def computing (s : State) : State := s.setPlacement { s.placement with computation := some (computationInputs cfg s) }

/-- The one next state of a command. -/
def after (c : Instr) (s : State) : State :=
  match exec c s with
  | .next t => t
  | .fault r => nomatch r
  | .refused _ => s

/-! ### Ill-formed commands are refused by the predicate -/

theorem test_wf_crossing : wellFormed (.crossing 0 false) = false := by decide
theorem test_wf_source_return : wellFormed (.sourceReturnToMains 0 false) = false := by decide
theorem test_wf_recovery : wellFormed (.mainsRecovery 0 true) = false := by decide
theorem test_wf_occasion : wellFormed (.joinEnd (.crossing 0 false)) = false := by decide
theorem test_wf_occasion_frame : wellFormed (.fallback (.frame (.sampled (List.replicate 655 true)) false)) = false := by decide +kernel
theorem test_wf_frame : wellFormed (.frameReceived (.sampled (List.replicate 655 true)) false) = false := by decide +kernel
theorem test_wf_chance : wellFormed (.chanceToSend 3 (.sampled (List.replicate 655 true))) = false := by decide +kernel
theorem test_wf_attempt : wellFormed (.attemptEnd (.sampled (List.replicate 655 true))) = false := by decide +kernel
theorem test_wf_disturbed : wellFormed (.supplyDipReset [(128, 0)]) = false := by decide
theorem test_wf_disturbed_stop : wellFormed (.clockStopReset [(3, 0), (200, 1)]) = false := by decide
theorem test_wf_read : wellFormed (.readComplete (List.replicate 1049 true)) = false := by decide +kernel
theorem test_wf_loop_wait : wellFormed (.loopbackIdleWaitPassed (.sampled (List.replicate 2049 true))) = false := by decide +kernel
theorem test_wf_loop_end : wellFormed (.loopbackCheckEnd [3, 654]) = false := by decide
theorem test_wf_wave : wellFormed (.attemptEnd (.wave true (List.replicate 57553 true))) = false := by decide +kernel
theorem test_wf_accepts : wellFormed (.crossing 20000 false) = true := by decide


/-! ### The states of the witnesses -/

/-- An accepted crossing on MAINS has gone before. -/
def seen (s : State) : State := { s with timeBase := { s.timeBase with crossingSeen := true, periodBase := true } }

def sixty : State := { seen running with timeBase := { (seen running).timeBase with mainsClass := .hz60 } }

/-- Seven good crossings since a loss of mains. -/
def recovering (s : State) : State :=
  { s with
    supervisor := { s.supervisor with mainsLost := true, recovery := 7 }
    scanner := { s.scanner with voltageClass := some .normal } }

/-- A run of zone 1 from slot 30 to slot 1, with a surcharge. -/
def run1 : Run := { zone := 1, start := 30, length := 4, load := 12, surcharge := 5, stuck := false }

/-- A run of zone 2 in slots 0 to 5. -/
def run2 : Run := { zone := 2, start := 0, length := 6, load := 20, surcharge := 0, stuck := false }

/-- The two runs are the current placement, and the gates follow it. -/
def heating (s : State) : State :=
  { s with
    placement := { s.placement with current := [run1, run2] }
    supervisor := { s.supervisor with gates := (Six.fill true).set 5 false } }

def joining : State :=
  atBoundary (withZone 0 (fun x => { x with tc := some 100 })
    { station cfg .listening .listenOnly with
      supervisor := { (station cfg .listening .listenOnly).supervisor with joinCount := 2 } })

def clashed : State := { joining with link := { joining.link with clash := true } }

def holdAsked : State := atBoundary { running with supervisor := { running.supervisor with holdRequest := true } }

def stepping : State :=
  atBoundary { station cfg .held .active with
    supervisor := { (station cfg .held .active).supervisor with stepRecord := true } }

def mainsBack : State := atBoundary (station cfg .mainsLost .active)

def frozenState : State :=
  atBoundary { running with
    placement := { running.placement with
      frozen := some [{ run2 with zone := 3, start := 0, length := 32, stuck := true }, run1], sagCount := 1, orderCounter := 9
      revisionsSent := 2, viewFlag := true } }

def unheard : State :=
  atBoundary { running with
    timeBase := { running.timeBase with heardNow := some 3, goodAge := some 1, timeAge := 9 } }

def silentPeer : State :=
  atBoundary { running with
    peers := { running.peers with
      entries := [{ address := 9, state := .silent, silentCount := 2, next := none, order := none, lastHeard := 0 },
        { address := 10, state := .fresh, silentCount := 1, next := some [run1], order := some 1, lastHeard := 1 }] } }

def oldUpstream : State :=
  atBoundary { running with peers := { running.peers with upstream := { temperature := some 400, age := 2 } } }

def oldDownstream : State :=
  atBoundary { running with peers := { running.peers with downstream := { temperature := some (-500), age := 2 } } }

def oldLine : State :=
  atBoundary { running with peers := { running.peers with line := { state := .flowing, source := some 3, age := 23 } } }

def sagging : State := atBoundary { running with placement := { running.placement with sagCount := 1 } }

def cfgFlow : Settings := { cfg with flowSensing := true }

def reporting : State :=
  atBoundary { station cfgFlow .running .active with
    peers := { running.peers with flow := { running.peers.flow with confirmed := some .flowing, changeCycle := 7, periodCount := 15 } } }

def offering (s : State) : State := { s with ring := { s.ring with mailbox := .offered } }

/-- A demand point with zone 1 tracking, and line and zones such that zone 2 has been HOLDING. -/
def demanding : State :=
  beforeSlot 8 (withZone 1 (fun x => { x with source := some .holding, holdCount := 2, mode := some .regulating })
    (withZone 0 (fun x => { x with mode := some .regulating, acc := 1000 })
      { running with
        scanner := { running.scanner with
          control := running.scanner.control.set 4 { Channel.reset with state := .tracking, filtered := some 480 } } }))

def announced1 : Announced := { runs := [run2, run1], order := 3, revision := 0 }

def freezing : State :=
  beforeSlot 28 { running with
    placement := { running.placement with
      announced := some announced1, orderCounter := 3
      map := [{ source := .own, order := 3, runs := [run2, run1], ration := none },
        { source := .peer 9, order := 2, runs := [{ run1 with zone := 4, start := 0, length := 3, load := 40 }], ration := none }] }
    peers := { running.peers with
      entries := [{ address := 9, state := .fresh, silentCount := 0, next := some [], order := some 2, lastHeard := 1 }] } }

def statusDueState : State :=
  beforeSlot 30 { running with
    supervisor := { running.supervisor with periodCount := 3 }, queue := { running.queue with refusalMark := true } }

/-- The count of a sensor at 120.0 degrees. -/
def hot : BitVec 16 := 47907#16

/-- A scan is complete, zone 2 is STUCK_ON and the gates are on. -/
def scanning : State :=
  withZone 1 (fun x => { x with condition := .stuckOn, permit := false })
    { heating running with scanner := { running.scanner with scanDue := true } }

/-- A window that was open, with gate 1 on throughout and gate 2 changed. -/
def window1 : Window :=
  { ends := 2, slot := 4, cycle := 0, level := (Six.fill false).set 0 true, changed := (Six.fill false).set 1 true }

def measuring : State :=
  withZone 0 (fun x => { x with openCount := 2, mode := some .regulating })
    (withZone 2 (fun x => { x with stuckCount := 1 })
      (withZone 3 (fun x => { x with stuckCount := 1, condition := .tripped, permit := false })
        { heating running with scanner := { running.scanner with windowDue := some window1 } }))

/-- The window of `measuring` still open, its completion first. -/
def measuringEarly : State :=
  { measuring with scanner := { measuring.scanner with windowDue := none, window := some window1 } }

def measuringHeld : State := { measuring with supervisor := { measuring.supervisor with station := .held } }

def faulted : State :=
  withZone 0 (fun x => { x with condition := .tripped, permit := false, tc := some 99 })
    (withZone 1 (fun x => { x with condition := .openFault, permit := false, tc := some 100 })
      (withZone 2 (fun x => { x with condition := .stuckOn, permit := false })
        { running with
          scanner := { running.scanner with
            limiter := running.scanner.limiter.set 0 { Channel.reset with state := .tracking, filtered := some 999 }
            zones := running.scanner.zones.set 2 { Measurement.reset with load := some 0 } } }))

def zoneWarm : Zone := { Zone.resetIn .normal with mode := some .regulating, source := some .own, tc := some 480, acc := 1000 }

/-- Zones 1 and 2 to be placed for demands 6 and 4, zone 3 STUCK_ON, and a peer in slots 0 to 9. -/
def comp1 : Computation where
  budget := 60
  others := [{ source := .peer 9, order := 1, runs := [{ run1 with start := 0, length := 10, load := 45 }], ration := none }]
  zones := ((Six.fill { stuck := false, placed := false, demand := 0, deficit := 0, load := 12, stuckLoad := 12, surcharge := 9, continues := false }
    |>.set 0 { stuck := false, placed := true, demand := 6, deficit := 100, load := 12, stuckLoad := 12, surcharge := 9, continues := true })
    |>.set 1 { stuck := false, placed := true, demand := 4, deficit := 200, load := 20, stuckLoad := 20, surcharge := 30, continues := false })
    |>.set 2 { stuck := true, placed := false, demand := 0, deficit := 0, load := 12, stuckLoad := 7, surcharge := 9, continues := false }

def computing1 : State := running.setPlacement { running.placement with computation := some comp1 }

def computingQuiet : State := { computing1 with link := { computing1.link with state := .detached } }

def computingSame : State :=
  computing1.setPlacement { computing1.placement with
    announced := some { runs := (computeResult cfg comp1).runs, order := 4, revision := 1 } }

def placeBytes1 : List Byte := placeBytes 1 0 false false false (some 300) none [run2]

def placeEntry (up : Bool) : QueueEntry where
  source := if up then 4 else 9
  group := 2
  payload := placeBytes1
  routes := { placement := true, upstream := up, downstream := false, line := false }
  order := some 4
  target := some 1

def lineEntry : QueueEntry where
  source := 9
  group := 7
  payload := [2, 0, 0, 0]
  routes := { placement := false, upstream := false, downstream := false, line := true }
  order := none
  target := none

def queued (e : QueueEntry) (s : State) : State := s.setQueue { s.queue with entries := [e, lineEntry] }

/-- Twenty entries stand. -/
def fullTable (s : State) : State :=
  { s with
    peers := { s.peers with
      entries := (List.range 20).map fun i =>
        { address := 20 + i, state := .silent, silentCount := 0, next := none, order := none, lastHeard := 0 } } }

def knownPeer (s : State) : State :=
  { s with
    peers := { s.peers with
      entries := [{ address := 9, state := .silent, silentCount := 1, next := none, order := none, lastHeard := 0 }] } }

/-- An announced placement in the announce window with a peer that leaves no room for `run2`. -/
def crowded (revision : Nat) : State :=
  queued (placeEntry false) { running with
    timeBase := { running.timeBase with takenSlot := 12, position := 100 }
    placement := { running.placement with
      announced := some { runs := [{ run1 with start := 0, load := 45 }], order := 5, revision := revision }
      map := [{ source := .own, order := 5, runs := [{ run1 with start := 0, load := 45 }], ration := none }] } }

def listening : State := station cfg .listening .listenOnly

def idle (n : Nat) (s : State) : State := { s with link := { s.link with tracking := .idle n } }

def detached (run count : Nat) : State :=
  { running with link := { running.link with state := .detached, tec := 193, recv := 4, quietRun := run, quietCount := count } }

def passive (s : State) : State := { s with link := { s.link with state := .passive, tec := 100, recv := 2 } }

def reception1 : Reception := Reception.opened

def lineBits : List Bool := lineFrame 1 9 7 [1, 0, 0, 0]

def placeBits : List Bool := lineFrame 2 4 2 placeBytes1

def badLineBits : List Bool := lineFrame 1 9 7 [3, 0, 0, 0]

def frameOf (kind source group : Nat) (payload : List Byte) : Frame where
  kind := kind
  source := source
  group := group
  length := payload.length
  payload := payload

def locked (s : State) : State := s.setQueue { s.queue with entries := [lineEntry, lineEntry, lineEntry, lineEntry] }

/-- A TIME frame of station 3, cycle 12, slot 2, mains index 5: its sender stands at position 21. -/
def timeBytes1 : List Byte := timeBytes 12 2 5 8 .hz50

def timeBits : List Bool := lineFrame 0 3 2 timeBytes1

def stamp1 : Timestamp := { cycle := 12, position := 18 }

def timing (s : State) : State :=
  let r := receiving s
  { r with timeBase := { r.timeBase with position := 19, takenSlot := 2, cycle := 12, reference := some 3, timestamp := some stamp1 } }

/-- The same from another position and taken slot. -/
def timingAt (position taken : Nat) (s : State) : State :=
  { timing s with timeBase := { (timing s).timeBase with position := position, takenSlot := taken } }

/-- A PLACE READY at the head, a STATUS behind it. -/
def loaded (s : State) : State :=
  s.setRing (fillRing .status (List.replicate 24 0) (fillRing .place placeBytes1 s.ring))

def clashing : State := receiving (offering (loaded running))

def statusBits5 : List Bool := lineFrame 3 5 2 (List.replicate 24 0)

def attempt1 : Attempt := { sent := sentBits 0 5 2 timeBytes1, samples := [] }

def sendingTime : State :=
  { running with
    ring := { running.ring with mailbox := .started }
    link := { running.link with inHand := some .mailbox, attempt := some attempt1, tracking := .inFrame 0, tec := 5 } }

def timeSent : List Bool := (sentBits 0 5 2 timeBytes1).map SentBit.level ++ false :: List.replicate 7 true

def attempt2 : Attempt := { sent := sentBits 3 5 2 (List.replicate 24 0), samples := [] }

/-- A STATUS SENDING at the head, its attempt on the line after some failures. -/
def sendingStatus (failures : Nat) : State :=
  { running with
    ring := setDescriptor (fillRing .status (List.replicate 24 0) running.ring) 0
      { readyDescriptor .status (List.replicate 24 0) with state := .sending }
    link := { running.link with
      inHand := some .ring, attempt := some attempt2, tracking := .inFrame 0, tec := 92
      ringTries := { count := failures, noAck := true } } }

def statusSent : List Bool := (sentBits 3 5 2 (List.replicate 24 0)).map SentBit.level

def image1 : List Byte :=
  let body : List Byte := [5, 2, 4, 6, 1, 8] ++ u16Bytes 60 ++ u16Bytes 100 ++ [32, 3] ++ u16Bytes 0 ++ u16Bytes 400 ++ u16Bytes 20 ++
    u16Bytes 10 ++ [15, 2] ++ u16Bytes 2300 ++ [85, 2, 3, 2, 10, 24, 4, 1, 50, 3, 5, 30] ++ u16Bytes 100 ++ u16Bytes 1000 ++
    ([1, 1, 1, 1, 1, 0].flatMap fun e => [e, 12] ++ u16Bytes 1100 ++ u16Bytes 900 ++ [4, 2] ++ u16Bytes 500 ++ [4, 2]) ++
    List.replicate 14 0
  body ++ u16Bytes (imageCheck body).toNat

/-- The image with an address out of range and its check right. -/
def image2 : List Byte := image1.set 0 0 |>.take 126 |> fun b => b ++ u16Bytes (imageCheck b).toNat

def inReset (k : ResetKinds) (complete : Bool) (image : List Byte) : State :=
  { State.reset with
    resets := k, loader := { State.reset.loader with complete := complete, retained := image }
    supervisor := { State.reset.supervisor with contactorLatch := true } }

def dip : ResetKinds := { ResetKinds.clear with supplyDip := true }

def waiting (run n : Nat) : State :=
  { State.reset with
    loader := { State.reset.loader with state := .settled, settled := some cfg, complete := true }
    link := { State.reset.link with loopback := .waiting run n }, holdPin := true }

/-- The own reject burst is on the line. -/
def rejecting (left : Nat) : State := { running with link := { running.link with tracking := .rejecting left } }

/-- The bit timing at a quantum. -/
def clockAt (quantum : Nat) (driving resynced : Bool) (s : State) : State :=
  { s with link := { s.link with
    clock := { unit := 0, quantum := quantum, resynced := resynced, driving := driving } } }

def looping : State := { waiting 0 0 with link := { (waiting 0 0).link with loopback := .sending (testFrame cfg) } }

def configFault : State := { State.reset with supervisor := { State.reset.supervisor with station := .configFault } }

/-- A sensing station that has sampled a change of level once. -/
def changing (x : StationState) (l : LinkState) : State :=
  beforeSlot 5 { station cfgFlow x l with
    peers := { running.peers with
      flow := { running.peers.flow with
        confirmed := some .standing, candidate := some .flowing, candidateCount := 1, periodCount := 3 } } }

/-- A sensing station at the end of its join, with a confirmed level. -/
def joiningFlow (clash : Bool) : State :=
  { joining with
    loader := (station cfgFlow .listening .listenOnly).loader
    link := { joining.link with clash := clash }
    peers := { joining.peers with flow := { joining.peers.flow with confirmed := some .standing, candidate := some .flowing } } }

/-- A sensing station that cannot send, its line state as old as a report may be. -/
def oldOwnLine : State :=
  { reporting with
    link := { reporting.link with state := .detached }
    peers := { reporting.peers with line := { state := .standing, source := some 3, age := 23 } } }

/-- The freeze with a silent entry, a STUCK_ON zone and demands handed. -/
def freezingSilent : State :=
  withZone 2 (fun x => { x with condition := .stuckOn, permit := false })
    { freezing with
      placement := { freezing.placement with handed := some (Six.fill { demand := 7, deficit := 10, tc := none }) }
      peers := { freezing.peers with
        entries := [{ address := 9, state := .silent, silentCount := 1, next := none, order := none, lastHeard := 1 }] } }

/-- The freeze of a working placement that was not announced, its last frame unacknowledged. -/
def freezingQuiet (entries : List Entry) : State :=
  { freezing with
    placement := { freezing.placement with
      announced := none, working := some { runs := [run2, run1], curtailed := [] }, lastFailure := some .noAck
      map := [{ source := .own, order := 256, runs := [run2, run1], ration := none }] }
    peers := { freezing.peers with entries := entries } }

/-- The payload of a producer's frame. -/
def bytesOf (p : Producer) : List Byte :=
  match p with
  | .place => placeBytes1
  | .line => [2, 7, 128, 0]
  | .status => List.replicate 24 0

/-- The attempt of a producer's frame. -/
def attemptOf (p : Producer) : Attempt := { sent := sentBits (producerKind p) 5 2 (bytesOf p), samples := [] }

/-- The levels of a producer's frame. -/
def levelsOf (p : Producer) : List Bool := (attemptOf p).sent.map SentBit.level

/-- A frame of a producer SENDING at the head, its attempt on the line after some failures. -/
def sendingAs (p : Producer) (failures tec : Nat) (s : State) : State :=
  { s with
    ring := setDescriptor (fillRing p (bytesOf p) s.ring) 0 { readyDescriptor p (bytesOf p) with state := .sending }
    link := { s.link with
      inHand := some .ring, attempt := some (attemptOf p), tracking := .inFrame 0, tec := tec
      ringTries := { count := failures, noAck := true } } }

/-- The own PLACE frame at the head is requested. -/
def requesting (s : State) : State :=
  { s with placement := { s.placement with request := .queued 0, requestRuns := [run2], requestRevision := 1, orderCounter := 3 } }

/-- The cancel of the own PLACE frame at the head is recorded. -/
def cancelling (s : State) : State :=
  { s with
    placement := { s.placement with request := .cancelRecorded 0 }
    ring := setDescriptor s.ring 0 { headDescriptor s.ring with cancel := true } }

/-- Between two attempts. -/
def betweenAttempts (s : State) : State := { s with link := { s.link with attempt := none, tracking := .idle 0 } }

def revising : State :=
  let s := requesting (sendingAs .place 0 0 freezing)
  { s with placement := { s.placement with requestRuns := [run2, { run1 with length := 3 }] } }

def freezingComputing : State := { freezing with placement := { freezing.placement with computation := some comp1 } }

/-- The freeze with the unit's request WAITING behind a LINE request. -/
def freezingWaiting : State :=
  { freezing with
    placement := { freezing.placement with request := .waiting }
    ring := { (List.replicate 6 [1, 0, 0, 0]).foldl (fun r b => fillRing .line b r) freezing.ring with
      waiting := [{ producer := .line, payload := [1, 0, 0, 0] }, { producer := .place, payload := placeBytes1 }] } }

def freezingHead : State :=
  { freezing with ring := fillRing .place placeBytes1 freezing.ring, placement := { freezing.placement with request := .queued 0 } }

def freezingBehind : State :=
  { freezing with
    ring := fillRing .place placeBytes1 (fillRing .line [1, 0, 0, 0] freezing.ring)
    placement := { freezing.placement with request := .queued 1 } }

/-- The freeze while the first frame of a placement is on the line. -/
def firstOnLine : State := requesting (sendingAs .place 0 0 (freezingQuiet freezing.peers.entries))

/-- An unannounced placement in the announce window, about to yield to the PLACE at the head of the queue. -/
def yielding : State :=
  { crowded 0 with
    placement := { (crowded 0).placement with
      announced := none
      map := [{ source := .own, order := 256, runs := [{ run1 with start := 0, load := 45 }], ration := none }] } }

def yieldingWaiting : State :=
  { yielding with
    placement := { yielding.placement with request := .waiting, announced := some announced1 }
    ring := { yielding.ring with
      waiting := [{ producer := .line, payload := [1, 0, 0, 0] }, { producer := .place, payload := placeBytes1 }] } }

def yieldingBehind : State :=
  let s := sendingAs .status 0 0 yielding
  { s with ring := fillRing .place placeBytes1 s.ring, placement := { s.placement with request := .queued 1 } }

def yieldingHead : State :=
  { yielding with
    ring := fillRing .place placeBytes1 yielding.ring, placement := { yielding.placement with request := .queued 0 } }

def yieldingSending : State := requesting (sendingAs .place 0 0 yielding)

/-- A computation whose result a peer has overtaken, with an own PLACE completion held at the head. -/
def holding : State :=
  { computing1 with
    timeBase := { computing1.timeBase with takenSlot := 12, position := 100 }
    placement := { computing1.placement with
      map := [{ source := .peer 9, order := 1, runs := [{ run1 with start := 0, length := 32, load := 60, surcharge := 0 }], ration := none }] }
    link := { computing1.link with state := .detached }
    ring := setDescriptor (fillRing .place placeBytes1 computing1.ring) 0
      { readyDescriptor .place placeBytes1 with state := .doneFail, reason := some .detached } }

/-- The same with a link that sends. -/
def holdingActive : State := { holding with link := computing1.link }

/-- A ring of six LINE frames. -/
def fullRing (s : State) : State :=
  { s with ring := (List.replicate 6 [1, 0, 0, 0]).foldl (fun r b => fillRing .line b r) s.ring }

/-- A full ring, with a LINE request and the unit's own waiting. -/
def waitingPlace : State :=
  let s := fullRing running
  { s with
    placement := { s.placement with request := .waiting }
    ring := { s.ring with waiting := yieldingWaiting.ring.waiting } }

def computingRevision : State := computing1.setPlacement { computing1.placement with announced := some announced1 }

/-- The entry of a PLACE on the upstream boundary route alone. -/
def boundaryEntry : QueueEntry :=
  { placeEntry true with group := 3, routes := { placement := false, upstream := true, downstream := false, line := false } }

/-- Station 4 stood in the own group, with a placement. -/
def movedPeer : State :=
  queued boundaryEntry { running with
    peers := { running.peers with
      entries := [{ address := 4, state := .fresh, silentCount := 0, next := some [run1], order := some 2, lastHeard := 1 }] } }

/-- A PLACE READY at the head while the line is idle. -/
def readyToSend (n : Nat) : State := idle n (loaded running)

/-- A LINE frame on the line whose report the confirmed level has or has not left behind. -/
def sendingLine (confirmed : FlowLevel) : State :=
  let s := sendingAs .line 1 4 running
  { s with
    peers := { s.peers with
      flow := { s.peers.flow with confirmed := some confirmed, carried := some .standing, request := .queued, changeCycle := 7 } } }

/-- A LINE frame at its fourth attempt. -/
def failingLine (confirmed : FlowLevel) : State :=
  let s := sendingLine confirmed
  { s with link := { s.link with ringTries := { count := 3, noAck := false } } }

/-! ### Worked examples of the manual -/

theorem test_sample_example : sampleOf 39125#16 = .inRange 504 := by decide +kernel

theorem test_sample_short : sampleOf 25000#16 = .short := by decide +kernel

theorem test_sample_open : sampleOf 60000#16 = .opened := by decide +kernel

/-- The control channel of the example: `rate_limit` 50, `filter_shift` 2. -/
def cfgChannel : Settings := { cfg with rateLimit := 50, filterShift := 2 }

/-- The channel before slot s1. -/
def channel : Channel :=
  { state := .tracking, fault := .none, filtered := some 501, seed := none, good := 0, rejections := 0, changed := false }

/-- Samples in the order the scans bring them. -/
def sampled (l : List Int) : Channel := l.foldl (fun c t => channelStep cfgChannel (.inRange t) c) channel

theorem test_filter_truncates_toward_zero : (sampled [510, 498]).filtered = some 502 := by decide +kernel

theorem test_third_rejection_faults : sampled [510, 498, 620, 625, 630] =
    { channel with state := .faulted, fault := .rate, filtered := none, changed := true } := by decide +kernel

theorem test_recovery_seed_is_replaced :
    (sampled [510, 498, 620, 625, 630, 632, 700]).seed = some 700 := by decide +kernel

theorem test_recovery_and_filter :
    (sampled [510, 498, 620, 625, 630, 632, 700, 704, 708]).filtered = some 705 := by decide +kernel

theorem test_measured_loads : [(1250, 2300), (3, 2300), (0, 2300), (1250, 1900)].map (fun p => measuredLoad cfg p.1 p.2) =
    [29, 1, 0, 24] := by decide +kernel

theorem test_measured_load_is_capped : measuredLoad { cfg with luWatts := 50 } 6000 2400 = 255 := by decide +kernel

theorem test_voltage_classes : [1955, 1954, 1380, 1379].map (voltageClassOf cfg) = [.normal, .sag, .sag, .collapse] := by
  decide +kernel

/-- The six cycles of one zone: kp 40, ki 96, target 500, `min_run` 3. -/
def bank2 : Bank := { target := 500, kp := 40, ki := 96 }

/-- The demand point of a cycle at a temperature, the zone listed or not. -/
def demandAt (tc : Int) (listed : Bool) (x : Zone) : Zone :=
  normalDemand cfg bank2 (500 - tc) { x with tc := some tc, curtailed := listed }

/-- Before cycle 100. -/
def zone100 : Zone :=
  { Zone.resetIn .normal with mode := some .regulating, source := some .own, acc := 2560, demand := 14, lastDemand := 14 }

theorem test_demand_cycles_100_to_102 :
    ((demandAt 463 false zone100).acc, (demandAt 463 false zone100).demand) = (2782, 17) ∧
    ((demandAt 470 true (demandAt 463 false zone100)).acc, (demandAt 470 true (demandAt 463 false zone100)).demand) =
      (2782, 16) ∧
    ((demandAt 525 false (demandAt 470 true (demandAt 463 false zone100))).acc,
      (demandAt 525 false (demandAt 470 true (demandAt 463 false zone100))).demand) = (2632, 6) := by decide +kernel

/-- Before cycle 104. -/
def zone104 : Zone := { zone100 with acc := 2392, demand := 3, lastDemand := 3 }

theorem test_demand_cycles_104_and_105 :
    ((demandAt 545 false zone104).acc, (demandAt 545 false zone104).demand) = (2122, 0) ∧
    ((demandAt 530 false (demandAt 545 false zone104)).acc, (demandAt 530 false (demandAt 545 false zone104)).demand) =
      (2122, 4) := by decide +kernel

theorem test_minimum_run_is_raised :
    ((demandAt 497 false { zone100 with acc := 100 }).acc, (demandAt 497 false { zone100 with acc := 100 }).demand) = (118, 3) ∧
    integralStep (-5) 10 = -3 := by decide +kernel

theorem test_cold_start_ends_at_the_floor_and_twenty :
    let c := { cfg with coldFloor := 50, warmPreset := 4096 }
    let x := { zone100 with mode := some Mode.coldStart, acc := 0, lastDemand := 32, tc := some 72 }
    ((normalDemand c bank2 428 x).mode, (normalDemand c bank2 428 x).acc, (normalDemand c bank2 428 x).demand) =
      (some .regulating, 4096, 32) := by decide +kernel

theorem test_inrush_and_surcharge :
    (inrushMultiplier cfg (some 150), surchargeOf 29 23, surchargeOf 30 23) = (23, 55, 57) := by decide +kernel

/-- A zone to place. -/
def want (demand : Nat) (deficit : Int) (load surcharge : Nat) (continues : Bool) : ZoneInput :=
  { stuck := false, placed := true, demand := demand, deficit := deficit, load := load, stuckLoad := load, surcharge := surcharge,
    continues := continues }

/-- A zone with nothing to place. -/
def idleZone : ZoneInput :=
  { stuck := false, placed := false, demand := 0, deficit := 0, load := 0, stuckLoad := 0, surcharge := 0, continues := false }

/-- One peer's runs at an order. -/
def peerRuns (a order : Nat) (runs : List Run) : Contribution :=
  { source := .peer a, order := order, runs := runs, ration := none }

/-- A run without the stuck mark. -/
def runAt (zone start length load surcharge : Nat) : Run :=
  { zone := zone, start := start, length := length, load := load, surcharge := surcharge, stuck := false }

/-- Peers A and B of the search example. -/
def peersAB : List Contribution := [peerRuns 20 1 [runAt 1 0 16 120 0], peerRuns 21 2 [runAt 1 10 16 60 0]]

/-- Zones 2 and 5 of the search example. -/
def zones25 : Six ZoneInput := ((Six.fill idleZone).set 1 (want 17 350 29 55 false)).set 4 (want 6 80 40 0 false)

theorem test_search_example :
    (computeResult cfg { budget := 200, others := peersAB, zones := zones25 }).runs =
      [runAt 2 16 17 29 55, runAt 5 28 6 40 0] := by decide +kernel

theorem test_search_example_revised :
    (computeResult cfg { budget := 200, others := peersAB ++ [peerRuns 22 3 [runAt 1 31 4 50 0]], zones := zones25 }).runs =
      [runAt 2 16 17 29 55, runAt 5 3 6 40 0] := by decide +kernel

theorem test_shed_example :
    shed 200 5 (setRation { cfg with ration := 10 } (peersAB ++ [peerRuns 22 3 [runAt 1 31 4 50 0]]) 23)
        [runAt 2 16 17 29 55, runAt 5 3 6 40 0] = [runAt 2 16 16 29 55, runAt 5 3 6 40 0] := by decide +kernel

theorem test_third_cold_station_leaves_zone_two :
    let w := computeResult { cfg with address := 19 }
      { budget := 100
        others := [peerRuns 4 1 [runAt 1 1 6 30 57, runAt 2 7 6 30 57], peerRuns 14 2 [runAt 1 13 6 30 57, runAt 2 19 6 30 57]]
        zones := ((Six.fill idleZone).set 0 (want 6 350 30 57 false)).set 1 (want 6 350 30 57 false) }
    (w.runs, w.curtailed) = ([runAt 1 25 6 30 57], [2]) := by decide +kernel

theorem test_derated_search :
    (computeResult cfg
      { budget := 170
        others := []
        zones := (((Six.fill idleZone).set 0 (want 12 300 60 0 false)).set 1 (want 12 200 60 0 false)).set 2
          (want 12 100 60 0 false) }).runs = [runAt 1 8 12 60 0, runAt 2 13 12 60 0, runAt 3 20 12 60 0] := by decide +kernel

theorem test_continuing_zone_starts_at_zero :
    (computeResult cfg
      { budget := 200
        others := []
        zones := (((Six.fill idleZone).set 0 (want 12 300 60 0 false)).set 1 (want 12 200 60 0 false)).set 2
          (want 12 100 60 0 true) }).runs = [runAt 1 8 12 60 0, runAt 2 13 12 60 0, runAt 3 0 12 60 0] := by decide +kernel

theorem test_overflow_example_sheds_zone_one :
    shed 130 5 [peerRuns 9 1 [runAt 1 0 16 100 0], peerRuns 14 2 [runAt 1 8 16 40 0],
        { source := .peer 17, order := 0, runs := [], ration := some 10 }] [runAt 1 16 6 29 55, runAt 6 17 6 40 0] =
      [runAt 6 17 6 40 0] := by decide +kernel

theorem test_correction_of_minus_two :
    correctionOf cfg { cycle := 412, slot := 16, mainsIndex := 1, slotLen := 8, frequency := 50 } { cycle := 412, position := 131 } =
      { phase := -2, offset := 0 } := by decide +kernel

theorem test_large_error_moves_by_the_limit :
    movePosition cfg 131 (boundedMove cfg 5) = 133 ∧ movePosition cfg 129 (boundedMove cfg (-3)) = 127 := by decide +kernel

theorem test_frame_checks :
    [frameValid (frameOf 2 4 3 (List.replicate 14 0 |>.set 1 3)), frameValid (frameOf 2 20 3 ([102, 0] ++ List.replicate 4 0)),
      frameValid (frameOf 1 12 3 [3, 0, 0, 0]), frameValid (frameOf 2 11 3 ([101, 1] ++ List.replicate 8 0))] =
      [false, true, false, false] := by decide +kernel

/-- A TRACKING channel at a temperature. -/
def trackingAt (t : Int) : Channel := { Channel.reset with state := .tracking, filtered := some t }

/-- The station of the two failed sensors: zone 4 DISABLED, the downstream record valid with 455. -/
def twoFailed : Six Zone :=
  let c := { cfg with zones := (Six.fill zone).set 3 { zone with enabled := false } }
  let sc := { running.scanner with control := ((Six.fill Channel.reset).set 0 (trackingAt 480)).set 2 (trackingAt 470) }
  Six.ofFn fun z => selectSource c sc BoundaryRecord.reset { temperature := some 455, age := 1 } z (running.zones.get z)

theorem test_two_failed_sensors :
    [0, 1, 2, 4, 5].map (fun z => ((twoFailed.get z).source, (twoFailed.get z).tc)) =
      [(some .own, some 480), (some .substitute, some 450), (some .own, some 470), (some .substitute, some 440),
        (some .substitute, some 425)] := by decide +kernel

/-- A window of the stuck SSR: zone 5, rated 30, its gate on or off throughout, a load read. -/
def stuckWindow (on : Bool) (load : Nat) (s : State) : State :=
  let c := { cfg with zones := Six.fill { zone with ratedLu := 30 } }
  let m : Measurement := { Measurement.reset with gate := some (if on then .on else .off), load := some load }
  let r : Run := { zone := 5, start := 4, length := 6, load := 29, surcharge := 0, stuck := false }
  heaterTests c { s with
    scanner := { s.scanner with zones := s.scanner.zones.set 4 m, voltageClass := some .normal }
    placement := { s.placement with current := [r] } } 4

theorem test_stuck_finding_after_two_windows :
    let first := stuckWindow false 27 (stuckWindow true 27 (stuckWindow true 28 running))
    let second := stuckWindow false 26 first
    let third := stuckWindow false 26 second
    [first, second, third].map (fun s => ((s.zones.get 4).stuckCount, (s.zones.get 4).followsRun, (s.zones.get 4).condition)) =
      [(0, false, .normal), (1, false, .normal), (0, false, .stuckOn)] := by decide +kernel

theorem test_full_table_uses_the_row :
    let t := recordPlacement 41 [run1] 2 189 (recordPlacement 30 [run2] 1 189 (fullTable running).peers)
    (t.entries.length, t.row.map RowSet.address, (t.entries.filter fun e => e.state = .fresh).map Entry.address, peerCount t) =
      (20, [41], [30], 21) := by decide +kernel

theorem test_failed_attempt_of_a_lonely_station :
    (after (.attemptEnd (.sampled (statusSent ++ [true]))) (passive (sendingStatus 0))).link.tec = 100 ∧
    (after (.attemptEnd (.sampled (statusSent ++ [true]))) (sendingStatus 0)).link.state = .passive := by decide +kernel
/-- Meets the hypotheses of StepRunsTheFrontCommand. -/
theorem witness_step_runs_the_front_command :
    (running.setPending [.tripClearEdge, .dispatch]).pending = (.tripClearEdge : Instr) :: ([.dispatch] : List Instr) := by decide +kernel

/-- Meets the hypotheses of StepRunsTheFrontCommand. -/
theorem witness_step_idles_on_an_empty_queue :
    running.pending = [] := by decide +kernel

/-- Meets the hypotheses of ResetAndConfigFaultTakeNoEvent. -/
theorem witness_reset_in_progress_freezes_the_blocks :
    resetInProgress (inReset dip true []) = true ∧
    beginsReset (.dispatch : Instr) = false ∧
    (.dispatch : Instr) ≠ .resetEnd ∧
    ((∀ b : Bool, (.dispatch : Instr) ≠ .hold b)) := by
  refine ⟨?_, ?_, ?_, ?_⟩ <;> decide +kernel

/-- Meets the hypotheses of ResetAndConfigFaultTakeNoEvent. -/
theorem witness_config_fault_takes_no_event :
    resetInProgress configFault = false ∧
    configFault.supervisor.station = .configFault ∧
    beginsReset (.lineIdle (.sampled [true]) : Instr) = false := by
  refine ⟨?_, ?_, ?_⟩ <;> decide +kernel

/-- Meets the hypotheses of ResetAndConfigFaultTakeNoEvent. -/
theorem witness_config_fault_takes_no_event_hold :
    resetInProgress configFault = false ∧
    configFault.supervisor.station = .configFault ∧
    beginsReset (.hold true : Instr) = false := by
  refine ⟨?_, ?_, ?_⟩ <;> decide +kernel

/-- Meets the hypotheses of CrossingCountsBySource. -/
theorem witness_early_crossing_is_ignored :
    (seen running).timeBase.crossingSeen = true ∧
    (9999 : Nat) < (match (seen running).timeBase.mainsClass with | .hz50 => 10000 | .hz60 => 8350) := by
  refine ⟨?_, ?_⟩ <;> decide +kernel

/-- Meets the hypotheses of CrossingCountsBySource. -/
theorem witness_early_crossing_is_ignored_sixty :
    sixty.timeBase.crossingSeen = true ∧
    (8349 : Nat) < (match sixty.timeBase.mainsClass with | .hz50 => 10000 | .hz60 => 8350) := by
  refine ⟨?_, ?_⟩ <;> decide +kernel

/-- Meets the hypotheses of CrossingCountsBySource. -/
theorem witness_oscillator_crossing_only_counts :
    monitoring (onOscillator 3 running) = true ∧
    crossingIgnored (20000 : Nat) (onOscillator 3 running).timeBase = false ∧
    (onOscillator 3 running).timeBase.source = .oscillator ∧
    (onOscillator 3 running).timeBase.run ≠ 7 := by
  refine ⟨?_, ?_, ?_, ?_⟩ <;> decide +kernel

/-- Meets the hypotheses of CrossingCountsBySource. -/
theorem witness_oscillator_crossing_only_counts_recovering :
    monitoring (recovering (onOscillator 6 running)) = true ∧
    crossingIgnored (20000 : Nat) (recovering (onOscillator 6 running)).timeBase = false ∧
    (recovering (onOscillator 6 running)).timeBase.source = .oscillator ∧
    (recovering (onOscillator 6 running)).timeBase.run ≠ 7 := by
  refine ⟨?_, ?_, ?_, ?_⟩ <;> decide +kernel

/-- Meets the hypotheses of CrossingCountsBySource. -/
theorem witness_mains_crossing_advances_the_position :
    activeSettings (seen running) = some cfg ∧
    crossingIgnored (18199 : Nat) (seen running).timeBase = false ∧
    (seen running).timeBase.source = .mains ∧
    1 ≤ cfg.slotLen ∧
    (seen running).timeBase.position + 1 < 32 * cfg.slotLen ∧
    ((seen running).timeBase.position + 1) / cfg.slotLen = (seen running).timeBase.position / cfg.slotLen := by
  refine ⟨?_, ?_, ?_, ?_, ?_, ?_⟩ <;> decide +kernel

/-- Meets the hypotheses of CrossingCountsBySource. -/
theorem witness_mains_crossing_advances_the_position_first :
    activeSettings (recovering running) = some cfg ∧
    crossingIgnored (18200 : Nat) (recovering running).timeBase = false ∧
    (recovering running).timeBase.source = .mains ∧
    1 ≤ cfg.slotLen ∧
    (recovering running).timeBase.position + 1 < 32 * cfg.slotLen ∧
    ((recovering running).timeBase.position + 1) / cfg.slotLen = (recovering running).timeBase.position / cfg.slotLen := by
  refine ⟨?_, ?_, ?_, ?_, ?_, ?_⟩ <;> decide +kernel

/-- Meets the hypotheses of EighthCrossingReturnsAndRecovers. -/
theorem witness_eighth_crossing_returns_to_mains :
    monitoring (onOscillator 7 running) = true ∧
    crossingIgnored (20000 : Nat) (onOscillator 7 running).timeBase = false ∧
    (onOscillator 7 running).timeBase.source = .oscillator ∧
    (onOscillator 7 running).timeBase.run = 7 := by
  refine ⟨?_, ?_, ?_, ?_⟩ <;> decide +kernel

/-- Meets the hypotheses of EighthCrossingReturnsAndRecovers. -/
theorem witness_eighth_crossing_returns_to_mains_starting :
    monitoring (onOscillator 7 State.reset) = true ∧
    crossingIgnored (20000 : Nat) (onOscillator 7 State.reset).timeBase = false ∧
    (onOscillator 7 State.reset).timeBase.source = .oscillator ∧
    (onOscillator 7 State.reset).timeBase.run = 7 := by
  refine ⟨?_, ?_, ?_, ?_⟩ <;> decide +kernel

/-- Meets the hypotheses of LossAndOscillatorKeepTimeWithoutMains. -/
theorem witness_loss_of_zero_cross_stops_heating :
    monitoring (heating running) = true := by decide +kernel

/-- Meets the hypotheses of LossAndOscillatorKeepTimeWithoutMains. -/
theorem witness_loss_of_zero_cross_stops_heating_boundary :
    monitoring stepping = true := by decide +kernel

/-- Meets the hypotheses of LossAndOscillatorKeepTimeWithoutMains. -/
theorem witness_loss_of_zero_cross_stops_heating_oscillator :
    monitoring (heating (onOscillator 2 running)) = true := by decide +kernel

/-- Meets the hypotheses of LossAndOscillatorKeepTimeWithoutMains. -/
theorem witness_loss_of_zero_cross_stops_heating_starting :
    monitoring (State.reset) = true := by decide +kernel

/-- Meets the hypotheses of EighthCrossingReturnsAndRecovers. -/
theorem witness_eighth_good_crossing_clears_the_mark :
    monitoring (recovering (seen running)) = true ∧
    crossingIgnored (20000 : Nat) (recovering (seen running)).timeBase = false ∧
    (recovering (seen running)).supervisor.mainsLost = true ∧
    (recovering (seen running)).supervisor.recovery = 7 ∧
    (recovering (seen running)).scanner.voltageClass = some .normal := by
  refine ⟨?_, ?_, ?_, ?_, ?_⟩ <;> decide +kernel

/-- Meets the hypotheses of EighthCrossingReturnsAndRecovers. -/
theorem witness_eighth_good_crossing_clears_the_mark_oscillator :
    monitoring (recovering (onOscillator 2 running)) = true ∧
    crossingIgnored (20000 : Nat) (recovering (onOscillator 2 running)).timeBase = false ∧
    (recovering (onOscillator 2 running)).supervisor.mainsLost = true ∧
    (recovering (onOscillator 2 running)).supervisor.recovery = 7 ∧
    (recovering (onOscillator 2 running)).scanner.voltageClass = some .normal := by
  refine ⟨?_, ?_, ?_, ?_, ?_⟩ <;> decide +kernel

/-- Meets the hypotheses of CycleBoundaryMovesTheStation. -/
theorem witness_join_end_enters_running :
    BoundaryDue cfg joining ∧
    CrossingDue (20000 : Nat) joining ∧
    joining.supervisor.station = .listening ∧
    cfg.joinCycles ≤ 16 ∧
    cfg.joinCycles ≤ joining.supervisor.joinCount + 1 ∧
    joining.supervisor.mainsLost = false := by
  refine ⟨⟨?_, ?_, ?_, ?_⟩, ⟨?_, ?_, ?_⟩, ?_, ?_, ?_, ?_⟩ <;> decide +kernel

/-- Meets the hypotheses of CycleBoundaryMovesTheStation. -/
theorem witness_join_end_enters_running_clash :
    BoundaryDue cfg clashed ∧
    CrossingDue (20000 : Nat) clashed ∧
    clashed.supervisor.station = .listening ∧
    cfg.joinCycles ≤ 16 ∧
    cfg.joinCycles ≤ clashed.supervisor.joinCount + 1 ∧
    clashed.supervisor.mainsLost = false := by
  refine ⟨⟨?_, ?_, ?_, ?_⟩, ⟨?_, ?_, ?_⟩, ?_, ?_, ?_, ?_⟩ <;> decide +kernel

/-- Meets the hypotheses of CycleBoundaryMovesTheStation. -/
theorem witness_cycle_boundary_moves_the_station :
    BoundaryDue cfg holdAsked ∧
    CrossingDue (20000 : Nat) holdAsked := by
  refine ⟨⟨?_, ?_, ?_, ?_⟩, ⟨?_, ?_, ?_⟩⟩ <;> decide +kernel

/-- Meets the hypotheses of CycleBoundaryMovesTheStation. -/
theorem witness_cycle_boundary_moves_the_station_held :
    BoundaryDue cfg stepping ∧
    CrossingDue (20000 : Nat) stepping := by
  refine ⟨⟨?_, ?_, ?_, ?_⟩, ⟨?_, ?_, ?_⟩⟩ <;> decide +kernel

/-- Meets the hypotheses of CycleBoundaryMovesTheStation. -/
theorem witness_cycle_boundary_moves_the_station_mains_lost :
    BoundaryDue cfg mainsBack ∧
    CrossingDue (20000 : Nat) mainsBack := by
  refine ⟨⟨?_, ?_, ?_, ?_⟩, ⟨?_, ?_, ?_⟩⟩ <;> decide +kernel

/-- Meets the hypotheses of SlotEventsSetGatesAndExpireTheOffer. -/
theorem witness_gates_follow_the_current_placement :
    ((BoundaryDue cfg (atBoundary running) ∧ (0 : Nat) = 0) ∨ SlotDue cfg (0 : Nat) (atBoundary running)) ∧
    CrossingDue (20000 : Nat) (atBoundary running) :=
  ⟨.inl ⟨by constructor <;> decide +kernel, rfl⟩,
   by constructor <;> decide +kernel⟩

/-- Meets the hypotheses of SlotEventsSetGatesAndExpireTheOffer. -/
theorem witness_gates_follow_the_current_placement_slot :
    ((BoundaryDue cfg (beforeSlot 1 (heating running)) ∧ (1 : Nat) = 0) ∨ SlotDue cfg (1 : Nat) (beforeSlot 1 (heating running))) ∧
    CrossingDue (20000 : Nat) (beforeSlot 1 (heating running)) :=
  ⟨.inr (by constructor <;> decide +kernel),
   by constructor <;> decide +kernel⟩

/-- Meets the hypotheses of SlotEventsSetGatesAndExpireTheOffer. -/
theorem witness_gates_follow_the_current_placement_last :
    ((BoundaryDue cfg (beforeSlot 31 (heating running)) ∧ (31 : Nat) = 0) ∨ SlotDue cfg (31 : Nat) (beforeSlot 31 (heating running))) ∧
    CrossingDue (20000 : Nat) (beforeSlot 31 (heating running)) :=
  ⟨.inr (by constructor <;> decide +kernel),
   by constructor <;> decide +kernel⟩

/-- Meets the hypotheses of RolloverInstallsTheFrozenPlacement. -/
theorem witness_rollover_installs_the_frozen_placement :
    BoundaryDue cfg frozenState ∧
    CrossingDue (20000 : Nat) frozenState ∧
    UnitsAtRest frozenState := by
  refine ⟨⟨?_, ?_, ?_, ?_⟩, ⟨?_, ?_, ?_⟩, ⟨?_, ?_, ?_⟩⟩ <;> decide +kernel

/-- Meets the hypotheses of CycleBoundaryEndsWhatHasAged. -/
theorem witness_sync_timeout_frees_the_station :
    BoundaryDue cfg unheard ∧
    CrossingDue (20000 : Nat) unheard ∧
    settledState unheard.supervisor.station = true ∧
    unheard.timeBase.sync ≠ .freeRunning ∧
    ((∃ a : Nat, unheard.timeBase.heardNow = some a ∧ a < cfg.address)) ∧
    ((∀ a : Nat, unheard.timeBase.goodAge = some a → 1 ≤ a)) ∧
    cfg.syncTimeout ≤ 255 ∧
    cfg.syncTimeout ≤ unheard.timeBase.timeAge + 1 := by
  refine ⟨⟨?_, ?_, ?_, ?_⟩, ⟨?_, ?_, ?_⟩, ?_, ?_, ?_, ?_, ?_, ?_⟩ <;> decide +kernel

/-- Meets the hypotheses of CycleBoundaryEndsWhatHasAged. -/
theorem witness_rollover_removes_long_silent_entries :
    BoundaryDue cfg silentPeer ∧
    CrossingDue (20000 : Nat) silentPeer ∧
    cfg.silentLimit ≤ 14 ∧
    hasEntry silentPeer.peers (9 : Nat) = true ∧
    ((∀ e ∈ silentPeer.peers.entries, e.address = (9 : Nat) → e.state = .silent ∧ cfg.silentLimit ≤ e.silentCount)) := by
  refine ⟨⟨?_, ?_, ?_, ?_⟩, ⟨?_, ?_, ?_⟩, ?_, ?_, ?_⟩ <;> decide +kernel

/-- Meets the hypotheses of CycleBoundaryEndsWhatHasAged. -/
theorem witness_boundary_records_expire_at_age_three :
    BoundaryDue cfg oldUpstream ∧
    CrossingDue (20000 : Nat) oldUpstream ∧
    ((oldUpstream.peers.upstream.age = 2 ∧ oldUpstream.peers.upstream.temperature.isSome = true) ∨ (oldUpstream.peers.downstream.age = 2 ∧ oldUpstream.peers.downstream.temperature.isSome = true)) := by
  refine ⟨⟨?_, ?_, ?_, ?_⟩, ⟨?_, ?_, ?_⟩, ?_⟩ <;> decide +kernel

/-- Meets the hypotheses of CycleBoundaryEndsWhatHasAged. -/
theorem witness_boundary_records_expire_at_age_three_downstream :
    BoundaryDue cfg oldDownstream ∧
    CrossingDue (20000 : Nat) oldDownstream ∧
    ((oldDownstream.peers.upstream.age = 2 ∧ oldDownstream.peers.upstream.temperature.isSome = true) ∨ (oldDownstream.peers.downstream.age = 2 ∧ oldDownstream.peers.downstream.temperature.isSome = true)) := by
  refine ⟨⟨?_, ?_, ?_, ?_⟩, ⟨?_, ?_, ?_⟩, ?_⟩ <;> decide +kernel

/-- Meets the hypotheses of CycleBoundaryEndsWhatHasAged. -/
theorem witness_line_state_turns_unknown_at_its_timeout :
    BoundaryDue cfg oldLine ∧
    CrossingDue (20000 : Nat) oldLine ∧
    UnitsAtRest oldLine ∧
    cfg.flowSensing = false ∧
    oldLine.peers.line.state ≠ .unknown ∧
    cfg.lineTimeout ≤ 255 ∧
    cfg.lineTimeout ≤ oldLine.peers.line.age + 1 := by
  refine ⟨⟨?_, ?_, ?_, ?_⟩, ⟨?_, ?_, ?_⟩, ⟨?_, ?_, ?_⟩, ?_, ?_, ?_, ?_⟩ <;> decide +kernel

/-- Meets the hypotheses of CycleBoundaryEndsWhatHasAged. -/
theorem witness_sag_response_ends_at_zero :
    BoundaryDue cfg sagging ∧
    CrossingDue (20000 : Nat) sagging ∧
    sagging.placement.sagCount = 1 := by
  refine ⟨⟨?_, ?_, ?_, ?_⟩, ⟨?_, ?_, ?_⟩, ?_⟩ <;> decide +kernel

/-- Meets the hypotheses of PeriodicLineReportIsRequested. -/
theorem witness_periodic_line_report_is_requested :
    BoundaryDue cfgFlow reporting ∧
    CrossingDue (20000 : Nat) reporting ∧
    UnitsAtRest reporting ∧
    cfgFlow.flowSensing = true ∧
    settledState reporting.supervisor.station = true ∧
    linkSends reporting.link.state = true ∧
    reporting.peers.flow.confirmed = some (.flowing : FlowLevel) ∧
    reporting.peers.flow.request = .none ∧
    reporting.peers.flow.periodCount = 15 ∧
    reporting.ring.occupancy < 6 := by
  refine ⟨⟨?_, ?_, ?_, ?_⟩, ⟨?_, ?_, ?_⟩, ⟨?_, ?_, ?_⟩, ?_, ?_, ?_, ?_, ?_, ?_, ?_⟩ <;> decide +kernel

/-- Meets the hypotheses of SlotEventsSetGatesAndExpireTheOffer. -/
theorem witness_offered_time_frame_expires :
    SlotDue cfg (1 : Nat) (beforeSlot 1 (offering running)) ∧
    CrossingDue (20000 : Nat) (beforeSlot 1 (offering running)) ∧
    (beforeSlot 1 (offering running)).ring.mailbox = .offered := by
  refine ⟨⟨?_, ?_, ?_, ?_, ?_⟩, ⟨?_, ?_, ?_⟩, ?_⟩ <;> decide +kernel

/-- Meets the hypotheses of SlotEventsSetGatesAndExpireTheOffer. -/
theorem witness_offered_time_frame_expires_last :
    SlotDue cfg (31 : Nat) (beforeSlot 31 (offering running)) ∧
    CrossingDue (20000 : Nat) (beforeSlot 31 (offering running)) ∧
    (beforeSlot 31 (offering running)).ring.mailbox = .offered := by
  refine ⟨⟨?_, ?_, ?_, ?_, ?_⟩, ⟨?_, ?_, ?_⟩, ?_⟩ <;> decide +kernel

/-- Meets the hypotheses of DemandPointHandsTheDemands. -/
theorem witness_demand_point_hands_the_demands :
    SlotDue cfg 8 demanding ∧
    CrossingDue (20000 : Nat) demanding ∧
    UnitsAtRest demanding ∧
    cfg.flowSensing = false ∧
    demanding.supervisor.station = .running := by
  refine ⟨⟨?_, ?_, ?_, ?_, ?_⟩, ⟨?_, ?_, ?_⟩, ⟨?_, ?_, ?_⟩, ?_, ?_⟩ <;> decide +kernel

/-- Meets the hypotheses of HoldingEndsInFallback. -/
theorem witness_holding_ends_in_fallback :
    SlotDue cfg 8 (demanding.setScanner running.scanner) ∧
    CrossingDue (20000 : Nat) (demanding.setScanner running.scanner) ∧
    (cfg.zone (1 : Index)).enabled = true ∧
    ((demanding.setScanner running.scanner).zones.get (1 : Index)).source = some .holding ∧
    cfg.holdCycles ≤ ((demanding.setScanner running.scanner).zones.get (1 : Index)).holdCount + 1 ∧
    ownTemperature cfg (demanding.setScanner running.scanner).scanner (1 : Index) = none ∧
    originTemperature cfg (demanding.setScanner running.scanner).scanner (demanding.setScanner running.scanner).peers.upstream (demanding.setScanner running.scanner).peers.downstream (1 : Index) = none := by
  refine ⟨⟨?_, ?_, ?_, ?_, ?_⟩, ⟨?_, ?_, ?_⟩, ?_, ?_, ?_, ?_, ?_⟩ <;> decide +kernel

/-- Meets the hypotheses of FreezeSettlesThePlacement. -/
theorem witness_freeze_sheds_the_announced_placement :
    SlotDue cfg 28 freezing ∧
    CrossingDue (20000 : Nat) freezing ∧
    UnitsAtRest freezing ∧
    cfg.flowSensing = false ∧
    settledState freezing.supervisor.station = true ∧
    freezing.placement.announced = some announced1 ∧
    freezing.link.clash = false ∧
    ((∀ e ∈ freezing.peers.entries, e.state = .fresh)) ∧
    ((∀ z : Index, (freezing.zones.get z).condition ≠ .stuckOn)) := by
  refine ⟨⟨?_, ?_, ?_, ?_, ?_⟩, ⟨?_, ?_, ?_⟩, ⟨?_, ?_, ?_⟩, ?_, ?_, ?_, ?_, ?_, ?_⟩ <;> decide +kernel

/-- Meets the hypotheses of StatusPointRequestsTheStatusFrame. -/
theorem witness_status_point_requests_the_status_frame :
    SlotDue cfg 30 statusDueState ∧
    CrossingDue (20000 : Nat) statusDueState ∧
    UnitsAtRest statusDueState ∧
    cfg.flowSensing = false ∧
    settledState statusDueState.supervisor.station = true ∧
    linkSends statusDueState.link.state = true ∧
    (statusDueState.supervisor.changeMark = true ∨ cfg.statusPeriod ≤ min 255 (statusDueState.supervisor.periodCount + 1)) ∧
    refusesStatus statusDueState.ring = false := by
  refine ⟨⟨?_, ?_, ?_, ?_, ?_⟩, ⟨?_, ?_, ?_⟩, ⟨?_, ?_, ?_⟩, ?_, ?_, ?_, ?_, ?_⟩ <;> decide +kernel

/-- Meets the hypotheses of ScanCompletionTripsHotZones. -/
theorem witness_scan_completion_trips_hot_zones :
    activeSettings scanning = some cfg ∧
    scanning.scanner.scanDue = true := by
  refine ⟨?_, ?_⟩ <;> decide +kernel

/-- Meets the hypotheses of WindowCompletionRecordsAndReports. -/
theorem witness_window_completion_records_and_reports :
    activeSettings measuring = some cfg ∧
    WindowCompletes window1 measuring := by
  refine ⟨?_, .inl ?_⟩ <;> decide +kernel

/-- Meets the hypotheses of WindowCompletionRecordsAndReports. -/
theorem witness_window_completion_records_and_reports_opening :
    activeSettings measuringEarly = some cfg ∧
    WindowCompletes window1 measuringEarly := by
  refine ⟨?_, .inr ⟨?_, ?_, ?_⟩⟩ <;> decide +kernel

/-- Meets the hypotheses of WindowCompletionRecordsAndReports. -/
theorem witness_window_completion_records_and_reports_collapse :
    activeSettings measuringHeld = some cfg ∧
    WindowCompletes window1 measuringHeld := by
  refine ⟨?_, .inl ?_⟩ <;> decide +kernel

/-- Meets the hypotheses of WindowCompletionFindsHeaterFaults. -/
theorem witness_third_low_window_finds_an_open_heater :
    activeSettings measuring = some cfg ∧
    WindowCompletes window1 measuring ∧
    cfg.vNom * 3 ≤ min (1380 : Nat) 5000 * 5 ∧
    (cfg.zone (0 : Index)).enabled = true ∧
    (measuring.zones.get (0 : Index)).condition = .normal ∧
    window1.changed.get (0 : Index) = false ∧
    window1.level.get (0 : Index) = true ∧
    runOf measuring.placement.current (0 : Index) = some run1 ∧
    measuredLoad cfg (min ((Six.fill 0).get (0 : Index)) 6000) (min (1380 : Nat) 5000) * 4 < run1.load ∧
    (measuring.zones.get (0 : Index)).openCount = 2 := by
  refine ⟨?_, .inl ?_, ?_, ?_, ?_, ?_, ?_, ?_, ?_, ?_⟩ <;> decide +kernel

/-- Meets the hypotheses of WindowCompletionFindsHeaterFaults. -/
theorem witness_second_loaded_off_window_finds_a_stuck_heater :
    activeSettings measuring = some cfg ∧
    WindowCompletes window1 measuring ∧
    (cfg.zone (2 : Index)).enabled = true ∧
    window1.changed.get (2 : Index) = false ∧
    window1.level.get (2 : Index) = false ∧
    (cfg.zone (2 : Index)).ratedLu ≤ measuredLoad cfg (min ((Six.fill 1).get (2 : Index)) 6000) (min (2300 : Nat) 5000) * 20 ∧
    (measuring.zones.get (2 : Index)).followsRun = false ∧
    (measuring.zones.get (2 : Index)).stuckCount = 1 := by
  refine ⟨?_, .inl ?_, ?_, ?_, ?_, ?_, ?_, ?_⟩ <;> decide +kernel

/-- Meets the hypotheses of WindowCompletionFindsHeaterFaults. -/
theorem witness_second_loaded_off_window_finds_a_stuck_heater_tripped :
    activeSettings measuring = some cfg ∧
    WindowCompletes window1 measuring ∧
    (cfg.zone (3 : Index)).enabled = true ∧
    window1.changed.get (3 : Index) = false ∧
    window1.level.get (3 : Index) = false ∧
    (cfg.zone (3 : Index)).ratedLu ≤ measuredLoad cfg (min ((Six.fill 1).get (3 : Index)) 6000) (min (2300 : Nat) 5000) * 20 ∧
    (measuring.zones.get (3 : Index)).followsRun = false ∧
    (measuring.zones.get (3 : Index)).stuckCount = 1 := by
  refine ⟨?_, .inl ?_, ?_, ?_, ?_, ?_, ?_, ?_⟩ <;> decide +kernel

/-- Meets the hypotheses of TripClearReleasesZones. -/
theorem witness_trip_clear_releases_zones :
    activeSettings faulted = some cfg := by decide +kernel

/-- Meets the hypotheses of SourceIsSelectedInOrder. -/
theorem witness_source_is_selected_in_order :
    (cfg.zone (4 : Index)).enabled = true := by decide +kernel

/-- Meets the hypotheses of DemandFollowsModeAndSource. -/
theorem witness_regulating_zone_computes_its_demand :
    (cfg.zone (0 : Index)).enabled = true ∧
    zoneWarm.condition = .normal ∧
    zoneWarm.mode = some .regulating ∧
    (zoneWarm.source = some .own ∨ zoneWarm.source = some .substitute) ∧
    zoneWarm.tc = some (480 : Int) := by
  refine ⟨?_, ?_, ?_, ?_, ?_⟩ <;> decide +kernel

/-- Meets the hypotheses of DemandFollowsModeAndSource. -/
theorem witness_demand_outside_regulation :
    (cfg.zone (0 : Index)).enabled = true := by decide +kernel

/-- Meets the hypotheses of SearchStaysWithinTheBudget. -/
theorem witness_search_stays_within_the_budget :
    (14 : Nat) < 32 ∧
    ((∀ x ∈ comp1.others, x.source ≠ .own)) ∧
    ((∃ r ∈ (computeResult cfg comp1).runs, r.stuck = false ∧ r.covers (14 : Nat) = true)) := by
  refine ⟨?_, ?_, ?_⟩ <;> decide +kernel

/-- Meets the hypotheses of ComputedRunsKeepToTheirDemands. -/
theorem witness_computed_runs_keep_to_their_demands :
    1 ≤ cfg.minRun ∧
    ((∀ z : Index, (comp1.zones.get z).placed = true → 1 ≤ (comp1.zones.get z).demand)) := by
  refine ⟨?_, ?_⟩ <;> decide +kernel

/-- Meets the hypotheses of ComputedRunsKeepToTheirDemands. -/
theorem witness_search_takes_the_first_that_fits :
    (∀ x ∈ comp1.others, x.source ≠ .own) ∧
    (comp1.zones.get 0).placed = true ∧
    (comp1.zones.get 0).stuck = false ∧
    (∃ r ∈ (computeResult cfg comp1).runs, r.zone = (0 : Index).val + 1) := by
  refine ⟨?_, ?_, ?_, ?_⟩ <;> decide +kernel

/-- Meets the hypotheses of ComputedRunsKeepToTheirDemands. -/
theorem witness_search_finds_no_run :
    (∀ x ∈ ({ comp1 with budget := 10 } : Computation).others, x.source ≠ .own) ∧
    (({ comp1 with budget := 10 } : Computation).zones.get 0).placed = true ∧
    (({ comp1 with budget := 10 } : Computation).zones.get 0).stuck = false ∧
    (∀ r ∈ (computeResult cfg { comp1 with budget := 10 }).runs, r.zone ≠ (0 : Index).val + 1) := by
  refine ⟨?_, ?_, ?_, ?_⟩ <;> decide +kernel

/-- Meets the hypotheses of SheddingMeetsTheFreezeLimit. -/
theorem witness_shedding_meets_the_freeze_limit :
    (([run2, run1] : List Run).map Run.zone).Nodup := by decide +kernel

/-- Meets the hypotheses of SheddingMeetsTheFreezeLimit. -/
theorem witness_shedding_cuts_in_order :
    (([stuckRun 2 7, run2, run1] : List Run).map Run.zone).Nodup ∧
    (∀ k : Nat, k < 32 → ownLatest (setOwn [stuckRun 2 7, run2, run1] 3 []) k = true → cellTotal (setOwn [stuckRun 2 7, run2, run1] 3 []) k ≤ 60) ∧
    shed 25 3 [] [stuckRun 2 7, run2, run1] ≠ [stuckRun 2 7, run2, run1] := by
  refine ⟨?_, ?_, ?_⟩ <;> decide +kernel

/-- Zone 1 stands in slots 30 to 1 and zone 2 in slots 0 to 5, in that order of placement: with a limit of 25 the last run that covers slot 0,
of zone 1, is cut there, to its slots 30 and 31 (R91). -/
theorem test_shed_cuts_the_last_run : shed 25 3 [] [run2, run1] = [run2, { run1 with length := 2 }] := by decide +kernel

/-- Meets the hypotheses of ComputationDecidesTheRequest. -/
theorem witness_computation_requests_its_placement :
    activeSettings computing1 = some cfg ∧
    computing1.placement.computation = some comp1 ∧
    linkSends computing1.link.state = true ∧
    computing1.placement.announced = none ∧
    computing1.placement.request = .none ∧
    computing1.ring.occupancy < 6 ∧
    ((headDescriptor computing1.ring).state = .free ∨ (headDescriptor computing1.ring).state = .ready ∨ (headDescriptor computing1.ring).state = .sending) ∧
    yieldFails cfg (setOwn (computeResult cfg comp1).runs Config.ownOrder computing1.placement.map) = false := by
  refine ⟨?_, ?_, ?_, ?_, ?_, ?_, ?_, ?_⟩ <;> decide +kernel

/-- Meets the hypotheses of ComputationDecidesTheRequest. -/
theorem witness_computation_may_request_nothing :
    activeSettings computingQuiet = some cfg ∧
    computingQuiet.placement.computation = some comp1 ∧
    computingQuiet.placement.request = .none ∧
    (headDescriptor computingQuiet.ring).state = .free := by
  refine ⟨?_, ?_, ?_, ?_⟩ <;> decide +kernel

/-- Meets the hypotheses of ComputationDecidesTheRequest. -/
theorem witness_computation_may_request_nothing_same :
    activeSettings computingSame = some cfg ∧
    computingSame.placement.computation = some comp1 ∧
    computingSame.placement.request = .none ∧
    (headDescriptor computingSame.ring).state = .free := by
  refine ⟨?_, ?_, ?_, ?_⟩ <;> decide +kernel

/-- Meets the hypotheses of DispatchDeliversItsEntry. -/
theorem witness_dispatched_line_is_adopted :
    activeSettings (queued lineEntry running) = some cfg ∧
    (queued lineEntry running).placement.computation = none ∧
    (queued lineEntry running).queue.entries = lineEntry :: ([lineEntry] : List QueueEntry) ∧
    lineEntry.order = none := by
  refine ⟨?_, ?_, ?_, ?_⟩ <;> decide +kernel

/-- Meets the hypotheses of DispatchDeliversItsEntry. -/
theorem witness_off_cycle_place_is_discarded :
    activeSettings (queued { placeEntry false with target := some 2 } running) = some cfg ∧
    (queued { placeEntry false with target := some 2 } running).placement.computation = none ∧
    (queued { placeEntry false with target := some 2 } running).queue.entries = ({ placeEntry false with target := some 2 } : QueueEntry) :: ([lineEntry] : List QueueEntry) ∧
    ({ placeEntry false with target := some 2 } : QueueEntry).order = some (4 : Nat) ∧
    ({ placeEntry false with target := some 2 } : QueueEntry).target = some (2 : Byte) ∧
    (2 : Byte) ≠ ((queued { placeEntry false with target := some 2 } running).timeBase.cycle + 1).setWidth 8 := by
  refine ⟨?_, ?_, ?_, ?_, ?_, ?_⟩ <;> decide +kernel

/-- Meets the hypotheses of DispatchDeliversItsEntry. -/
theorem witness_dispatched_place_is_recorded :
    activeSettings (queued (placeEntry true) running) = some cfg ∧
    (queued (placeEntry true) running).placement.computation = none ∧
    (queued (placeEntry true) running).queue.entries = (placeEntry true) :: ([lineEntry] : List QueueEntry) ∧
    (placeEntry true).order = some (4 : Nat) ∧
    (placeEntry true).target = some (((queued (placeEntry true) running).timeBase.cycle + 1).setWidth 8) ∧
    (placeEntry true).routes.placement = true ∧
    (placeEntry true).source ≠ cfg.address ∧
    yieldFails cfg (setPeer (placeEntry true).source (placePayload (placeEntry true).payload).runs (4 : Nat) (queued (placeEntry true) running).placement.map) = false := by
  refine ⟨?_, ?_, ?_, ?_, ?_, ?_, ?_, ?_⟩ <;> decide +kernel

/-- Meets the hypotheses of DispatchDeliversItsEntry. -/
theorem witness_dispatched_place_is_recorded_known :
    activeSettings (queued (placeEntry false) (knownPeer running)) = some cfg ∧
    (queued (placeEntry false) (knownPeer running)).placement.computation = none ∧
    (queued (placeEntry false) (knownPeer running)).queue.entries = (placeEntry false) :: ([lineEntry] : List QueueEntry) ∧
    (placeEntry false).order = some (4 : Nat) ∧
    (placeEntry false).target = some (((queued (placeEntry false) (knownPeer running)).timeBase.cycle + 1).setWidth 8) ∧
    (placeEntry false).routes.placement = true ∧
    (placeEntry false).source ≠ cfg.address ∧
    yieldFails cfg (setPeer (placeEntry false).source (placePayload (placeEntry false).payload).runs (4 : Nat) (queued (placeEntry false) (knownPeer running)).placement.map) = false := by
  refine ⟨?_, ?_, ?_, ?_, ?_, ?_, ?_, ?_⟩ <;> decide +kernel

/-- Meets the hypotheses of DispatchDeliversItsEntry. -/
theorem witness_dispatched_place_is_recorded_full :
    activeSettings (queued (placeEntry false) (fullTable running)) = some cfg ∧
    (queued (placeEntry false) (fullTable running)).placement.computation = none ∧
    (queued (placeEntry false) (fullTable running)).queue.entries = (placeEntry false) :: ([lineEntry] : List QueueEntry) ∧
    (placeEntry false).order = some (4 : Nat) ∧
    (placeEntry false).target = some (((queued (placeEntry false) (fullTable running)).timeBase.cycle + 1).setWidth 8) ∧
    (placeEntry false).routes.placement = true ∧
    (placeEntry false).source ≠ cfg.address ∧
    yieldFails cfg (setPeer (placeEntry false).source (placePayload (placeEntry false).payload).runs (4 : Nat) (queued (placeEntry false) (fullTable running)).placement.map) = false := by
  refine ⟨?_, ?_, ?_, ?_, ?_, ?_, ?_, ?_⟩ <;> decide +kernel

/-- Meets the hypotheses of YieldAnswersWithARevision. -/
theorem witness_yield_answers_with_a_revision :
    activeSettings (crowded 2) = some cfg ∧
    (crowded 2).placement.computation = none ∧
    (crowded 2).queue.entries = (placeEntry false) :: ([lineEntry] : List QueueEntry) ∧
    (placeEntry false).order = some (4 : Nat) ∧
    (placeEntry false).target = some (((crowded 2).timeBase.cycle + 1).setWidth 8) ∧
    (placeEntry false).routes.placement = true ∧
    (placeEntry false).source ≠ cfg.address ∧
    (crowded 2).supervisor.station = .running ∧
    8 ≤ (crowded 2).timeBase.takenSlot ∧
    (crowded 2).timeBase.takenSlot < 28 ∧
    (crowded 2).placement.request = .none ∧
    (crowded 2).placement.announced = some ({ runs := [{ run1 with start := 0, load := 45 }], order := 5, revision := 2 } : Announced) ∧
    yieldFails cfg (setPeer (placeEntry false).source (placePayload (placeEntry false).payload).runs (4 : Nat) (crowded 2).placement.map) = true := by
  refine ⟨?_, ?_, ?_, ?_, ?_, ?_, ?_, ?_, ?_, ?_, ?_, ?_, ?_⟩ <;> decide +kernel

/-- Meets the hypotheses of YieldAnswersWithARevision. -/
theorem witness_yield_answers_with_a_revision_last :
    activeSettings (crowded 3) = some cfg ∧
    (crowded 3).placement.computation = none ∧
    (crowded 3).queue.entries = (placeEntry false) :: ([lineEntry] : List QueueEntry) ∧
    (placeEntry false).order = some (4 : Nat) ∧
    (placeEntry false).target = some (((crowded 3).timeBase.cycle + 1).setWidth 8) ∧
    (placeEntry false).routes.placement = true ∧
    (placeEntry false).source ≠ cfg.address ∧
    (crowded 3).supervisor.station = .running ∧
    8 ≤ (crowded 3).timeBase.takenSlot ∧
    (crowded 3).timeBase.takenSlot < 28 ∧
    (crowded 3).placement.request = .none ∧
    (crowded 3).placement.announced = some ({ runs := [{ run1 with start := 0, load := 45 }], order := 5, revision := 3 } : Announced) ∧
    yieldFails cfg (setPeer (placeEntry false).source (placePayload (placeEntry false).payload).runs (4 : Nat) (crowded 3).placement.map) = true := by
  refine ⟨?_, ?_, ?_, ?_, ?_, ?_, ?_, ?_, ?_, ?_, ?_, ?_, ?_⟩ <;> decide +kernel

/-- Meets the hypotheses of FrameSentIsFrameReceived. -/
theorem witness_frame_sent_is_frame_received :
    (7 : Nat) < 8 ∧
    (63 : Nat) < 64 ∧
    (15 : Nat) < 16 ∧
    (List.replicate 63 (255 : Byte)).length < 64 := by
  refine ⟨?_, ?_, ?_, ?_⟩ <;> decide +kernel

/-- Meets the hypotheses of PayloadsReadBack. -/
theorem witness_place_payload_reads_back :
    (3 : Nat) ≤ 3 ∧
    ([{ run1 with length := 32, load := 255, surcharge := 255 }, run2] : List Run).length ≤ 6 ∧
    ((∀ t : Int, (some (-500) : Option Int) = some t → inTemperatureRange t)) ∧
    ((∀ t : Int, (some 2000 : Option Int) = some t → inTemperatureRange t)) ∧
    ((∀ r ∈ ([{ run1 with length := 32, load := 255, surcharge := 255 }, run2] : List Run), 1 ≤ r.zone ∧ r.zone ≤ 6 ∧ r.start < 32 ∧ 1 ≤ r.length ∧ r.length ≤ 32 ∧ 1 ≤ r.load ∧ r.load ≤ 255 ∧ r.surcharge ≤ 255 ∧ r.stuck = false)) :=
  ⟨by decide +kernel,
   by decide +kernel,
   by rintro t ⟨⟩; simp [inTemperatureRange],
   by rintro t ⟨⟩; simp [inTemperatureRange],
   by decide +kernel⟩

/-- Meets the hypotheses of StatusPayloadLayout. -/
theorem witness_status_payload_layout :
    (detached 3 4).link.tec ≤ 255 ∧
    (detached 3 4).link.recv ≤ 255 ∧
    (detached 3 4).queue.overflow ≤ 255 ∧
    peerCount (detached 3 4).peers ≤ 62 ∧
    (detached 3 4).placement.revisionsBefore ≤ 3 := by
  refine ⟨?_, ?_, ?_, ?_, ?_⟩ <;> decide +kernel

/-- Meets the hypotheses of LineIsSampledByItsBitTiming. -/
theorem witness_steady_bits_are_sampled_whole :
    running.loader.settled = some cfg ∧
    (2 : Nat) = (if cfg.bitRate = 0 then 4 else if cfg.bitRate = 1 then 2 else 1) ∧
    running.link.clock.quantum = 0 ∧
    running.link.clock.unit = 0 ∧
    (Instr.lineIdle : Line → Instr) = .lineIdle := by
  refine ⟨?_, ?_, ?_, ?_, rfl⟩ <;> decide +kernel

/-- Meets the hypotheses of LineIsSampledByItsBitTiming. -/
theorem witness_own_start_bit_sets_the_timing :
    activeSettings (readyToSend 0) = some cfg ∧
    (2 : Nat) = (if cfg.bitRate = 0 then 4 else if cfg.bitRate = 1 then 2 else 1) ∧
    (readyToSend 0).link.tracking = .idle (0 : Nat) ∧
    (((readyToSend 0).link.state = .active ∧ 3 ≤ (0 : Nat) + (3 : Nat)) ∨ ((readyToSend 0).link.state = .passive ∧ 11 ≤ (0 : Nat) + (3 : Nat))) ∧
    ((readyToSend 0).ring.mailbox ≠ .empty ∨ ((headDescriptor (readyToSend 0).ring).producer ≠ none ∧
      ((headDescriptor (readyToSend 0).ring).state = .ready ∨ (headDescriptor (readyToSend 0).ring).state = .sending))) := by
  refine ⟨?_, ?_, ?_, ?_, ?_⟩ <;> decide +kernel

/-- Meets the hypotheses of LineIsSampledByItsBitTiming. -/
theorem witness_late_edge_resynchronises :
    activeSettings (clockAt 13 false false (receiving running)) = some cfg ∧
    (2 : Nat) = (if cfg.bitRate = 0 then 4 else if cfg.bitRate = 1 then 2 else 1) ∧
    (clockAt 13 false false (receiving running)).link.reception = some reception1 ∧
    (clockAt 13 false false (receiving running)).link.attempt = none ∧
    rxFrame reception1.bits = .incomplete ∧
    (clockAt 13 false false (receiving running)).link.clock.quantum = 13 ∧
    (13 : Nat) < 20 ∧
    (clockAt 13 false false (receiving running)).link.clock.unit = 0 ∧
    (clockAt 13 false false (receiving running)).link.clock.driving = false ∧
    (clockAt 13 false false (receiving running)).link.clock.resynced = false := by
  refine ⟨?_, ?_, ?_, ?_, ?_, ?_, ?_, ?_, ?_, ?_⟩ <;> decide +kernel

/-- Meets the hypotheses of LineIsSampledByItsBitTiming. -/
theorem witness_early_edge_resynchronises :
    activeSettings (clockAt 14 false false (receiving running)) = some cfg ∧
    (2 : Nat) = (if cfg.bitRate = 0 then 4 else if cfg.bitRate = 1 then 2 else 1) ∧
    (clockAt 14 false false (receiving running)).link.reception = some reception1 ∧
    (clockAt 14 false false (receiving running)).link.attempt = none ∧
    rxFrame reception1.bits = .incomplete ∧
    (clockAt 14 false false (receiving running)).link.clock.quantum = 14 ∧
    (14 : Nat) < 20 ∧
    (clockAt 14 false false (receiving running)).link.clock.unit = 0 ∧
    (clockAt 14 false false (receiving running)).link.clock.driving = false ∧
    (clockAt 14 false false (receiving running)).link.clock.resynced = false := by
  refine ⟨?_, ?_, ?_, ?_, ?_, ?_, ?_, ?_, ?_, ?_⟩ <;> decide +kernel

/-- Meets the hypotheses of LineIsSampledByItsBitTiming. -/
theorem witness_early_edge_begins_the_next_bit :
    activeSettings (clockAt 18 false false (receiving running)) = some cfg ∧
    (2 : Nat) = (if cfg.bitRate = 0 then 4 else if cfg.bitRate = 1 then 2 else 1) ∧
    (clockAt 18 false false (receiving running)).link.reception = some reception1 ∧
    (clockAt 18 false false (receiving running)).link.attempt = none ∧
    rxFrame reception1.bits = .incomplete ∧
    (clockAt 18 false false (receiving running)).link.clock.quantum = 18 ∧
    (18 : Nat) < 20 ∧
    (clockAt 18 false false (receiving running)).link.clock.unit = 0 ∧
    (clockAt 18 false false (receiving running)).link.clock.driving = false ∧
    (clockAt 18 false false (receiving running)).link.clock.resynced = false := by
  refine ⟨?_, ?_, ?_, ?_, ?_, ?_, ?_, ?_, ?_, ?_⟩ <;> decide +kernel

/-- Meets the hypotheses of LineIsSampledByItsBitTiming. -/
theorem witness_second_edge_is_not_taken :
    activeSettings (clockAt 13 false true (receiving running)) = some cfg ∧
    (2 : Nat) = (if cfg.bitRate = 0 then 4 else if cfg.bitRate = 1 then 2 else 1) ∧
    (clockAt 13 false true (receiving running)).link.reception = some reception1 ∧
    (clockAt 13 false true (receiving running)).link.attempt = none ∧
    rxFrame reception1.bits = .incomplete ∧
    (clockAt 13 false true (receiving running)).link.clock.quantum = 13 ∧
    (13 : Nat) < 20 ∧
    (clockAt 13 false true (receiving running)).link.clock.unit = 0 ∧
    (1 : Nat) ≤ 13 ∧
    (clockAt 13 false true (receiving running)).link.clock.resynced = true := by
  refine ⟨?_, ?_, ?_, ?_, ?_, ?_, ?_, ?_, ?_, ?_⟩ <;> decide +kernel

/-- Meets the hypotheses of LineIsSampledByItsBitTiming. -/
theorem witness_edge_of_a_driven_bit_is_not_taken :
    activeSettings (clockAt 19 true false (receiving running)) = some cfg ∧
    (2 : Nat) = (if cfg.bitRate = 0 then 4 else if cfg.bitRate = 1 then 2 else 1) ∧
    (clockAt 19 true false (receiving running)).link.reception = some reception1 ∧
    (clockAt 19 true false (receiving running)).link.attempt = none ∧
    rxFrame reception1.bits = .incomplete ∧
    (clockAt 19 true false (receiving running)).link.clock.quantum = 19 ∧
    (19 : Nat) < 20 ∧
    (clockAt 19 true false (receiving running)).link.clock.unit = 0 ∧
    (1 : Nat) ≤ 19 ∧
    (clockAt 19 true false (receiving running)).link.clock.driving = true := by
  refine ⟨?_, ?_, ?_, ?_, ?_, ?_, ?_, ?_, ?_, ?_⟩ <;> decide +kernel

/-- Meets the hypotheses of LineIsSampledByItsBitTiming. -/
theorem witness_first_quantum_of_a_bit :
    activeSettings (clockAt 0 false false (receiving running)) = some cfg ∧
    (2 : Nat) = (if cfg.bitRate = 0 then 4 else if cfg.bitRate = 1 then 2 else 1) ∧
    (clockAt 0 false false (receiving running)).link.reception = some reception1 ∧
    (clockAt 0 false false (receiving running)).link.attempt = none ∧
    rxFrame reception1.bits = .incomplete ∧
    (clockAt 0 false false (receiving running)).link.clock.quantum = 0 ∧
    (0 : Nat) < 20 ∧
    (clockAt 0 false false (receiving running)).link.clock.unit = 0 ∧
    (false = true ↔ true = true ∧ true = false ∧ ¬((∃ f : Frame, rxPart reception1.bits = .passed f []) ∧ linkSends (clockAt 0 false false (receiving running)).link.state = true ∧ reception1.mute = false)) := by
  refine ⟨?_, ?_, ?_, ?_, ?_, ?_, ?_, ?_, by simp⟩ <;> decide +kernel

/-- Meets the hypotheses of LineIsSampledByItsBitTiming. -/
theorem witness_edge_aligns_a_waiting_line :
    activeSettings (clockAt 7 false true running) = some cfg ∧
    (2 : Nat) = (if cfg.bitRate = 0 then 4 else if cfg.bitRate = 1 then 2 else 1) ∧
    (clockAt 7 false true running).link.tracking = .waitingIdle 0 ∧
    (clockAt 7 false true running).link.attempt = none ∧
    (clockAt 7 false true running).link.reception = none ∧
    (clockAt 7 false true running).link.clock.quantum = 7 ∧
    (7 : Nat) < 20 ∧
    (clockAt 7 false true running).link.clock.unit = 0 ∧
    (clockAt 7 false true running).link.clock.driving = false := by
  refine ⟨?_, ?_, ?_, ?_, ?_, ?_, ?_, ?_, ?_⟩ <;> decide +kernel

/-- Meets the hypotheses of LineIsSampledByItsBitTiming. -/
theorem witness_edge_aligns_an_idle_line :
    activeSettings (clockAt 0 false true (idle 4 running)) = some cfg ∧
    (2 : Nat) = (if cfg.bitRate = 0 then 4 else if cfg.bitRate = 1 then 2 else 1) ∧
    (clockAt 0 false true (idle 4 running)).link.tracking = .idle 4 ∧
    (clockAt 0 false true (idle 4 running)).link.attempt = none ∧
    (clockAt 0 false true (idle 4 running)).link.reception = none ∧
    (clockAt 0 false true (idle 4 running)).link.clock.quantum = 0 ∧
    (0 : Nat) < 20 ∧
    (clockAt 0 false true (idle 4 running)).link.clock.unit = 0 ∧
    (clockAt 0 false true (idle 4 running)).link.clock.driving = false := by
  refine ⟨?_, ?_, ?_, ?_, ?_, ?_, ?_, ?_, ?_⟩ <;> decide +kernel

/-- Meets the hypotheses of LineIsSampledByItsBitTiming. -/
theorem witness_own_bits_are_known_at_their_edge :
    activeSettings (clockAt 0 false false sendingTime) = some cfg ∧
    (2 : Nat) = (if cfg.bitRate = 0 then 4 else if cfg.bitRate = 1 then 2 else 1) ∧
    (clockAt 0 false false sendingTime).link.attempt = some attempt1 ∧
    (clockAt 0 false false sendingTime).link.reception = none ∧
    txCompare attempt1.sent attempt1.samples = .pending ∧
    (clockAt 0 false false sendingTime).link.clock.quantum = 0 ∧
    (0 : Nat) < 20 ∧
    (clockAt 0 false false sendingTime).link.clock.unit = 0 ∧
    attempt1.sent[attempt1.samples.length]? = some ⟨false, true, false⟩ := by
  refine ⟨?_, ?_, ?_, ?_, ?_, ?_, ?_, ?_, ?_⟩ <;> decide +kernel

/-- Meets the hypotheses of LineIsSampledByItsBitTiming. -/
theorem witness_own_dominant_bit_is_not_resynchronised :
    activeSettings (clockAt 13 true false sendingTime) = some cfg ∧
    (2 : Nat) = (if cfg.bitRate = 0 then 4 else if cfg.bitRate = 1 then 2 else 1) ∧
    (clockAt 13 true false sendingTime).link.attempt = some attempt1 ∧
    (clockAt 13 true false sendingTime).link.reception = none ∧
    txCompare attempt1.sent attempt1.samples = .pending ∧
    (clockAt 13 true false sendingTime).link.clock.quantum = 13 ∧
    (13 : Nat) < 20 ∧
    (clockAt 13 true false sendingTime).link.clock.unit = 0 ∧
    (1 : Nat) ≤ 13 ∧
    (clockAt 13 true false sendingTime).link.clock.driving = true := by
  refine ⟨?_, ?_, ?_, ?_, ?_, ?_, ?_, ?_, ?_, ?_⟩ <;> decide +kernel

/-- Meets the hypotheses of LineIsSampledByItsBitTiming. -/
theorem witness_burst_bits_are_not_resynchronised :
    activeSettings (clockAt 13 true false (rejecting 4)) = some cfg ∧
    (2 : Nat) = (if cfg.bitRate = 0 then 4 else if cfg.bitRate = 1 then 2 else 1) ∧
    (clockAt 13 true false (rejecting 4)).link.tracking = .rejecting 4 ∧
    (clockAt 13 true false (rejecting 4)).link.state = .active ∧
    (clockAt 13 true false (rejecting 4)).link.clock.quantum = 13 ∧
    (13 : Nat) < 20 ∧
    (clockAt 13 true false (rejecting 4)).link.clock.unit = 0 ∧
    ((13 : Nat) = 0 ∨ (clockAt 13 true false (rejecting 4)).link.clock.driving = true) := by
  refine ⟨?_, ?_, ?_, ?_, ?_, ?_, ?_, ?_⟩ <;> decide +kernel

/-- A DETACHED station with a void frame kept past its end, and the bits `past` it. -/
def pastVoid (past : List Bool) : State :=
  clockAt 13 false false { detached 0 0 with link := { (detached 0 0).link with
    tracking := .inFrame 0
    reception := some { bits := lineBits.dropLast ++ false :: past, mute := false, ack := some false } } }

/-- Meets the hypotheses of LineIsSampledByItsBitTiming: the last bit of a void frame. -/
theorem witness_edge_past_a_kept_end :
    activeSettings (pastVoid []) = some cfg ∧ (2 : Nat) = (if cfg.bitRate = 0 then 4 else if cfg.bitRate = 1 then 2 else 1) ∧
    (pastVoid []).link.state = .detached ∧ (pastVoid []).link.tracking = .inFrame 0 ∧ (pastVoid []).link.attempt = none ∧
    (pastVoid []).link.clock = { unit := 0, quantum := 13, resynced := false, driving := false } ∧
    ((pastVoid []).link.reception.map fun rx => rxFrame rx.bits) = some (.void []) := by
  refine ⟨?_, ?_, ?_, ?_, ?_, ?_, ?_⟩ <;> decide +kernel

/-- Meets the hypotheses of LineIsSampledByItsBitTiming: the Start bit of the frame after a void one. -/
theorem witness_edge_past_a_kept_end_in_the_next_frame :
    ((pastVoid (List.replicate 10 true ++ [false])).link.reception.map fun rx => rxFrame rx.bits) =
      some (.void (List.replicate 10 true ++ [false])) := by decide +kernel

/-- An own STATUS frame up to a dominant bit sampled where its Group sends a recessive one. -/
def errorKept (l : LinkState) (tec : Nat) : State :=
  let a : Attempt := { attempt2 with samples := (attempt2.sent.map SentBit.level).take 11 ++ [false] }
  { sendingStatus 0 with link := { (sendingStatus 0).link with state := l, tec := tec, attempt := some a } }

/-- Meets the hypotheses of LineIsSampledByItsBitTiming: an own bit error kept while ACTIVE. -/
theorem witness_kept_bit_error :
    (errorKept .active 91).link.tracking = .inFrame 0 ∧ (errorKept .active 91).link.reception = none ∧
    ((errorKept .active 91).link.attempt.map fun a => txCompare a.sent a.samples) = some (.bitError []) ∧
    (errorKept .active 91).link.state = .active ∧ (errorKept .active 91).link.tec < 92 ∧
    (errorKept .active 91).link.recv < 96 := by
  refine ⟨?_, ?_, ?_, ?_, ?_, ?_⟩ <;> decide +kernel

/-- Meets the hypotheses of LineIsSampledByItsBitTiming: an own bit error kept while PASSIVE. -/
theorem witness_kept_bit_error_passive :
    (errorKept .passive 77).link.tracking = .inFrame 0 ∧ (errorKept .passive 77).link.reception = none ∧
    ((errorKept .passive 77).link.attempt.map fun a => txCompare a.sent a.samples) = some (.bitError []) ∧
    (errorKept .passive 77).link.state = .passive ∧ 77 ≤ (errorKept .passive 77).link.tec ∧
    ((errorKept .passive 77).link.attempt.map fun a => rxFrame a.samples) = some .incomplete := by
  refine ⟨?_, ?_, ?_, ?_, ?_, ?_⟩ <;> decide +kernel

/-- Meets the hypotheses of LineTrackingTakesItsBits. -/
theorem witness_start_bit_stamps_the_frame :
    activeSettings (idle 5 running) = some cfg ∧
    (idle 5 running).link.tracking = .idle (5 : Nat) := by
  refine ⟨?_, ?_⟩ <;> decide +kernel

/-- Meets the hypotheses of LineTrackingTakesItsBits. -/
theorem witness_start_bit_stamps_the_frame_detached :
    activeSettings (idle 5 (detached 3 4)) = some cfg ∧
    (idle 5 (detached 3 4)).link.tracking = .idle (5 : Nat) := by
  refine ⟨?_, ?_⟩ <;> decide +kernel

/-- Meets the hypotheses of LineTrackingTakesItsBits. -/
theorem witness_reject_burst_takes_nothing :
    activeSettings (rejecting 4) = some cfg ∧ (rejecting 4).link.state = .active ∧
      (rejecting 4).link.tracking = .rejecting 4 ∧ ([true, false] : List Bool).length < 4 ∧
      (1 : Nat) ≤ 4 ∧ ([true, false, true, true] : List Bool).length = 4 := by
  refine ⟨?_, ?_, ?_, ?_, ?_, ?_⟩ <;> decide +kernel

/-- Meets the hypotheses of LineTrackingTakesItsBits. -/
theorem witness_ten_recessive_bits_reach_idle :
    activeSettings running = some cfg ∧
    running.link.state ≠ .detached ∧
    running.link.tracking = .waitingIdle (0 : Nat) := by
  refine ⟨?_, ?_, ?_⟩ <;> decide +kernel

/-- Meets the hypotheses of ReceivedFrameIsQueued. -/
theorem witness_received_frame_is_queued :
    activeSettings (receiving running) = some cfg ∧
    (receiving running).link.reception = some reception1 ∧
    rxFrame (reception1.bits ++ lineBits) = .received (frameOf 1 9 7 [1, 0, 0, 0]) [] ∧
    frameValid (frameOf 1 9 7 [1, 0, 0, 0]) = true ∧
    ((frameOf 1 9 7 [1, 0, 0, 0]).kind = 1 ∨ (frameOf 1 9 7 [1, 0, 0, 0]).kind = 2) ∧
    (routesOf cfg (frameOf 1 9 7 [1, 0, 0, 0])).any = true ∧
    (frameOf 1 9 7 [1, 0, 0, 0]).source ≠ cfg.address ∧
    (receiving running).queue.entries.length < 4 ∧
    (receiving running).link.state ≠ .detached := by
  refine ⟨?_, ?_, ?_, ?_, ?_, ?_, ?_, ?_, ?_⟩ <;> decide +kernel

/-- Meets the hypotheses of ReceivedFrameIsQueued. -/
theorem witness_received_frame_is_queued_place :
    activeSettings (receiving (passive running)) = some cfg ∧
    (receiving (passive running)).link.reception = some reception1 ∧
    rxFrame (reception1.bits ++ placeBits) = .received (frameOf 2 4 2 placeBytes1) [] ∧
    frameValid (frameOf 2 4 2 placeBytes1) = true ∧
    ((frameOf 2 4 2 placeBytes1).kind = 1 ∨ (frameOf 2 4 2 placeBytes1).kind = 2) ∧
    (routesOf cfg (frameOf 2 4 2 placeBytes1)).any = true ∧
    (frameOf 2 4 2 placeBytes1).source ≠ cfg.address ∧
    (receiving (passive running)).queue.entries.length < 4 ∧
    (receiving (passive running)).link.state ≠ .detached := by
  refine ⟨?_, ?_, ?_, ?_, ?_, ?_, ?_, ?_, ?_⟩ <;> decide +kernel

/-- Meets the hypotheses of LostAndRefusedFramesAreNoted. -/
theorem witness_locked_queue_discards_the_frame :
    activeSettings (receiving (locked running)) = some cfg ∧
    (receiving (locked running)).link.reception = some reception1 ∧
    rxFrame (reception1.bits ++ lineBits) = .received (frameOf 1 9 7 [1, 0, 0, 0]) [] ∧
    frameValid (frameOf 1 9 7 [1, 0, 0, 0]) = true ∧
    ((frameOf 1 9 7 [1, 0, 0, 0]).kind = 1 ∨ (frameOf 1 9 7 [1, 0, 0, 0]).kind = 2) ∧
    (routesOf cfg (frameOf 1 9 7 [1, 0, 0, 0])).any = true ∧
    (frameOf 1 9 7 [1, 0, 0, 0]).source ≠ cfg.address ∧
    4 ≤ (receiving (locked running)).queue.entries.length := by
  refine ⟨?_, ?_, ?_, ?_, ?_, ?_, ?_, ?_⟩ <;> decide +kernel

/-- Meets the hypotheses of LostAndRefusedFramesAreNoted. -/
theorem witness_locked_queue_discards_the_frame_place :
    activeSettings (receiving (locked (detached 11 63))) = some cfg ∧
    (receiving (locked (detached 11 63))).link.reception = some reception1 ∧
    rxFrame (reception1.bits ++ placeBits) = .received (frameOf 2 4 2 placeBytes1) [] ∧
    frameValid (frameOf 2 4 2 placeBytes1) = true ∧
    ((frameOf 2 4 2 placeBytes1).kind = 1 ∨ (frameOf 2 4 2 placeBytes1).kind = 2) ∧
    (routesOf cfg (frameOf 2 4 2 placeBytes1)).any = true ∧
    (frameOf 2 4 2 placeBytes1).source ≠ cfg.address ∧
    4 ≤ (receiving (locked (detached 11 63))).queue.entries.length := by
  refine ⟨?_, ?_, ?_, ?_, ?_, ?_, ?_, ?_⟩ <;> decide +kernel

/-- Meets the hypotheses of LostAndRefusedFramesAreNoted. -/
theorem witness_refused_frame_reaches_no_block :
    activeSettings (receiving running) = some cfg ∧
    (receiving running).link.reception = some reception1 ∧
    rxFrame (reception1.bits ++ badLineBits) = .received (frameOf 1 9 7 [3, 0, 0, 0]) [] ∧
    frameValid (frameOf 1 9 7 [3, 0, 0, 0]) = false ∧
    (receiving running).link.state ≠ .detached := by
  refine ⟨?_, ?_, ?_, ?_, ?_⟩ <;> decide +kernel

/-- Meets the hypotheses of LostAndRefusedFramesAreNoted. -/
theorem witness_reception_error_is_counted :
    activeSettings (receiving running) = some cfg ∧
    (receiving running).link.reception = some reception1 ∧
    (rxFrame (reception1.bits ++ ([true, true, true, true, true, true, true] : List Bool)) = .stuffError [] ∨ rxFrame (reception1.bits ++ ([true, true, true, true, true, true, true] : List Bool)) = .checkError []) ∧
    (receiving running).link.state ≠ .detached := by
  refine ⟨?_, ?_, ?_, ?_⟩ <;> decide +kernel

/-- Meets the hypotheses of LostAndRefusedFramesAreNoted. -/
theorem witness_reception_error_is_counted_passive :
    activeSettings (receiving (passive running)) = some cfg ∧
    (receiving (passive running)).link.reception = some reception1 ∧
    (rxFrame (reception1.bits ++ (List.replicate 6 false)) = .stuffError [] ∨ rxFrame (reception1.bits ++ (List.replicate 6 false)) = .checkError []) ∧
    (receiving (passive running)).link.state ≠ .detached := by
  refine ⟨?_, ?_, ?_, ?_⟩ <;> decide +kernel

/-- Meets the hypotheses of LostAndRefusedFramesAreNoted. -/
theorem witness_void_frame_changes_no_count :
    activeSettings (receiving running) = some cfg ∧
    (receiving running).link.reception = some Reception.opened ∧
    rxFrame (Reception.opened.bits ++ (lineBits.dropLast ++ [false])) = .void [] ∧
    (receiving running).link.state ≠ .detached ∧
    Reception.opened.ack = none := by
  refine ⟨?_, ?_, ?_, ?_, ?_⟩ <;> decide +kernel

/-- Meets the hypotheses of LostAndRefusedFramesAreNoted. -/
theorem witness_void_frame_changes_no_count_detached :
    activeSettings (receiving (detached 11 63)) = some cfg ∧
    (receiving (detached 11 63)).link.reception = some Reception.opened ∧
    rxFrame (Reception.opened.bits ++ (lineBits.dropLast ++ [false])) = .void [] := by
  refine ⟨?_, ?_, ?_⟩ <;> decide +kernel

/-- Meets the hypotheses of UsedTimeFrameCorrectsThePosition. -/
theorem witness_used_time_frame_is_a_bounded_correction :
    activeSettings (timing running) = some cfg ∧
    settledState (timing running).supervisor.station = true ∧
    (timing running).link.reception = some reception1 ∧
    rxFrame (reception1.bits ++ timeBits) = .received (frameOf 0 3 2 timeBytes1) [] ∧
    frameValid (frameOf 0 3 2 timeBytes1) = true ∧
    (frameOf 0 3 2 timeBytes1).kind = 0 ∧
    (timing running).timeBase.timestamp = some stamp1 ∧
    timeUsed cfg (frameOf 0 3 2 timeBytes1).source (timePayload (frameOf 0 3 2 timeBytes1).payload) (hearAddress cfg (frameOf 0 3 2 timeBytes1).source (timing running).timeBase) = true ∧
    (timing running).link.state ≠ .detached := by
  refine ⟨?_, ?_, ?_, ?_, ?_, ?_, ?_, ?_, ?_⟩ <;> decide +kernel

/-- Meets the hypotheses of UsedTimeFrameCorrectsThePosition. -/
theorem witness_bounded_move_into_the_next_slot :
    activeSettings (timingAt 23 2 running) = some cfg ∧
    settledState (timingAt 23 2 running).supervisor.station = true ∧
    (timingAt 23 2 running).link.reception = some reception1 ∧
    rxFrame (reception1.bits ++ timeBits) = .received (frameOf 0 3 2 timeBytes1) [] ∧
    frameValid (frameOf 0 3 2 timeBytes1) = true ∧
    (frameOf 0 3 2 timeBytes1).kind = 0 ∧
    (timingAt 23 2 running).timeBase.timestamp = some stamp1 ∧
    timeUsed cfg (frameOf 0 3 2 timeBytes1).source (timePayload (frameOf 0 3 2 timeBytes1).payload) (hearAddress cfg (frameOf 0 3 2 timeBytes1).source (timingAt 23 2 running).timeBase) = true ∧
    (timingAt 23 2 running).link.state ≠ .detached ∧
    (3 : Int) = phaseError cfg (((u8At (frameOf 0 3 2 timeBytes1).payload 2 * cfg.slotLen + u8At (frameOf 0 3 2 timeBytes1).payload 3 : Nat) : Int) - stamp1.position) ∧
    (2 : Int) = max (-(cfg.jumpLimit : Int)) (min cfg.jumpLimit 3) ∧
    (0 : Int) < 2 ∧
    (25 : Nat) = (((timingAt 23 2 running).timeBase.position + (2 : Int)) % (32 * cfg.slotLen : Nat)).toNat ∧
    25 / cfg.slotLen ≠ (timingAt 23 2 running).timeBase.position / cfg.slotLen ∧
    25 / cfg.slotLen = ((timingAt 23 2 running).timeBase.takenSlot + 1) % 32 := by
  refine ⟨?_, ?_, ?_, ?_, ?_, ?_, ?_, ?_, ?_, ?_, ?_, ?_, ?_, ?_, ?_⟩ <;> decide +kernel

/-- Meets the hypotheses of UsedTimeFrameCorrectsThePosition. -/
theorem witness_bounded_move_into_slot_0 :
    activeSettings (timingAt 255 31 running) = some cfg ∧
    settledState (timingAt 255 31 running).supervisor.station = true ∧
    (timingAt 255 31 running).link.reception = some reception1 ∧
    rxFrame (reception1.bits ++ timeBits) = .received (frameOf 0 3 2 timeBytes1) [] ∧
    frameValid (frameOf 0 3 2 timeBytes1) = true ∧
    (frameOf 0 3 2 timeBytes1).kind = 0 ∧
    (timingAt 255 31 running).timeBase.timestamp = some stamp1 ∧
    timeUsed cfg (frameOf 0 3 2 timeBytes1).source (timePayload (frameOf 0 3 2 timeBytes1).payload) (hearAddress cfg (frameOf 0 3 2 timeBytes1).source (timingAt 255 31 running).timeBase) = true ∧
    (timingAt 255 31 running).link.state ≠ .detached ∧
    (3 : Int) = phaseError cfg (((u8At (frameOf 0 3 2 timeBytes1).payload 2 * cfg.slotLen + u8At (frameOf 0 3 2 timeBytes1).payload 3 : Nat) : Int) - stamp1.position) ∧
    (2 : Int) = max (-(cfg.jumpLimit : Int)) (min cfg.jumpLimit 3) ∧
    (0 : Int) < 2 ∧
    (1 : Nat) = (((timingAt 255 31 running).timeBase.position + (2 : Int)) % (32 * cfg.slotLen : Nat)).toNat ∧
    1 / cfg.slotLen ≠ (timingAt 255 31 running).timeBase.position / cfg.slotLen ∧
    1 / cfg.slotLen = ((timingAt 255 31 running).timeBase.takenSlot + 1) % 32 := by
  refine ⟨?_, ?_, ?_, ?_, ?_, ?_, ?_, ?_, ?_, ?_, ?_, ?_, ?_, ?_, ?_⟩ <;> decide +kernel

/-- A move of 2 mains cycles from the end of slot 31 is a cycle boundary, with the offset the same frame has made pending (R12, R13). -/
theorem test_bounded_move_is_a_cycle_boundary :
    (after (.frameReceived (.sampled timeBits) false) (timingAt 255 31 running)).timeBase.position = 1 ∧
    (after (.frameReceived (.sampled timeBits) false) (timingAt 255 31 running)).timeBase.takenSlot = 0 ∧
    (after (.frameReceived (.sampled timeBits) false) (timingAt 255 31 running)).timeBase.cycle = 13 := by
  refine ⟨?_, ?_, ?_⟩ <;> decide +kernel

/-- Meets the hypotheses of UsedTimeFrameCorrectsThePosition. -/
theorem witness_used_time_frame_in_listening_is_outright :
    activeSettings (timing listening) = some cfg ∧
    (timing listening).supervisor.station = .listening ∧
    (timing listening).link.reception = some reception1 ∧
    rxFrame (reception1.bits ++ timeBits) = .received (frameOf 0 3 2 timeBytes1) [] ∧
    frameValid (frameOf 0 3 2 timeBytes1) = true ∧
    (frameOf 0 3 2 timeBytes1).kind = 0 ∧
    (timing listening).timeBase.timestamp = some stamp1 ∧
    timeUsed cfg (frameOf 0 3 2 timeBytes1).source (timePayload (frameOf 0 3 2 timeBytes1).payload) (hearAddress cfg (frameOf 0 3 2 timeBytes1).source (timing listening).timeBase) = true ∧
    (timing listening).link.state ≠ .detached ∧
    (phaseError cfg ((senderPosition cfg (timePayload (frameOf 0 3 2 timeBytes1).payload) : Int) - stamp1.position) < aheadToNext cfg (timing listening).timeBase) := by
  refine ⟨?_, ?_, ?_, ?_, ?_, ?_, ?_, ?_, ?_, ?_⟩ <;> decide +kernel

/-- Meets the hypotheses of UsedTimeFrameCorrectsThePosition. -/
theorem witness_outright_move_into_a_later_slot :
    activeSettings (timingAt 22 2 listening) = some cfg ∧
    (timingAt 22 2 listening).supervisor.station = .listening ∧
    (timingAt 22 2 listening).link.reception = some reception1 ∧
    rxFrame (reception1.bits ++ timeBits) = .received (frameOf 0 3 2 timeBytes1) [] ∧
    frameValid (frameOf 0 3 2 timeBytes1) = true ∧
    (frameOf 0 3 2 timeBytes1).kind = 0 ∧
    (timingAt 22 2 listening).timeBase.timestamp = some stamp1 ∧
    timeUsed cfg (frameOf 0 3 2 timeBytes1).source (timePayload (frameOf 0 3 2 timeBytes1).payload) (hearAddress cfg (frameOf 0 3 2 timeBytes1).source (timingAt 22 2 listening).timeBase) = true ∧
    (timingAt 22 2 listening).link.state ≠ .detached ∧
    (3 : Int) = phaseError cfg (((u8At (frameOf 0 3 2 timeBytes1).payload 2 * cfg.slotLen + u8At (frameOf 0 3 2 timeBytes1).payload 3 : Nat) : Int) - stamp1.position) ∧
    (aheadToNext cfg (timingAt 22 2 listening).timeBase : Int) ≤ 3 := by
  refine ⟨?_, ?_, ?_, ?_, ?_, ?_, ?_, ?_, ?_, ?_, ?_⟩ <;> decide +kernel

/-- Meets the hypotheses of UsedTimeFrameCorrectsThePosition. -/
theorem witness_outright_move_into_slot_0 :
    activeSettings (timingAt 254 31 listening) = some cfg ∧
    (timingAt 254 31 listening).supervisor.station = .listening ∧
    (timingAt 254 31 listening).link.reception = some reception1 ∧
    rxFrame (reception1.bits ++ timeBits) = .received (frameOf 0 3 2 timeBytes1) [] ∧
    frameValid (frameOf 0 3 2 timeBytes1) = true ∧
    (frameOf 0 3 2 timeBytes1).kind = 0 ∧
    (timingAt 254 31 listening).timeBase.timestamp = some stamp1 ∧
    timeUsed cfg (frameOf 0 3 2 timeBytes1).source (timePayload (frameOf 0 3 2 timeBytes1).payload) (hearAddress cfg (frameOf 0 3 2 timeBytes1).source (timingAt 254 31 listening).timeBase) = true ∧
    (timingAt 254 31 listening).link.state ≠ .detached ∧
    (3 : Int) = phaseError cfg (((u8At (frameOf 0 3 2 timeBytes1).payload 2 * cfg.slotLen + u8At (frameOf 0 3 2 timeBytes1).payload 3 : Nat) : Int) - stamp1.position) ∧
    (aheadToNext cfg (timingAt 254 31 listening).timeBase : Int) ≤ 3 := by
  refine ⟨?_, ?_, ?_, ?_, ?_, ?_, ?_, ?_, ?_, ?_, ?_⟩ <;> decide +kernel

/-- Meets the hypotheses of AddressClashSilencesTheStation. -/
theorem witness_address_clash_silences_the_station :
    activeSettings clashing = some cfg ∧
    clashing.link.reception = some reception1 ∧
    rxFrame (reception1.bits ++ statusBits5) = .received (frameOf 3 5 2 (List.replicate 24 0)) [] ∧
    frameValid (frameOf 3 5 2 (List.replicate 24 0)) = true ∧
    (frameOf 3 5 2 (List.replicate 24 0)).source = cfg.address ∧
    clashing.link.clash = false ∧
    clashing.ring.waiting = [] := by
  refine ⟨?_, ?_, ?_, ?_, ?_, ?_, ?_⟩ <;> decide +kernel

/-- Meets the hypotheses of ChanceToSendTakesAFrame. -/
theorem witness_chance_takes_the_time_frame_first :
    activeSettings (idle 1 (offering (loaded running))) = some cfg ∧
    (idle 1 (offering (loaded running))).link.tracking = .idle (1 : Nat) ∧
    (((idle 1 (offering (loaded running))).link.state = .active ∧ 3 ≤ (1 : Nat) + (2 : Nat)) ∨ ((idle 1 (offering (loaded running))).link.state = .passive ∧ 11 ≤ (1 : Nat) + (2 : Nat))) ∧
    (idle 1 (offering (loaded running))).ring.mailbox ≠ .empty := by
  refine ⟨?_, ?_, ?_, ?_⟩ <;> decide +kernel

/-- Meets the hypotheses of ChanceToSendTakesAFrame. -/
theorem witness_chance_takes_the_time_frame_first_passive :
    activeSettings (idle 3 (passive (offering running))) = some cfg ∧
    (idle 3 (passive (offering running))).link.tracking = .idle (3 : Nat) ∧
    (((idle 3 (passive (offering running))).link.state = .active ∧ 3 ≤ (3 : Nat) + (8 : Nat)) ∨ ((idle 3 (passive (offering running))).link.state = .passive ∧ 11 ≤ (3 : Nat) + (8 : Nat))) ∧
    (idle 3 (passive (offering running))).ring.mailbox ≠ .empty := by
  refine ⟨?_, ?_, ?_, ?_⟩ <;> decide +kernel

/-- Meets the hypotheses of ChanceToSendTakesAFrame. -/
theorem witness_chance_takes_the_ring_head :
    activeSettings (idle 0 (loaded running)) = some cfg ∧
    (idle 0 (loaded running)).link.tracking = .idle (0 : Nat) := by
  refine ⟨?_, ?_⟩ <;> decide +kernel

/-- Meets the hypotheses of ChanceToSendTakesAFrame. -/
theorem witness_chance_takes_the_ring_head_empty :
    activeSettings (idle 0 running) = some cfg ∧
    (idle 0 running).link.tracking = .idle (0 : Nat) := by
  refine ⟨?_, ?_⟩ <;> decide +kernel

/-- Meets the hypotheses of ChanceToSendTakesAFrame. -/
theorem witness_chance_takes_the_ring_head_early :
    activeSettings (idle 0 (passive (loaded running))) = some cfg ∧
    (idle 0 (passive (loaded running))).link.tracking = .idle (0 : Nat) := by
  refine ⟨?_, ?_⟩ <;> decide +kernel

/-- Meets the hypotheses of ChanceToSendTakesAFrame. -/
theorem witness_chance_takes_the_ring_head_silent :
    activeSettings (idle 0 (detached 0 0)) = some cfg ∧
    (idle 0 (detached 0 0)).link.tracking = .idle (0 : Nat) := by
  refine ⟨?_, ?_⟩ <;> decide +kernel

/-- Meets the hypotheses of SuccessfulAttemptCompletesTheFrame. -/
theorem witness_successful_attempt_completes_the_frame :
    activeSettings sendingTime = some cfg ∧
    sendingTime.link.attempt = some attempt1 ∧
    sendingTime.link.inHand = some .mailbox ∧
    linkSends sendingTime.link.state = true ∧
    sendingTime.link.tec < 192 ∧
    txCompare attempt1.sent (attempt1.samples ++ timeSent) = .success [] ∧
    ((headDescriptor sendingTime.ring).state = .free ∨ (headDescriptor sendingTime.ring).state = .ready ∨ (headDescriptor sendingTime.ring).state = .sending) := by
  refine ⟨?_, ?_, ?_, ?_, ?_, ?_, ?_⟩ <;> decide +kernel

/-- Meets the hypotheses of FailedAttemptCountsAndEnds. -/
theorem witness_failed_attempt_counts_and_retries :
    activeSettings (sendingStatus 2) = some cfg ∧
    (sendingStatus 2).link.attempt = some attempt2 ∧
    (sendingStatus 2).link.inHand = some .ring ∧
    (headDescriptor (sendingStatus 2).ring).state = .sending ∧
    (headDescriptor (sendingStatus 2).ring).cancel = false ∧
    linkSends (sendingStatus 2).link.state = true ∧
    (sendingStatus 2).link.tec < 188 ∧
    (sendingStatus 2).link.ringTries.count < 3 ∧
    ((txCompare attempt2.sent (attempt2.samples ++ (statusSent ++ [true])) = .endReject [] ∨ txCompare attempt2.sent (attempt2.samples ++ (statusSent ++ [true])) = .ackError [] ∨ txCompare attempt2.sent (attempt2.samples ++ (statusSent ++ [true])) = .bitError [])) := by
  refine ⟨?_, ?_, ?_, ?_, ?_, ?_, ?_, ?_, ?_⟩ <;> decide +kernel

/-- Meets the hypotheses of FailedAttemptCountsAndEnds. -/
theorem witness_failed_attempt_counts_and_retries_passive :
    activeSettings (passive (sendingStatus 0)) = some cfg ∧
    (passive (sendingStatus 0)).link.attempt = some attempt2 ∧
    (passive (sendingStatus 0)).link.inHand = some .ring ∧
    (headDescriptor (passive (sendingStatus 0)).ring).state = .sending ∧
    (headDescriptor (passive (sendingStatus 0)).ring).cancel = false ∧
    linkSends (passive (sendingStatus 0)).link.state = true ∧
    (passive (sendingStatus 0)).link.tec < 188 ∧
    (passive (sendingStatus 0)).link.ringTries.count < 3 ∧
    ((txCompare attempt2.sent (attempt2.samples ++ (statusSent ++ [true])) = .endReject [] ∨ txCompare attempt2.sent (attempt2.samples ++ (statusSent ++ [true])) = .ackError [] ∨ txCompare attempt2.sent (attempt2.samples ++ (statusSent ++ [true])) = .bitError [])) := by
  refine ⟨?_, ?_, ?_, ?_, ?_, ?_, ?_, ?_, ?_⟩ <;> decide +kernel

/-- Meets the hypotheses of FailedAttemptCountsAndEnds. -/
theorem witness_failed_attempt_counts_and_retries_reject :
    activeSettings (sendingStatus 0) = some cfg ∧
    (sendingStatus 0).link.attempt = some attempt2 ∧
    (sendingStatus 0).link.inHand = some .ring ∧
    (headDescriptor (sendingStatus 0).ring).state = .sending ∧
    (headDescriptor (sendingStatus 0).ring).cancel = false ∧
    linkSends (sendingStatus 0).link.state = true ∧
    (sendingStatus 0).link.tec < 188 ∧
    (sendingStatus 0).link.ringTries.count < 3 ∧
    ((txCompare attempt2.sent (attempt2.samples ++ (statusSent ++ [false, true, false])) = .endReject [] ∨ txCompare attempt2.sent (attempt2.samples ++ (statusSent ++ [false, true, false])) = .ackError [] ∨ txCompare attempt2.sent (attempt2.samples ++ (statusSent ++ [false, true, false])) = .bitError [])) := by
  refine ⟨?_, ?_, ?_, ?_, ?_, ?_, ?_, ?_, ?_⟩ <;> decide +kernel

/-- Meets the hypotheses of FailedAttemptCountsAndEnds. -/
theorem witness_failed_attempt_counts_and_retries_bit :
    activeSettings (sendingStatus 0) = some cfg ∧
    (sendingStatus 0).link.attempt = some attempt2 ∧
    (sendingStatus 0).link.inHand = some .ring ∧
    (headDescriptor (sendingStatus 0).ring).state = .sending ∧
    (headDescriptor (sendingStatus 0).ring).cancel = false ∧
    linkSends (sendingStatus 0).link.state = true ∧
    (sendingStatus 0).link.tec < 188 ∧
    (sendingStatus 0).link.ringTries.count < 3 ∧
    ((txCompare attempt2.sent (attempt2.samples ++ (statusSent.take 12 ++ [!(statusSent.getD 12 true)])) = .endReject [] ∨ txCompare attempt2.sent (attempt2.samples ++ (statusSent.take 12 ++ [!(statusSent.getD 12 true)])) = .ackError [] ∨ txCompare attempt2.sent (attempt2.samples ++ (statusSent.take 12 ++ [!(statusSent.getD 12 true)])) = .bitError [])) := by
  refine ⟨?_, ?_, ?_, ?_, ?_, ?_, ?_, ?_, ?_⟩ <;> decide +kernel

/-- Meets the hypotheses of FailedAttemptCountsAndEnds. -/
theorem witness_fourth_failure_ends_the_frame :
    activeSettings (sendingStatus 3) = some cfg ∧
    (sendingStatus 3).link.attempt = some attempt2 ∧
    (sendingStatus 3).link.inHand = some .ring ∧
    (headDescriptor (sendingStatus 3).ring).state = .sending ∧
    (headDescriptor (sendingStatus 3).ring).cancel = false ∧
    (headDescriptor (sendingStatus 3).ring).producer = some .status ∧
    linkSends (sendingStatus 3).link.state = true ∧
    (sendingStatus 3).link.tec < 188 ∧
    (sendingStatus 3).link.ringTries.count = 3 ∧
    txCompare attempt2.sent (attempt2.samples ++ (statusSent ++ [false, false])) = .endReject [] ∧
    (sendingStatus 3).ring.occupancy = 1 ∧
    (sendingStatus 3).ring.waiting = [] ∧
    (sendingStatus 3).ring.descriptors.get ((sendingStatus 3).ring.head + 1) = Descriptor.freed := by
  refine ⟨?_, ?_, ?_, ?_, ?_, ?_, ?_, ?_, ?_, ?_, ?_, ?_, ?_⟩ <;> decide +kernel

/-- Meets the hypotheses of SixtyFourQuietIntervalsReturnTheLink. -/
theorem witness_sixty_four_quiet_intervals_return_the_link :
    activeSettings (detached 11 63) = some cfg ∧
    (detached 11 63).link.state = .detached ∧
    endKept (detached 11 63).link = false := by
  refine ⟨?_, ?_, ?_⟩ <;> decide +kernel

/-- Meets the hypotheses of SixtyFourQuietIntervalsReturnTheLink. -/
theorem witness_sixty_four_quiet_intervals_return_the_link_run :
    activeSettings (detached 10 63) = some cfg ∧
    (detached 10 63).link.state = .detached ∧
    endKept (detached 10 63).link = false := by
  refine ⟨?_, ?_, ?_⟩ <;> decide +kernel

/-- Meets the hypotheses of SixtyFourQuietIntervalsReturnTheLink. -/
theorem witness_sixty_four_quiet_intervals_return_the_link_interval :
    activeSettings (detached 11 62) = some cfg ∧
    (detached 11 62).link.state = .detached ∧
    endKept (detached 11 62).link = false := by
  refine ⟨?_, ?_, ?_⟩ <;> decide +kernel

/-- Meets the hypotheses of SixtyFourQuietIntervalsReturnTheLink. -/
theorem witness_sixty_four_quiet_intervals_return_the_link_dominant :
    activeSettings (idle 9 (detached 11 63)) = some cfg ∧
    (idle 9 (detached 11 63)).link.state = .detached ∧
    endKept (idle 9 (detached 11 63)).link = false := by
  refine ⟨?_, ?_, ?_⟩ <;> decide +kernel

/-- Station 5 sends TIME: the Start bit, Kind and two Source bits are dominant, and a recessive stuff bit follows. A dominant sample there is
a bit error, the model's choice (assumption log 41). -/
theorem test_stuff_bit_among_the_arbitration_bits :
    txCompare (sentBits 0 5 2 timeBytes1) (List.replicate 6 false) = .bitError [] := by decide +kernel

/-- Meets the hypotheses of SixtyFourQuietIntervalsReturnTheLink. -/
theorem witness_bits_are_counted_once :
    activeSettings (receiving (detached 3 5)) = some cfg ∧
    (receiving (detached 3 5)).link.state = .detached ∧
    (receiving (detached 3 5)).link.tracking = .inFrame 0 ∧
    (receiving (detached 3 5)).link.reception = some Reception.opened ∧
    exec (.quietInterval (.sampled (lineBits ++ List.replicate 6 true))) (receiving (detached 3 5)) = .next (after (.quietInterval (.sampled (lineBits ++ List.replicate 6 true))) (receiving (detached 3 5))) := by
  refine ⟨by decide +kernel, by decide +kernel, by decide +kernel, by decide +kernel, rfl⟩

/-- Twelve recessive bits that end a frame and follow it are one quiet interval, whichever commands carry them (R152). -/
theorem test_bits_past_a_kept_end_are_counted_once :
    (after (.frameReceived (.sampled []) false) (after (.quietInterval (.sampled (lineBits ++ List.replicate 5 true))) (receiving (detached 3 5)))).link.quietRun = 0 ∧
    (after (.frameReceived (.sampled []) false) (after (.quietInterval (.sampled (lineBits ++ List.replicate 5 true))) (receiving (detached 3 5)))).link.quietCount = 6 := by
  decide +kernel

/-- Meets the hypotheses of EveryResetEmptiesRingQueueAndPeers. -/
theorem witness_every_reset_empties_ring_queue_and_peers :
    beginsReset (.clockStopReset [] : Instr) = true := by decide +kernel

/-- Meets the hypotheses of ResetEndReadsOrVerifies. -/
theorem witness_reset_end_begins_a_read :
    resetInProgress (inReset { dip with powerOn := true } true image1) = true ∧
    ((inReset { dip with powerOn := true } true image1).resets.powerOn = true ∨ (inReset { dip with powerOn := true } true image1).resets.external = true ∨ (inReset { dip with powerOn := true } true image1).loader.complete = false) ∧
    (inReset { dip with powerOn := true } true image1).supervisor.station = .starting := by
  refine ⟨?_, ?_, ?_⟩ <;> decide +kernel

/-- Meets the hypotheses of ResetEndReadsOrVerifies. -/
theorem witness_reset_end_begins_a_read_incomplete :
    resetInProgress (inReset dip false []) = true ∧
    ((inReset dip false []).resets.powerOn = true ∨ (inReset dip false []).resets.external = true ∨ (inReset dip false []).loader.complete = false) ∧
    (inReset dip false []).supervisor.station = .starting := by
  refine ⟨?_, ?_, ?_⟩ <;> decide +kernel

/-- Meets the hypotheses of ResetEndReadsOrVerifies. -/
theorem witness_reset_end_verifies_the_retained_image :
    resetInProgress (inReset dip true image1) = true ∧
    (inReset dip true image1).resets.powerOn = false ∧
    (inReset dip true image1).resets.external = false ∧
    (inReset dip true image1).loader.complete = true ∧
    (inReset dip true image1).supervisor.station = .starting := by
  refine ⟨?_, ?_, ?_, ?_, ?_⟩ <;> decide +kernel

/-- Meets the hypotheses of ResetEndReadsOrVerifies. -/
theorem witness_reset_end_verifies_the_retained_image_bad :
    resetInProgress (inReset dip true image2) = true ∧
    (inReset dip true image2).resets.powerOn = false ∧
    (inReset dip true image2).resets.external = false ∧
    (inReset dip true image2).loader.complete = true ∧
    (inReset dip true image2).supervisor.station = .starting := by
  refine ⟨?_, ?_, ?_, ?_, ?_⟩ <;> decide +kernel

/-- Meets the hypotheses of ResetEndReadsOrVerifies. -/
theorem witness_reset_end_verifies_the_retained_image_mismatch :
    resetInProgress (inReset dip true (image1.set 5 9)) = true ∧
    (inReset dip true (image1.set 5 9)).resets.powerOn = false ∧
    (inReset dip true (image1.set 5 9)).resets.external = false ∧
    (inReset dip true (image1.set 5 9)).loader.complete = true ∧
    (inReset dip true (image1.set 5 9)).supervisor.station = .starting := by
  refine ⟨?_, ?_, ?_, ?_, ?_⟩ <;> decide +kernel

/-- Meets the hypotheses of ReadImageIsValidated. -/
theorem witness_read_image_is_validated :
    startingUp (State.reset) = true ∧
    (State.reset).loader.state = .reading ∧
    (State.reset).loader.clocks = 0 ∧
    (State.reset).loader.shift = [] ∧
    (State.reset).loader.runningCheck = 0xFFFF#16 ∧
    (List.replicate 24 true).length = 24 ∧
    image1.length = 128 ∧
    (State.reset).loader.retained.length ≤ 128 := by
  refine ⟨?_, ?_, ?_, ?_, ?_, ?_, ?_, ?_⟩ <;> decide +kernel

/-- Meets the hypotheses of ReadImageIsValidated. -/
theorem witness_read_image_is_validated_bad :
    startingUp (State.reset) = true ∧
    (State.reset).loader.state = .reading ∧
    (State.reset).loader.clocks = 0 ∧
    (State.reset).loader.shift = [] ∧
    (State.reset).loader.runningCheck = 0xFFFF#16 ∧
    (List.replicate 24 true).length = 24 ∧
    image2.length = 128 ∧
    (State.reset).loader.retained.length ≤ 128 := by
  refine ⟨?_, ?_, ?_, ?_, ?_, ?_, ?_, ?_⟩ <;> decide +kernel

/-- Meets the hypotheses of ReadImageIsValidated. -/
theorem witness_image_may_be_read_in_pieces :
    (State.reset).loader.clocks + ([true, false] : List Bool).length < 1048 ∧
    exec (.readComplete [true, false]) (State.reset) = .next (after (.readComplete [true, false]) State.reset) ∧
    exec (.readComplete [true]) (after (.readComplete [true, false]) State.reset) =
      .next (after (.readComplete [true]) (after (.readComplete [true, false]) State.reset)) :=
  ⟨by decide +kernel, by rfl, by rfl⟩

/-- Meets the hypotheses of ReadImageIsValidated. -/
theorem witness_read_command_is_sent :
    startingUp (State.reset) = true ∧ (State.reset).loader.state = .reading ∧ (State.reset).loader.clocks < 24 := by
  refine ⟨?_, ?_, ?_⟩ <;> decide +kernel

/-- Meets the hypotheses of LoopbackCheckEntersListening. -/
theorem witness_ten_recessive_samples_pass_the_idle_wait :
    startingSettings (waiting 9 2047) = some cfg ∧
    (waiting 9 2047).link.loopback = .waiting (9 : Nat) (2047 : Nat) ∧
    (9 : Nat) < 10 := by
  refine ⟨?_, ?_, ?_⟩ <;> decide +kernel

/-- Meets the hypotheses of LoopbackCheckEntersListening. -/
theorem witness_loopback_timeout_enters_listening :
    startingSettings (waiting 4 2048) = some cfg ∧
    (waiting 4 2048).link.loopback = .waiting (4 : Nat) (2048 : Nat) := by
  refine ⟨?_, ?_⟩ <;> decide +kernel

/-- Meets the hypotheses of LoopbackCheckEntersListening. -/
theorem witness_loopback_check_decides_the_result :
    startingSettings looping = some cfg ∧
    looping.link.loopback = .sending (testFrame cfg) ∧
    cfg.address < 64 ∧ cfg.group < 16 ∧
    testFrame cfg = sentBits 3 cfg.address cfg.group [0#8, 255#8] := by
  refine ⟨?_, ?_, ?_, ?_, ?_⟩ <;> decide +kernel

/-- Meets the hypotheses of LoopbackCheckEntersListening. -/
theorem witness_loopback_check_decides_the_result_short :
    startingSettings looping = some cfg ∧
    looping.link.loopback = .sending (testFrame cfg) ∧
    loopFrame false 1 [] 0 19 ((testFrame cfg).mapIdx fun i b => if i ∈ [30] then !b.level else b.level) ≠
      some { kind := 3, source := cfg.address, group := cfg.group, length := 2, payload := [0#8, 255#8] } := by
  refine ⟨?_, ?_, ?_⟩ <;> decide +kernel

/-- Meets the hypotheses of PeriodicLineReportIsRequested. -/
theorem witness_line_timeout_beside_an_own_report :
    BoundaryDue cfgFlow oldOwnLine ∧
    CrossingDue (20000 : Nat) oldOwnLine ∧
    UnitsAtRest oldOwnLine ∧
    cfgFlow.flowSensing = true ∧
    settledState oldOwnLine.supervisor.station = true ∧
    linkSends oldOwnLine.link.state = false ∧
    oldOwnLine.peers.flow.confirmed = some (.flowing : FlowLevel) ∧
    oldOwnLine.peers.flow.request = .none ∧
    oldOwnLine.peers.flow.periodCount = 15 ∧
    oldOwnLine.peers.line.state ≠ .unknown ∧
    cfgFlow.lineTimeout ≤ 255 ∧
    cfgFlow.lineTimeout ≤ oldOwnLine.peers.line.age + 1 := by
  refine ⟨⟨?_, ?_, ?_, ?_⟩, ⟨?_, ?_, ?_⟩, ⟨?_, ?_, ?_⟩, ?_, ?_, ?_, ?_, ?_, ?_, ?_, ?_, ?_⟩ <;> decide +kernel

/-- Meets the hypotheses of FlowSenderReportsItsLevel. -/
theorem witness_confirmed_change_is_reported :
    SlotDue cfgFlow (5 : Nat) (changing .running .active) ∧
    CrossingDue (20000 : Nat) (changing .running .active) ∧
    UnitsAtRest (changing .running .active) ∧
    cfgFlow.flowSensing = true ∧
    (.flowing : FlowLevel) = (if true then .flowing else .standing) ∧
    (changing .running .active).peers.flow.candidate = some (.flowing : FlowLevel) ∧
    (changing .running .active).peers.flow.confirmed ≠ some (.flowing : FlowLevel) ∧
    (changing .running .active).peers.flow.request = .none ∧
    RingSound (changing .running .active) ∧
    (changing .running .active).ring.waiting = [] := by
  refine ⟨⟨?_, ?_, ?_, ?_, ?_⟩, ⟨?_, ?_, ?_⟩, ⟨?_, ?_, ?_⟩, ?_, ?_, ?_, ?_, ?_, ⟨?_, ?_, ?_, ?_, ?_⟩, ?_⟩ <;> decide +kernel

/-- Meets the hypotheses of FlowSenderReportsItsLevel. -/
theorem witness_confirmed_change_is_reported_detached :
    SlotDue cfgFlow (5 : Nat) (changing .mainsLost .detached) ∧
    CrossingDue (20000 : Nat) (changing .mainsLost .detached) ∧
    UnitsAtRest (changing .mainsLost .detached) ∧
    cfgFlow.flowSensing = true ∧
    (.flowing : FlowLevel) = (if true then .flowing else .standing) ∧
    (changing .mainsLost .detached).peers.flow.candidate = some (.flowing : FlowLevel) ∧
    (changing .mainsLost .detached).peers.flow.confirmed ≠ some (.flowing : FlowLevel) ∧
    (changing .mainsLost .detached).peers.flow.request = .none ∧
    RingSound (changing .mainsLost .detached) ∧
    (changing .mainsLost .detached).ring.waiting = [] := by
  refine ⟨⟨?_, ?_, ?_, ?_, ?_⟩, ⟨?_, ?_, ?_⟩, ⟨?_, ?_, ?_⟩, ?_, ?_, ?_, ?_, ?_, ⟨?_, ?_, ?_, ?_, ?_⟩, ?_⟩ <;> decide +kernel

/-- Meets the hypotheses of FlowSenderReportsItsLevel. -/
theorem witness_confirmed_change_is_reported_listening :
    SlotDue cfgFlow (5 : Nat) (changing .listening .listenOnly) ∧
    CrossingDue (20000 : Nat) (changing .listening .listenOnly) ∧
    UnitsAtRest (changing .listening .listenOnly) ∧
    cfgFlow.flowSensing = true ∧
    (.flowing : FlowLevel) = (if true then .flowing else .standing) ∧
    (changing .listening .listenOnly).peers.flow.candidate = some (.flowing : FlowLevel) ∧
    (changing .listening .listenOnly).peers.flow.confirmed ≠ some (.flowing : FlowLevel) ∧
    (changing .listening .listenOnly).peers.flow.request = .none ∧
    RingSound (changing .listening .listenOnly) ∧
    (changing .listening .listenOnly).ring.waiting = [] := by
  refine ⟨⟨?_, ?_, ?_, ?_, ?_⟩, ⟨?_, ?_, ?_⟩, ⟨?_, ?_, ?_⟩, ?_, ?_, ?_, ?_, ?_, ⟨?_, ?_, ?_, ?_, ?_⟩, ?_⟩ <;> decide +kernel

/-- Meets the hypotheses of FlowSenderReportsItsLevel. -/
theorem witness_first_report_on_entering_running :
    BoundaryDue cfgFlow (joiningFlow false) ∧
    CrossingDue (20000 : Nat) (joiningFlow false) ∧
    UnitsAtRest (joiningFlow false) ∧
    cfgFlow.flowSensing = true ∧
    (joiningFlow false).supervisor.station = .listening ∧
    cfgFlow.joinCycles ≤ 16 ∧
    cfgFlow.joinCycles ≤ (joiningFlow false).supervisor.joinCount + 1 ∧
    (joiningFlow false).supervisor.mainsLost = false ∧
    (joiningFlow false).peers.flow.confirmed = some (.standing : FlowLevel) ∧
    (joiningFlow false).peers.flow.request = .none ∧
    (joiningFlow false).ring.occupancy < 6 := by
  refine ⟨⟨?_, ?_, ?_, ?_⟩, ⟨?_, ?_, ?_⟩, ⟨?_, ?_, ?_⟩, ?_, ?_, ?_, ?_, ?_, ?_, ?_, ?_⟩ <;> decide +kernel

/-- Meets the hypotheses of FlowSenderReportsItsLevel. -/
theorem witness_first_report_on_entering_running_clash :
    BoundaryDue cfgFlow (joiningFlow true) ∧
    CrossingDue (20000 : Nat) (joiningFlow true) ∧
    UnitsAtRest (joiningFlow true) ∧
    cfgFlow.flowSensing = true ∧
    (joiningFlow true).supervisor.station = .listening ∧
    cfgFlow.joinCycles ≤ 16 ∧
    cfgFlow.joinCycles ≤ (joiningFlow true).supervisor.joinCount + 1 ∧
    (joiningFlow true).supervisor.mainsLost = false ∧
    (joiningFlow true).peers.flow.confirmed = some (.standing : FlowLevel) ∧
    (joiningFlow true).peers.flow.request = .none ∧
    (joiningFlow true).ring.occupancy < 6 := by
  refine ⟨⟨?_, ?_, ?_, ?_⟩, ⟨?_, ?_, ?_⟩, ⟨?_, ?_, ?_⟩, ?_, ?_, ?_, ?_, ?_, ?_, ?_, ?_⟩ <;> decide +kernel

/-- Meets the hypotheses of FlowSenderReportsItsLevel. -/
theorem witness_unsensed_flow_changes_nothing :
    (BoundaryDue cfg (beforeSlot 5 running) ∨ ∃ slot : Nat, SlotDue cfg slot (beforeSlot 5 running)) ∧
    CrossingDue (20000 : Nat) (beforeSlot 5 running) ∧
    UnitsAtRest (beforeSlot 5 running) ∧
    RingSound (beforeSlot 5 running) ∧
    (beforeSlot 5 running).ring.waiting = [] ∧
    cfg.flowSensing = false := by
  refine ⟨.inr ⟨5, ?_, ?_, ?_, ?_, ?_⟩, ⟨?_, ?_, ?_⟩, ⟨?_, ?_, ?_⟩, ⟨?_, ?_, ?_, ?_, ?_⟩, ?_, ?_⟩ <;> decide +kernel

/-- Meets the hypotheses of FlowSenderReportsItsLevel. -/
theorem witness_unsensed_flow_changes_nothing_boundary :
    (BoundaryDue cfg (atBoundary running) ∨ ∃ slot : Nat, SlotDue cfg slot (atBoundary running)) ∧
    CrossingDue (20000 : Nat) (atBoundary running) ∧
    UnitsAtRest (atBoundary running) ∧
    RingSound (atBoundary running) ∧
    (atBoundary running).ring.waiting = [] ∧
    cfg.flowSensing = false := by
  refine ⟨.inl ⟨?_, ?_, ?_, ?_⟩, ⟨?_, ?_, ?_⟩, ⟨?_, ?_, ?_⟩, ⟨?_, ?_, ?_, ?_, ?_⟩, ?_, ?_⟩ <;> decide +kernel

/-- Meets the hypotheses of DemandPointHandsTheDemands. -/
theorem witness_demand_point_outside_running :
    SlotDue cfg 8 (beforeSlot 8 (station cfg .held .active)) ∧
    CrossingDue (20000 : Nat) (beforeSlot 8 (station cfg .held .active)) ∧
    UnitsAtRest (beforeSlot 8 (station cfg .held .active)) ∧
    cfg.flowSensing = false ∧
    (beforeSlot 8 (station cfg .held .active)).supervisor.station ≠ .running := by
  refine ⟨⟨?_, ?_, ?_, ?_, ?_⟩, ⟨?_, ?_, ?_⟩, ⟨?_, ?_, ?_⟩, ?_, ?_⟩ <;> decide +kernel

/-- Meets the hypotheses of DemandPointHandsTheDemands. -/
theorem witness_demand_point_outside_running_listening :
    SlotDue cfg 8 (beforeSlot 8 listening) ∧
    CrossingDue (20000 : Nat) (beforeSlot 8 listening) ∧
    UnitsAtRest (beforeSlot 8 listening) ∧
    cfg.flowSensing = false ∧
    (beforeSlot 8 listening).supervisor.station ≠ .running := by
  refine ⟨⟨?_, ?_, ?_, ?_, ?_⟩, ⟨?_, ?_, ?_⟩, ⟨?_, ?_, ?_⟩, ?_, ?_⟩ <;> decide +kernel

/-- Meets the hypotheses of FreezeSettlesThePlacement. -/
theorem witness_freeze_settles_the_base :
    SlotDue cfg 28 freezingSilent ∧
    CrossingDue (20000 : Nat) freezingSilent ∧
    WindowCloses freezingSilent ∧
    cfg.flowSensing = false ∧
    settledState freezingSilent.supervisor.station = true ∧
    (([run2, run1] : List Run), (3 : Nat), true) = (if freezingSilent.link.clash then ((freezingSilent.placement.working.map Working.runs).getD [], 256, false) else match freezingSilent.placement.announced with | some a => (a.runs, a.order, true) | none => ((freezingSilent.placement.working.map Working.runs).getD [], 256, decide (freezingSilent.placement.lastFailure = some .noAck ∧ freezingSilent.peers.entries = []))) ∧
    ([{ source := .own, order := 3, runs := [run2, run1], ration := none }, { source := .peer 9, order := 0, runs := [], ration := some 10 }] : List Contribution) = (freezingSilent.peers.entries.filter (fun e => decide (e.state = .silent))).foldl (fun x e => x.filter (fun c => decide (c.source ≠ .peer e.address)) ++ [{ source := .peer e.address, order := 0, runs := [], ration := some cfg.ration }]) ({ source := .own, order := (3 : Nat), runs := ([run2, run1] : List Run), ration := none } :: freezingSilent.placement.map.filter (fun c => decide (c.source ≠ .own))) := by
  refine ⟨⟨?_, ?_, ?_, ?_, ?_⟩, ⟨?_, ?_, ?_⟩, ⟨?_, ?_⟩, ?_, ?_, ?_, ?_⟩ <;> decide +kernel

/-- Meets the hypotheses of FreezeSettlesThePlacement. -/
theorem witness_freeze_settles_the_base_unannounced :
    SlotDue cfg 28 (freezingQuiet freezing.peers.entries) ∧
    CrossingDue (20000 : Nat) (freezingQuiet freezing.peers.entries) ∧
    WindowCloses (freezingQuiet freezing.peers.entries) ∧
    cfg.flowSensing = false ∧
    settledState (freezingQuiet freezing.peers.entries).supervisor.station = true ∧
    (([run2, run1] : List Run), (256 : Nat), false) = (if (freezingQuiet freezing.peers.entries).link.clash then (((freezingQuiet freezing.peers.entries).placement.working.map Working.runs).getD [], 256, false) else match (freezingQuiet freezing.peers.entries).placement.announced with | some a => (a.runs, a.order, true) | none => (((freezingQuiet freezing.peers.entries).placement.working.map Working.runs).getD [], 256, decide ((freezingQuiet freezing.peers.entries).placement.lastFailure = some .noAck ∧ (freezingQuiet freezing.peers.entries).peers.entries = []))) ∧
    ([{ source := .own, order := 256, runs := [run2, run1], ration := none }] : List Contribution) = ((freezingQuiet freezing.peers.entries).peers.entries.filter (fun e => decide (e.state = .silent))).foldl (fun x e => x.filter (fun c => decide (c.source ≠ .peer e.address)) ++ [{ source := .peer e.address, order := 0, runs := [], ration := some cfg.ration }]) ({ source := .own, order := (256 : Nat), runs := ([run2, run1] : List Run), ration := none } :: (freezingQuiet freezing.peers.entries).placement.map.filter (fun c => decide (c.source ≠ .own))) := by
  refine ⟨⟨?_, ?_, ?_, ?_, ?_⟩, ⟨?_, ?_, ?_⟩, ⟨?_, ?_⟩, ?_, ?_, ?_, ?_⟩ <;> decide +kernel

/-- Meets the hypotheses of FreezeSettlesThePlacement. -/
theorem witness_freeze_settles_the_base_lonely :
    SlotDue cfg 28 (freezingQuiet []) ∧
    CrossingDue (20000 : Nat) (freezingQuiet []) ∧
    WindowCloses (freezingQuiet []) ∧
    cfg.flowSensing = false ∧
    settledState (freezingQuiet []).supervisor.station = true ∧
    (([run2, run1] : List Run), (256 : Nat), true) = (if (freezingQuiet []).link.clash then (((freezingQuiet []).placement.working.map Working.runs).getD [], 256, false) else match (freezingQuiet []).placement.announced with | some a => (a.runs, a.order, true) | none => (((freezingQuiet []).placement.working.map Working.runs).getD [], 256, decide ((freezingQuiet []).placement.lastFailure = some .noAck ∧ (freezingQuiet []).peers.entries = []))) ∧
    ([{ source := .own, order := 256, runs := [run2, run1], ration := none }] : List Contribution) = ((freezingQuiet []).peers.entries.filter (fun e => decide (e.state = .silent))).foldl (fun x e => x.filter (fun c => decide (c.source ≠ .peer e.address)) ++ [{ source := .peer e.address, order := 0, runs := [], ration := some cfg.ration }]) ({ source := .own, order := (256 : Nat), runs := ([run2, run1] : List Run), ration := none } :: (freezingQuiet []).placement.map.filter (fun c => decide (c.source ≠ .own))) := by
  refine ⟨⟨?_, ?_, ?_, ?_, ?_⟩, ⟨?_, ?_, ?_⟩, ⟨?_, ?_⟩, ?_, ?_, ?_, ?_⟩ <;> decide +kernel

/-- Meets the hypotheses of FreezeSettlesThePlacement. -/
theorem witness_freeze_settles_the_base_computing :
    SlotDue cfg 28 freezingComputing ∧
    CrossingDue (20000 : Nat) freezingComputing ∧
    WindowCloses freezingComputing ∧
    cfg.flowSensing = false ∧
    settledState freezingComputing.supervisor.station = true ∧
    (([run2, run1] : List Run), (3 : Nat), true) = (if freezingComputing.link.clash then ((freezingComputing.placement.working.map Working.runs).getD [], 256, false) else match freezingComputing.placement.announced with | some a => (a.runs, a.order, true) | none => ((freezingComputing.placement.working.map Working.runs).getD [], 256, decide (freezingComputing.placement.lastFailure = some .noAck ∧ freezingComputing.peers.entries = []))) ∧
    ([{ source := .own, order := 3, runs := [run2, run1], ration := none }, { source := .peer 9, order := 2, runs := [{ run1 with zone := 4, start := 0, length := 3, load := 40 }], ration := none }] : List Contribution) = (freezingComputing.peers.entries.filter (fun e => decide (e.state = .silent))).foldl (fun x e => x.filter (fun c => decide (c.source ≠ .peer e.address)) ++ [{ source := .peer e.address, order := 0, runs := [], ration := some cfg.ration }]) ({ source := .own, order := (3 : Nat), runs := ([run2, run1] : List Run), ration := none } :: freezingComputing.placement.map.filter (fun c => decide (c.source ≠ .own))) := by
  refine ⟨⟨?_, ?_, ?_, ?_, ?_⟩, ⟨?_, ?_, ?_⟩, ⟨?_, ?_⟩, ?_, ?_, ?_, ?_⟩ <;> decide +kernel

/-- A freeze in the window in which an address clash was found, of a placement announced before it. -/
def freezingClashed (clash : Bool) : State :=
  { freezing with
    placement := { freezing.placement with working := some { runs := [run2, run1], curtailed := [] } }
    link := { freezing.link with clash := clash, state := if clash then .listenOnly else freezing.link.state } }

/-- Meets the hypotheses of FreezeSettlesThePlacement. -/
theorem witness_freeze_settles_the_base_after_a_clash :
    SlotDue cfg 28 (freezingClashed true) ∧ CrossingDue (20000 : Nat) (freezingClashed true) ∧ WindowCloses (freezingClashed true) ∧
    settledState (freezingClashed true).supervisor.station = true ∧ (freezingClashed true).link.clash = true ∧
    (freezingClashed true).placement.announced.isSome = true := by
  refine ⟨⟨?_, ?_, ?_, ?_, ?_⟩, ⟨?_, ?_, ?_⟩, ⟨?_, ?_⟩, ?_, ?_, ?_⟩ <;> decide +kernel

/-- A placement announced before a clash is frozen as unannounced: the count goes up, and its runs, each above the ration of 10, are removed;
without the clash it is shed at the freeze limit and the count cleared (R91, R92, R156). -/
theorem test_freeze_after_a_clash :
    let t := after (.crossing 20000 false) (freezingClashed true)
    let u := after (.crossing 20000 false) (freezingClashed false)
    t.placement.frozen = some [] ∧ t.placement.unannounced = 1 ∧ u.placement.frozen ≠ some [] ∧ u.placement.unannounced = 0 := by decide +kernel

/-- Meets the hypotheses of FreezeSettlesThePlacement. -/
theorem witness_freeze_abandons_a_computation :
    SlotDue cfg 28 freezingComputing ∧
    CrossingDue (20000 : Nat) freezingComputing ∧
    WindowCloses freezingComputing ∧
    cfg.flowSensing = false ∧
    settledState freezingComputing.supervisor.station = true ∧
    freezingComputing.placement.computation.isSome = true ∧
    freezingComputing.placement.request = .none := by
  refine ⟨⟨?_, ?_, ?_, ?_, ?_⟩, ⟨?_, ?_, ?_⟩, ⟨?_, ?_⟩, ?_, ?_, ?_, ?_⟩ <;> decide +kernel

/-- Meets the hypotheses of FreezeSettlesThePlacement. -/
theorem witness_freeze_withdraws_a_waiting_request :
    SlotDue cfg 28 freezingWaiting ∧
    CrossingDue (20000 : Nat) freezingWaiting ∧
    WindowCloses freezingWaiting ∧
    cfg.flowSensing = false ∧
    settledState freezingWaiting.supervisor.station = true ∧
    freezingWaiting.placement.request = .waiting := by
  refine ⟨⟨?_, ?_, ?_, ?_, ?_⟩, ⟨?_, ?_, ?_⟩, ⟨?_, ?_⟩, ?_, ?_, ?_⟩ <;> decide +kernel

/-- Meets the hypotheses of FreezeSettlesThePlacement. -/
theorem witness_freeze_voids_a_ready_request :
    SlotDue cfg 28 freezingBehind ∧
    CrossingDue (20000 : Nat) freezingBehind ∧
    WindowCloses freezingBehind ∧
    cfg.flowSensing = false ∧
    settledState freezingBehind.supervisor.station = true ∧
    freezingBehind.placement.request = .queued 1 ∧
    (1 : Index) ≠ freezingBehind.ring.head := by
  refine ⟨⟨?_, ?_, ?_, ?_, ?_⟩, ⟨?_, ?_, ?_⟩, ⟨?_, ?_⟩, ?_, ?_, ?_, ?_⟩ <;> decide +kernel

/-- Meets the hypotheses of FreezeSettlesThePlacement. -/
theorem witness_freeze_voids_the_head :
    SlotDue cfg 28 freezingHead ∧
    CrossingDue (20000 : Nat) freezingHead ∧
    WindowCloses freezingHead ∧
    cfg.flowSensing = false ∧
    settledState freezingHead.supervisor.station = true ∧
    freezingHead.placement.request = .queued 0 ∧
    (0 : Index) = freezingHead.ring.head := by
  refine ⟨⟨?_, ?_, ?_, ?_, ?_⟩, ⟨?_, ?_, ?_⟩, ⟨?_, ?_⟩, ?_, ?_, ?_, ?_⟩ <;> decide +kernel

/-- Meets the hypotheses of FreezeSettlesThePlacement. -/
theorem witness_freeze_keeps_what_both_announce :
    SlotDue cfg 28 revising ∧
    CrossingDue (20000 : Nat) revising ∧
    cfg.flowSensing = false ∧
    settledState revising.supervisor.station = true ∧
    (revising.placement.request = .queued revising.ring.head ∨ revising.placement.request = .cancelRecorded revising.ring.head) ∧
    (headDescriptor revising.ring).state = .sending ∧
    revising.link.inHand = some .ring ∧
    revising.link.attempt ≠ none ∧
    (([run2] : List Run), (3 : Nat), true) = (if revising.link.clash then ((revising.placement.working.map Working.runs).getD [], 256, false) else match revising.placement.announced with | some a => (a.runs.filter (fun r => revising.placement.requestRuns.any (fun q => decide (r.zone = q.zone ∧ r.start = q.start ∧ r.length = q.length ∧ r.load = q.load ∧ r.surcharge = q.surcharge))), a.order, true) | none => ((revising.placement.working.map Working.runs).getD [], 256, decide (revising.placement.lastFailure = some .noAck ∧ revising.peers.entries = []))) ∧
    ([{ source := .peer 9, order := 2, runs := [{ run1 with zone := 4, start := 0, length := 3, load := 40 }], ration := none }] : List Contribution) = (revising.peers.entries.filter (fun e => decide (e.state = .silent))).foldl (fun x e => x.filter (fun c => decide (c.source ≠ .peer e.address)) ++ [{ source := .peer e.address, order := 0, runs := [], ration := some cfg.ration }]) (revising.placement.map.filter (fun c => decide (c.source ≠ .own))) := by
  refine ⟨⟨?_, ?_, ?_, ?_, ?_⟩, ⟨?_, ?_, ?_⟩, ?_, ?_, ?_, ?_, ?_, ?_, ?_, ?_⟩ <;> decide +kernel

/-- Meets the hypotheses of FreezeSettlesThePlacement. -/
theorem witness_freeze_keeps_a_recorded_cancel :
    SlotDue cfg 28 (cancelling revising) ∧
    CrossingDue (20000 : Nat) (cancelling revising) ∧
    cfg.flowSensing = false ∧
    settledState (cancelling revising).supervisor.station = true ∧
    ((cancelling revising).placement.request = .queued (cancelling revising).ring.head ∨ (cancelling revising).placement.request = .cancelRecorded (cancelling revising).ring.head) ∧
    (headDescriptor (cancelling revising).ring).state = .sending ∧
    (cancelling revising).link.inHand = some .ring ∧
    (cancelling revising).link.attempt ≠ none ∧
    (([run2] : List Run), (3 : Nat), true) = (if (cancelling revising).link.clash then (((cancelling revising).placement.working.map Working.runs).getD [], 256, false) else match (cancelling revising).placement.announced with | some a => (a.runs.filter (fun r => (cancelling revising).placement.requestRuns.any (fun q => decide (r.zone = q.zone ∧ r.start = q.start ∧ r.length = q.length ∧ r.load = q.load ∧ r.surcharge = q.surcharge))), a.order, true) | none => (((cancelling revising).placement.working.map Working.runs).getD [], 256, decide ((cancelling revising).placement.lastFailure = some .noAck ∧ (cancelling revising).peers.entries = []))) ∧
    ([{ source := .peer 9, order := 2, runs := [{ run1 with zone := 4, start := 0, length := 3, load := 40 }], ration := none }] : List Contribution) = ((cancelling revising).peers.entries.filter (fun e => decide (e.state = .silent))).foldl (fun x e => x.filter (fun c => decide (c.source ≠ .peer e.address)) ++ [{ source := .peer e.address, order := 0, runs := [], ration := some cfg.ration }]) ((cancelling revising).placement.map.filter (fun c => decide (c.source ≠ .own))) := by
  refine ⟨⟨?_, ?_, ?_, ?_, ?_⟩, ⟨?_, ?_, ?_⟩, ?_, ?_, ?_, ?_, ?_, ?_, ?_, ?_⟩ <;> decide +kernel

/-- Meets the hypotheses of FreezeSettlesThePlacement. -/
theorem witness_freeze_of_a_first_frame_on_the_line :
    SlotDue cfg 28 firstOnLine ∧
    CrossingDue (20000 : Nat) firstOnLine ∧
    cfg.flowSensing = false ∧
    settledState firstOnLine.supervisor.station = true ∧
    (firstOnLine.placement.request = .queued firstOnLine.ring.head ∨ firstOnLine.placement.request = .cancelRecorded firstOnLine.ring.head) ∧
    (headDescriptor firstOnLine.ring).state = .sending ∧
    firstOnLine.link.inHand = some .ring ∧
    firstOnLine.link.attempt ≠ none ∧
    (([run2, run1] : List Run), (256 : Nat), false) = (if firstOnLine.link.clash then ((firstOnLine.placement.working.map Working.runs).getD [], 256, false) else match firstOnLine.placement.announced with | some a => (a.runs.filter (fun r => firstOnLine.placement.requestRuns.any (fun q => decide (r.zone = q.zone ∧ r.start = q.start ∧ r.length = q.length ∧ r.load = q.load ∧ r.surcharge = q.surcharge))), a.order, true) | none => ((firstOnLine.placement.working.map Working.runs).getD [], 256, decide (firstOnLine.placement.lastFailure = some .noAck ∧ firstOnLine.peers.entries = []))) ∧
    ([] : List Contribution) = (firstOnLine.peers.entries.filter (fun e => decide (e.state = .silent))).foldl (fun x e => x.filter (fun c => decide (c.source ≠ .peer e.address)) ++ [{ source := .peer e.address, order := 0, runs := [], ration := some cfg.ration }]) (firstOnLine.placement.map.filter (fun c => decide (c.source ≠ .own))) := by
  refine ⟨⟨?_, ?_, ?_, ?_, ?_⟩, ⟨?_, ?_, ?_⟩, ?_, ?_, ?_, ?_, ?_, ?_, ?_, ?_⟩ <;> decide +kernel

/-- Meets the hypotheses of FreezeSettlesThePlacement. -/
theorem witness_frozen_runs_follow_the_stuck_zones :
    (([run2, run1] : List Run).map Run.zone).Nodup ∧ (freezingSilent.zones.get 2).condition = .stuckOn ∧
      (adjustStuck cfg freezingSilent [run2, run1]).map Run.zone = [3, 2, 1] := by decide +kernel

/-- Meets the hypotheses of ScanCompletionTripsHotZones. -/
theorem witness_no_other_scan_completes :
    running.scanner.scanDue = false := by decide +kernel

/-- Meets the hypotheses of SourceIsSelectedInOrder. -/
theorem witness_origin_is_found_in_order :
    (cfg.zone (3 : Index)).enabled = true := by decide +kernel

/-- Meets the hypotheses of ComputationDecidesTheRequest. -/
theorem witness_computation_requests_a_revision :
    activeSettings computingRevision = some cfg ∧
    computingRevision.placement.computation = some comp1 ∧
    linkSends computingRevision.link.state = true ∧
    computingRevision.placement.announced = some announced1 ∧
    announced1.runs ≠ (computeResult cfg comp1).runs ∧
    computingRevision.placement.request = .none ∧
    computingRevision.ring.occupancy < 6 ∧
    ((headDescriptor computingRevision.ring).state = .free ∨ (headDescriptor computingRevision.ring).state = .ready ∨ (headDescriptor computingRevision.ring).state = .sending) ∧
    yieldFails cfg (setOwn (computeResult cfg comp1).runs Config.ownOrder computingRevision.placement.map) = false := by
  refine ⟨?_, ?_, ?_, ?_, ?_, ?_, ?_, ?_, ?_⟩ <;> decide +kernel

/-- Meets the hypotheses of ComputationDecidesTheRequest. -/
theorem witness_computation_waits_for_a_descriptor :
    activeSettings (fullRing computing1) = some cfg ∧
    (fullRing computing1).placement.computation = some comp1 ∧
    linkSends (fullRing computing1).link.state = true ∧
    (fullRing computing1).placement.announced = none ∧
    (fullRing computing1).placement.request = .none ∧
    6 ≤ (fullRing computing1).ring.occupancy ∧
    ((headDescriptor (fullRing computing1).ring).state = .ready ∨ (headDescriptor (fullRing computing1).ring).state = .sending) ∧
    yieldFails cfg (setOwn (computeResult cfg comp1).runs Config.ownOrder (fullRing computing1).placement.map) = false := by
  refine ⟨?_, ?_, ?_, ?_, ?_, ?_, ?_, ?_⟩ <;> decide +kernel

/-- Meets the hypotheses of ComputationDecidesTheRequest. -/
theorem witness_held_completion_is_taken_at_the_end :
    activeSettings holding = some cfg ∧
    holding.placement.computation = some comp1 ∧
    holding.supervisor.station = .running ∧
    linkSends holding.link.state = false ∧
    holding.placement.announced = none ∧
    holding.placement.request = .none ∧
    8 ≤ holding.timeBase.takenSlot ∧
    holding.timeBase.takenSlot < 28 ∧
    yieldFails cfg (setOwn (computeResult cfg comp1).runs Config.ownOrder holding.placement.map) = true ∧
    (headDescriptor holding.ring).producer = some .place ∧
    (headDescriptor holding.ring).state = .doneFail ∧
    holding.ring.waiting = [] ∧
    holding.ring.occupancy = 1 ∧
    holding.ring.descriptors.get (holding.ring.head + 1) = Descriptor.freed := by
  refine ⟨?_, ?_, ?_, ?_, ?_, ?_, ?_, ?_, ?_, ?_, ?_, ?_, ?_, ?_⟩ <;> decide +kernel

/-- Meets the hypotheses of ComputationDecidesTheRequest. -/
theorem witness_voided_request_waits_for_the_recompute :
    activeSettings holdingActive = some cfg ∧
    holdingActive.placement.computation = some comp1 ∧
    holdingActive.supervisor.station = .running ∧
    linkSends holdingActive.link.state = true ∧
    holdingActive.placement.announced = none ∧
    holdingActive.placement.request = .none ∧
    8 ≤ holdingActive.timeBase.takenSlot ∧
    holdingActive.timeBase.takenSlot < 28 ∧
    yieldFails cfg (setOwn (computeResult cfg comp1).runs Config.ownOrder holdingActive.placement.map) = true ∧
    (headDescriptor holdingActive.ring).producer = some .place ∧
    ((headDescriptor holdingActive.ring).state = .doneOk ∨ (headDescriptor holdingActive.ring).state = .doneFail) ∧
    holdingActive.ring.waiting = [] ∧
    holdingActive.ring.occupancy = 1 ∧
    holdingActive.ring.fill = holdingActive.ring.head + 1 := by
  refine ⟨?_, ?_, ?_, ?_, ?_, ?_, ?_, ?_, ?_, ?_, ?_, ?_, ?_, ?_⟩ <;> decide +kernel

/-- A request that yields at once behind a held completion: its CANCELLED completion waits for the recompute (R172). -/
theorem test_voided_request_waits_for_the_recompute :
    (after .computationCompletion holdingActive).placement.computation.isSome = true ∧
    (headDescriptor (after .computationCompletion holdingActive).ring).state = .doneFail ∧
    (headDescriptor (after .computationCompletion holdingActive).ring).reason = some .cancelled ∧
    (after .computationCompletion holdingActive).ring.occupancy = 1 := by
  refine ⟨?_, ?_, ?_, ?_⟩ <;> decide +kernel

/-- Meets the hypotheses of RolloverInstallsTheFrozenPlacement. -/
theorem witness_rollover_withdraws_a_waiting_request :
    BoundaryDue cfg (atBoundary waitingPlace) ∧
    CrossingDue (20000 : Nat) (atBoundary waitingPlace) ∧
    RingSound (atBoundary waitingPlace) ∧
    RequestsSound (atBoundary waitingPlace) ∧
    settledState (atBoundary waitingPlace).supervisor.station = true ∧
    linkSends (atBoundary waitingPlace).link.state = true ∧
    (atBoundary waitingPlace).placement.computation = none ∧
    ((headDescriptor (atBoundary waitingPlace).ring).state = .ready ∨ (headDescriptor (atBoundary waitingPlace).ring).state = .sending) ∧
    (atBoundary waitingPlace).placement.request = .waiting := by
  refine ⟨⟨?_, ?_, ?_, ?_⟩, ⟨?_, ?_, ?_⟩, ⟨?_, ?_, ?_, ?_, ?_⟩, ⟨?_, ?_, ?_, ?_⟩, ?_, ?_, ?_, ?_, ?_⟩ <;> decide +kernel

/-- Meets the hypotheses of RolloverInstallsTheFrozenPlacement. -/
theorem witness_rollover_voids_a_queued_request :
    BoundaryDue cfg (atBoundary yieldingBehind) ∧
    CrossingDue (20000 : Nat) (atBoundary yieldingBehind) ∧
    RingSound (atBoundary yieldingBehind) ∧
    RequestsSound (atBoundary yieldingBehind) ∧
    settledState (atBoundary yieldingBehind).supervisor.station = true ∧
    linkSends (atBoundary yieldingBehind).link.state = true ∧
    (atBoundary yieldingBehind).placement.computation = none ∧
    ((headDescriptor (atBoundary yieldingBehind).ring).state = .ready ∨ (headDescriptor (atBoundary yieldingBehind).ring).state = .sending) ∧
    (atBoundary yieldingBehind).placement.request = .queued 1 ∧
    occupied (atBoundary yieldingBehind).ring 1 = true ∧
    ((atBoundary yieldingBehind).ring.descriptors.get 1).state = .ready ∧
    (1 : Index) ≠ (atBoundary yieldingBehind).ring.head := by
  refine ⟨⟨?_, ?_, ?_, ?_⟩, ⟨?_, ?_, ?_⟩, ⟨?_, ?_, ?_, ?_, ?_⟩, ⟨?_, ?_, ?_, ?_⟩, ?_, ?_, ?_, ?_, ?_, ?_, ?_, ?_⟩ <;> decide +kernel

/-- Meets the hypotheses of RolloverInstallsTheFrozenPlacement. -/
theorem witness_rollover_voids_the_head :
    BoundaryDue cfg (atBoundary yieldingHead) ∧
    CrossingDue (20000 : Nat) (atBoundary yieldingHead) ∧
    RingSound (atBoundary yieldingHead) ∧
    RequestsSound (atBoundary yieldingHead) ∧
    settledState (atBoundary yieldingHead).supervisor.station = true ∧
    linkSends (atBoundary yieldingHead).link.state = true ∧
    (atBoundary yieldingHead).placement.computation = none ∧
    ((headDescriptor (atBoundary yieldingHead).ring).state = .ready ∨ (headDescriptor (atBoundary yieldingHead).ring).state = .sending) ∧
    (atBoundary yieldingHead).placement.request = .queued 0 ∧
    occupied (atBoundary yieldingHead).ring 0 = true ∧
    ((atBoundary yieldingHead).ring.descriptors.get 0).state = .ready ∧
    (atBoundary yieldingHead).ring.occupancy = 1 ∧
    (atBoundary yieldingHead).ring.waiting = [] := by
  refine ⟨⟨?_, ?_, ?_, ?_⟩, ⟨?_, ?_, ?_⟩, ⟨?_, ?_, ?_, ?_, ?_⟩, ⟨?_, ?_, ?_, ?_⟩, ?_, ?_, ?_, ?_, ?_, ?_, ?_, ?_, ?_⟩ <;> decide +kernel

/-- Meets the hypotheses of RolloverInstallsTheFrozenPlacement. -/
theorem witness_rollover_leaves_a_frame_on_the_line :
    BoundaryDue cfg (atBoundary yieldingSending) ∧
    CrossingDue (20000 : Nat) (atBoundary yieldingSending) ∧
    RingSound (atBoundary yieldingSending) ∧
    RequestsSound (atBoundary yieldingSending) ∧
    settledState (atBoundary yieldingSending).supervisor.station = true ∧
    linkSends (atBoundary yieldingSending).link.state = true ∧
    (atBoundary yieldingSending).placement.computation = none ∧
    ((headDescriptor (atBoundary yieldingSending).ring).state = .ready ∨ (headDescriptor (atBoundary yieldingSending).ring).state = .sending) ∧
    (atBoundary yieldingSending).placement.request = .queued 0 ∧
    occupied (atBoundary yieldingSending).ring 0 = true ∧
    ((atBoundary yieldingSending).ring.descriptors.get 0).state = .sending ∧
    (atBoundary yieldingSending).link.attempt.isSome = true ∧
    (atBoundary yieldingSending).link.inHand = some .ring := by
  refine ⟨⟨?_, ?_, ?_, ?_⟩, ⟨?_, ?_, ?_⟩, ⟨?_, ?_, ?_, ?_, ?_⟩, ⟨?_, ?_, ?_, ?_⟩, ?_, ?_, ?_, ?_, ?_, ?_, ?_, ?_, ?_⟩ <;> decide +kernel

/-- Meets the hypotheses of RolloverInstallsTheFrozenPlacement. -/
theorem witness_rollover_ends_a_frame_between_attempts :
    BoundaryDue cfg (atBoundary (betweenAttempts yieldingSending)) ∧
    CrossingDue (20000 : Nat) (atBoundary (betweenAttempts yieldingSending)) ∧
    RingSound (atBoundary (betweenAttempts yieldingSending)) ∧
    RequestsSound (atBoundary (betweenAttempts yieldingSending)) ∧
    settledState (atBoundary (betweenAttempts yieldingSending)).supervisor.station = true ∧
    linkSends (atBoundary (betweenAttempts yieldingSending)).link.state = true ∧
    (atBoundary (betweenAttempts yieldingSending)).placement.computation = none ∧
    ((headDescriptor (atBoundary (betweenAttempts yieldingSending)).ring).state = .ready ∨ (headDescriptor (atBoundary (betweenAttempts yieldingSending)).ring).state = .sending) ∧
    (atBoundary (betweenAttempts yieldingSending)).placement.request = .queued 0 ∧
    occupied (atBoundary (betweenAttempts yieldingSending)).ring 0 = true ∧
    ((atBoundary (betweenAttempts yieldingSending)).ring.descriptors.get 0).state = .sending ∧
    (atBoundary (betweenAttempts yieldingSending)).link.attempt = none ∧
    (atBoundary (betweenAttempts yieldingSending)).ring.occupancy = 1 ∧
    (atBoundary (betweenAttempts yieldingSending)).ring.waiting = [] := by
  refine ⟨⟨?_, ?_, ?_, ?_⟩, ⟨?_, ?_, ?_⟩, ⟨?_, ?_, ?_, ?_, ?_⟩, ⟨?_, ?_, ?_, ?_⟩, ?_, ?_, ?_, ?_, ?_, ?_, ?_, ?_, ?_, ?_⟩ <;> decide +kernel

/-- Meets the hypotheses of RolloverInstallsTheFrozenPlacement. -/
theorem witness_rollover_leaves_a_recorded_cancel :
    BoundaryDue cfg (atBoundary (cancelling yieldingSending)) ∧
    CrossingDue (20000 : Nat) (atBoundary (cancelling yieldingSending)) ∧
    RingSound (atBoundary (cancelling yieldingSending)) ∧
    RequestsSound (atBoundary (cancelling yieldingSending)) ∧
    settledState (atBoundary (cancelling yieldingSending)).supervisor.station = true ∧
    linkSends (atBoundary (cancelling yieldingSending)).link.state = true ∧
    (atBoundary (cancelling yieldingSending)).placement.computation = none ∧
    ((headDescriptor (atBoundary (cancelling yieldingSending)).ring).state = .ready ∨ (headDescriptor (atBoundary (cancelling yieldingSending)).ring).state = .sending) ∧
    (atBoundary (cancelling yieldingSending)).placement.request = .cancelRecorded 0 ∧
    occupied (atBoundary (cancelling yieldingSending)).ring 0 = true := by
  refine ⟨⟨?_, ?_, ?_, ?_⟩, ⟨?_, ?_, ?_⟩, ⟨?_, ?_, ?_, ?_, ?_⟩, ⟨?_, ?_, ?_, ?_⟩, ?_, ?_, ?_, ?_, ?_, ?_⟩ <;> decide +kernel

/-- Meets the hypotheses of RolloverInstallsTheFrozenPlacement. -/
theorem witness_late_completion_changes_nothing :
    activeSettings (sendingAs .place 1 4 running) = some cfg ∧
    (sendingAs .place 1 4 running).link.attempt = some (attemptOf .place) ∧
    (sendingAs .place 1 4 running).link.inHand = some .ring ∧
    (headDescriptor (sendingAs .place 1 4 running).ring).state = .sending ∧
    (headDescriptor (sendingAs .place 1 4 running).ring).producer = some .place ∧
    linkSends (sendingAs .place 1 4 running).link.state = true ∧
    (sendingAs .place 1 4 running).link.tec < 192 ∧
    (sendingAs .place 1 4 running).placement.computation = none ∧
    (sendingAs .place 1 4 running).placement.request = .none ∧
    (sendingAs .place 1 4 running).ring.occupancy = 1 ∧
    (sendingAs .place 1 4 running).ring.waiting = [] ∧
    (sendingAs .place 1 4 running).ring.descriptors.get ((sendingAs .place 1 4 running).ring.head + 1) = Descriptor.freed ∧
    txCompare (attemptOf .place).sent ((attemptOf .place).samples ++ (levelsOf .place ++ false :: List.replicate 7 true)) = .success [] := by
  refine ⟨?_, ?_, ?_, ?_, ?_, ?_, ?_, ?_, ?_, ?_, ?_, ?_, ?_⟩ <;> decide +kernel

/-- Meets the hypotheses of DispatchDeliversItsEntry. -/
theorem witness_boundary_only_place_is_delivered :
    activeSettings movedPeer = some cfg ∧
    movedPeer.placement.computation = none ∧
    movedPeer.queue.entries = boundaryEntry :: ([lineEntry] : List QueueEntry) ∧
    boundaryEntry.order = some (4 : Nat) ∧
    boundaryEntry.target = some ((movedPeer.timeBase.cycle + 1).setWidth 8) ∧
    boundaryEntry.routes.placement = false := by
  refine ⟨?_, ?_, ?_, ?_, ?_, ?_⟩ <;> decide +kernel

/-- Meets the hypotheses of DispatchDeliversItsEntry. -/
theorem witness_boundary_only_place_is_delivered_unknown :
    activeSettings (queued boundaryEntry running) = some cfg ∧
    (queued boundaryEntry running).placement.computation = none ∧
    (queued boundaryEntry running).queue.entries = boundaryEntry :: ([lineEntry] : List QueueEntry) ∧
    boundaryEntry.order = some (4 : Nat) ∧
    boundaryEntry.target = some (((queued boundaryEntry running).timeBase.cycle + 1).setWidth 8) ∧
    boundaryEntry.routes.placement = false := by
  refine ⟨?_, ?_, ?_, ?_, ?_, ?_⟩ <;> decide +kernel

/-- Meets the hypotheses of UnannouncedYieldWithdrawsOrCancels. -/
theorem witness_yield_with_no_request :
    YieldingDispatch cfg (placeEntry false) ([lineEntry] : List QueueEntry) (4 : Nat) yielding ∧
    yielding.placement.announced = none ∧
    yielding.placement.request = .none := by
  refine ⟨⟨?_, ?_, ?_, ?_, ?_, ?_, ?_, ?_, ?_, ?_⟩, ?_, ?_⟩ <;> decide +kernel

/-- Meets the hypotheses of UnannouncedYieldWithdrawsOrCancels. -/
theorem witness_yield_withdraws_a_waiting_request :
    YieldingDispatch cfg (placeEntry false) ([lineEntry] : List QueueEntry) (4 : Nat) yieldingWaiting ∧
    yieldingWaiting.placement.request = .waiting := by
  refine ⟨⟨?_, ?_, ?_, ?_, ?_, ?_, ?_, ?_, ?_, ?_⟩, ?_⟩ <;> decide +kernel

/-- Meets the hypotheses of UnannouncedYieldWithdrawsOrCancels. -/
theorem witness_yield_voids_a_ready_descriptor :
    YieldingDispatch cfg (placeEntry false) ([lineEntry] : List QueueEntry) (4 : Nat) yieldingBehind ∧
    yieldingBehind.placement.request = .queued (1 : Index) ∧
    (1 : Index) ≠ yieldingBehind.ring.head ∧
    (yieldingBehind.ring.descriptors.get (1 : Index)).state = .ready ∧
    ((headDescriptor yieldingBehind.ring).state = .sending ∨ ((headDescriptor yieldingBehind.ring).state = .ready ∧ linkSends yieldingBehind.link.state = true)) := by
  refine ⟨⟨?_, ?_, ?_, ?_, ?_, ?_, ?_, ?_, ?_, ?_⟩, ?_, ?_, ?_, ?_⟩ <;> decide +kernel

/-- Meets the hypotheses of UnannouncedYieldWithdrawsOrCancels. -/
theorem witness_yield_voids_the_head :
    YieldingDispatch cfg (placeEntry false) ([lineEntry] : List QueueEntry) (4 : Nat) yieldingHead ∧
    yieldingHead.placement.request = .queued yieldingHead.ring.head ∧
    (headDescriptor yieldingHead.ring).state = .ready ∧
    (headDescriptor yieldingHead.ring).producer = some .place ∧
    yieldingHead.ring.waiting = [] ∧
    yieldingHead.ring.occupancy = 1 ∧
    yieldingHead.ring.descriptors.get (yieldingHead.ring.head + 1) = Descriptor.freed := by
  refine ⟨⟨?_, ?_, ?_, ?_, ?_, ?_, ?_, ?_, ?_, ?_⟩, ?_, ?_, ?_, ?_, ?_, ?_⟩ <;> decide +kernel

/-- Meets the hypotheses of UnannouncedYieldWithdrawsOrCancels. -/
theorem witness_yield_cancels_a_sending_frame :
    YieldingDispatch cfg (placeEntry false) ([lineEntry] : List QueueEntry) (4 : Nat) yieldingSending ∧
    (headDescriptor yieldingSending.ring).state = .sending ∧
    (headDescriptor yieldingSending.ring).producer = some .place := by
  refine ⟨⟨?_, ?_, ?_, ?_, ?_, ?_, ?_, ?_, ?_, ?_⟩, ?_, ?_⟩ <;> decide +kernel

/-- Meets the hypotheses of UnannouncedYieldWithdrawsOrCancels. -/
theorem witness_yield_cancels_a_sending_frame_between :
    YieldingDispatch cfg (placeEntry false) ([lineEntry] : List QueueEntry) (4 : Nat) (betweenAttempts yieldingSending) ∧
    (headDescriptor (betweenAttempts yieldingSending).ring).state = .sending ∧
    (headDescriptor (betweenAttempts yieldingSending).ring).producer = some .place := by
  refine ⟨⟨?_, ?_, ?_, ?_, ?_, ?_, ?_, ?_, ?_, ?_⟩, ?_, ?_⟩ <;> decide +kernel

/-- Meets the hypotheses of UnannouncedYieldWithdrawsOrCancels. -/
theorem witness_yield_cancels_a_sending_frame_again :
    YieldingDispatch cfg (placeEntry false) ([lineEntry] : List QueueEntry) (4 : Nat) (cancelling yieldingSending) ∧
    (headDescriptor (cancelling yieldingSending).ring).state = .sending ∧
    (headDescriptor (cancelling yieldingSending).ring).producer = some .place := by
  refine ⟨⟨?_, ?_, ?_, ?_, ?_, ?_, ?_, ?_, ?_, ?_⟩, ?_, ?_⟩ <;> decide +kernel

/-- Meets the hypotheses of LineTrackingTakesItsBits. -/
theorem witness_recessive_bits_are_counted :
    activeSettings (idle 4 listening) = some cfg ∧
    (idle 4 listening).link.state ≠ .detached ∧
    (idle 4 listening).link.tracking = .idle (4 : Nat) := by
  refine ⟨?_, ?_, ?_⟩ <;> decide +kernel

/-- Meets the hypotheses of LostArbitrationAndDetachment. -/
theorem witness_lost_arbitration_keeps_the_frame :
    activeSettings (readyToSend 0) = some cfg ∧
    (readyToSend 0).link.tracking = .idle (0 : Nat) ∧
    (((readyToSend 0).link.state = .active ∧ 3 ≤ (0 : Nat) + (3 : Nat)) ∨ ((readyToSend 0).link.state = .passive ∧ 11 ≤ (0 : Nat) + (3 : Nat))) ∧
    (readyToSend 0).ring.mailbox = .empty ∧
    (headDescriptor (readyToSend 0).ring).producer = some (.place : Producer) ∧
    ((headDescriptor (readyToSend 0).ring).state = .ready ∨ (headDescriptor (readyToSend 0).ring).state = .sending) ∧
    (headDescriptor (readyToSend 0).ring).cancel = false ∧
    txCompare (sentBits (producerKind (.place : Producer)) cfg.address cfg.group (headDescriptor (readyToSend 0).ring).payload) ([false, false] : List Bool) = .lost ([] : List Bool) := by
  refine ⟨?_, ?_, ?_, ?_, ?_, ?_, ?_, ?_⟩ <;> decide +kernel

/-- Meets the hypotheses of LostArbitrationAndDetachment. -/
theorem witness_lost_arbitration_keeps_the_frame_passive :
    activeSettings (passive (readyToSend 4)) = some cfg ∧
    (passive (readyToSend 4)).link.tracking = .idle (4 : Nat) ∧
    (((passive (readyToSend 4)).link.state = .active ∧ 3 ≤ (4 : Nat) + (7 : Nat)) ∨ ((passive (readyToSend 4)).link.state = .passive ∧ 11 ≤ (4 : Nat) + (7 : Nat))) ∧
    (passive (readyToSend 4)).ring.mailbox = .empty ∧
    (headDescriptor (passive (readyToSend 4)).ring).producer = some (.place : Producer) ∧
    ((headDescriptor (passive (readyToSend 4)).ring).state = .ready ∨ (headDescriptor (passive (readyToSend 4)).ring).state = .sending) ∧
    (headDescriptor (passive (readyToSend 4)).ring).cancel = false ∧
    txCompare (sentBits (producerKind (.place : Producer)) cfg.address cfg.group (headDescriptor (passive (readyToSend 4)).ring).payload) ([false, false] : List Bool) = .lost ([] : List Bool) := by
  refine ⟨?_, ?_, ?_, ?_, ?_, ?_, ?_, ?_⟩ <;> decide +kernel

/-- Meets the hypotheses of LostArbitrationAndDetachment. -/
theorem witness_lost_arbitration_ends_a_cancelled_frame :
    activeSettings (cancelling (requesting (sendingAs .place 1 4 running))) = some cfg ∧
    (cancelling (requesting (sendingAs .place 1 4 running))).link.attempt = some (attemptOf .place) ∧
    (cancelling (requesting (sendingAs .place 1 4 running))).link.inHand = some .ring ∧
    (headDescriptor (cancelling (requesting (sendingAs .place 1 4 running))).ring).state = .sending ∧
    (headDescriptor (cancelling (requesting (sendingAs .place 1 4 running))).ring).cancel = true ∧
    (headDescriptor (cancelling (requesting (sendingAs .place 1 4 running))).ring).producer = some .place ∧
    (cancelling (requesting (sendingAs .place 1 4 running))).placement.request = .cancelRecorded (cancelling (requesting (sendingAs .place 1 4 running))).ring.head ∧
    (cancelling (requesting (sendingAs .place 1 4 running))).placement.computation = none ∧
    (cancelling (requesting (sendingAs .place 1 4 running))).timeBase.takenSlot < 28 ∧
    (cancelling (requesting (sendingAs .place 1 4 running))).supervisor.station = .running ∧
    (cancelling (requesting (sendingAs .place 1 4 running))).ring.occupancy = 1 ∧
    (cancelling (requesting (sendingAs .place 1 4 running))).ring.waiting = [] ∧
    (cancelling (requesting (sendingAs .place 1 4 running))).ring.descriptors.get ((cancelling (requesting (sendingAs .place 1 4 running))).ring.head + 1) = Descriptor.freed ∧
    txCompare (attemptOf .place).sent ((attemptOf .place).samples ++ ([false, false] : List Bool)) = .lost ([] : List Bool) := by
  refine ⟨?_, ?_, ?_, ?_, ?_, ?_, ?_, ?_, ?_, ?_, ?_, ?_, ?_, ?_⟩ <;> decide +kernel

/-- Meets the hypotheses of LostArbitrationAndDetachment. -/
theorem witness_detachment_fails_every_frame :
    activeSettings (offering (requesting (sendingAs .place 1 188 running))) = some cfg ∧
    (offering (requesting (sendingAs .place 1 188 running))).link.attempt = some (attemptOf .place) ∧
    linkSends (offering (requesting (sendingAs .place 1 188 running))).link.state = true ∧
    188 ≤ (offering (requesting (sendingAs .place 1 188 running))).link.tec ∧
    (offering (requesting (sendingAs .place 1 188 running))).ring.waiting = [] ∧
    txCompare (attemptOf .place).sent ((attemptOf .place).samples ++ (levelsOf .place ++ [false, false])) = .endReject [] := by
  refine ⟨?_, ?_, ?_, ?_, ?_, ?_⟩ <;> decide +kernel

/-- Meets the hypotheses of SuccessfulAttemptCompletesTheFrame. -/
theorem witness_own_place_success_is_announced :
    activeSettings (requesting (sendingAs .place 1 4 running)) = some cfg ∧
    (requesting (sendingAs .place 1 4 running)).link.attempt = some (attemptOf .place) ∧
    (requesting (sendingAs .place 1 4 running)).link.inHand = some .ring ∧
    (headDescriptor (requesting (sendingAs .place 1 4 running)).ring).state = .sending ∧
    (headDescriptor (requesting (sendingAs .place 1 4 running)).ring).producer = some .place ∧
    linkSends (requesting (sendingAs .place 1 4 running)).link.state = true ∧
    (requesting (sendingAs .place 1 4 running)).link.tec < 192 ∧
    (requesting (sendingAs .place 1 4 running)).placement.computation = none ∧
    ((requesting (sendingAs .place 1 4 running)).placement.request = .queued (requesting (sendingAs .place 1 4 running)).ring.head ∨ (requesting (sendingAs .place 1 4 running)).placement.request = .cancelRecorded (requesting (sendingAs .place 1 4 running)).ring.head) ∧
    (requesting (sendingAs .place 1 4 running)).ring.occupancy = 1 ∧
    (requesting (sendingAs .place 1 4 running)).ring.waiting = [] ∧
    (requesting (sendingAs .place 1 4 running)).ring.descriptors.get ((requesting (sendingAs .place 1 4 running)).ring.head + 1) = Descriptor.freed ∧
    yieldFails cfg (setOwn (requesting (sendingAs .place 1 4 running)).placement.requestRuns (min 255 ((requesting (sendingAs .place 1 4 running)).placement.orderCounter + 1)) (requesting (sendingAs .place 1 4 running)).placement.map) = false ∧
    txCompare (attemptOf .place).sent ((attemptOf .place).samples ++ (levelsOf .place ++ false :: List.replicate 7 true)) = .success [] := by
  refine ⟨?_, ?_, ?_, ?_, ?_, ?_, ?_, ?_, ?_, ?_, ?_, ?_, ?_, ?_⟩ <;> decide +kernel

/-- Meets the hypotheses of SuccessfulAttemptCompletesTheFrame. -/
theorem witness_own_place_success_is_announced_cancelled :
    activeSettings (cancelling (requesting (sendingAs .place 1 4 { running with timeBase := { running.timeBase with takenSlot := 28 } }))) = some cfg ∧
    (cancelling (requesting (sendingAs .place 1 4 { running with timeBase := { running.timeBase with takenSlot := 28 } }))).link.attempt = some (attemptOf .place) ∧
    (cancelling (requesting (sendingAs .place 1 4 { running with timeBase := { running.timeBase with takenSlot := 28 } }))).link.inHand = some .ring ∧
    (headDescriptor (cancelling (requesting (sendingAs .place 1 4 { running with timeBase := { running.timeBase with takenSlot := 28 } }))).ring).state = .sending ∧
    (headDescriptor (cancelling (requesting (sendingAs .place 1 4 { running with timeBase := { running.timeBase with takenSlot := 28 } }))).ring).producer = some .place ∧
    linkSends (cancelling (requesting (sendingAs .place 1 4 { running with timeBase := { running.timeBase with takenSlot := 28 } }))).link.state = true ∧
    (cancelling (requesting (sendingAs .place 1 4 { running with timeBase := { running.timeBase with takenSlot := 28 } }))).link.tec < 192 ∧
    (cancelling (requesting (sendingAs .place 1 4 { running with timeBase := { running.timeBase with takenSlot := 28 } }))).placement.computation = none ∧
    ((cancelling (requesting (sendingAs .place 1 4 { running with timeBase := { running.timeBase with takenSlot := 28 } }))).placement.request = .queued (cancelling (requesting (sendingAs .place 1 4 { running with timeBase := { running.timeBase with takenSlot := 28 } }))).ring.head ∨ (cancelling (requesting (sendingAs .place 1 4 { running with timeBase := { running.timeBase with takenSlot := 28 } }))).placement.request = .cancelRecorded (cancelling (requesting (sendingAs .place 1 4 { running with timeBase := { running.timeBase with takenSlot := 28 } }))).ring.head) ∧
    (cancelling (requesting (sendingAs .place 1 4 { running with timeBase := { running.timeBase with takenSlot := 28 } }))).ring.occupancy = 1 ∧
    (cancelling (requesting (sendingAs .place 1 4 { running with timeBase := { running.timeBase with takenSlot := 28 } }))).ring.waiting = [] ∧
    (cancelling (requesting (sendingAs .place 1 4 { running with timeBase := { running.timeBase with takenSlot := 28 } }))).ring.descriptors.get ((cancelling (requesting (sendingAs .place 1 4 { running with timeBase := { running.timeBase with takenSlot := 28 } }))).ring.head + 1) = Descriptor.freed ∧
    yieldFails cfg (setOwn (cancelling (requesting (sendingAs .place 1 4 { running with timeBase := { running.timeBase with takenSlot := 28 } }))).placement.requestRuns (min 255 ((cancelling (requesting (sendingAs .place 1 4 { running with timeBase := { running.timeBase with takenSlot := 28 } }))).placement.orderCounter + 1)) (cancelling (requesting (sendingAs .place 1 4 { running with timeBase := { running.timeBase with takenSlot := 28 } }))).placement.map) = false ∧
    txCompare (attemptOf .place).sent ((attemptOf .place).samples ++ (levelsOf .place ++ false :: List.replicate 7 true)) = .success [] := by
  refine ⟨?_, ?_, ?_, ?_, ?_, ?_, ?_, ?_, ?_, ?_, ?_, ?_, ?_, ?_⟩ <;> decide +kernel

/-- Meets the hypotheses of SuccessfulAttemptCompletesTheFrame. -/
theorem witness_line_success :
    activeSettings (sendingLine .standing) = some cfg ∧
    (sendingLine .standing).link.attempt = some (attemptOf .line) ∧
    (sendingLine .standing).link.inHand = some .ring ∧
    (headDescriptor (sendingLine .standing).ring).state = .sending ∧
    (headDescriptor (sendingLine .standing).ring).reason = none ∧
    (headDescriptor (sendingLine .standing).ring).producer = some .line ∧
    linkSends (sendingLine .standing).link.state = true ∧
    (sendingLine .standing).link.tec < 192 ∧
    settledState (sendingLine .standing).supervisor.station = true ∧
    (sendingLine .standing).ring.occupancy = 1 ∧
    (sendingLine .standing).ring.waiting = [] ∧
    (sendingLine .standing).ring.fill = (sendingLine .standing).ring.head + 1 ∧
    (sendingLine .standing).ring.descriptors.get ((sendingLine .standing).ring.head + 1) = Descriptor.freed ∧
    (sendingLine .standing).peers.flow.carried = some (.standing : FlowLevel) ∧
    (sendingLine .standing).peers.flow.confirmed = some (.standing : FlowLevel) ∧
    txCompare (attemptOf .line).sent ((attemptOf .line).samples ++ (levelsOf .line ++ false :: List.replicate 7 true)) = .success [] := by
  refine ⟨?_, ?_, ?_, ?_, ?_, ?_, ?_, ?_, ?_, ?_, ?_, ?_, ?_, ?_, ?_, ?_⟩ <;> decide +kernel

/-- Meets the hypotheses of SuccessfulAttemptCompletesTheFrame. -/
theorem witness_line_success_moved :
    activeSettings (sendingLine .flowing) = some cfg ∧
    (sendingLine .flowing).link.attempt = some (attemptOf .line) ∧
    (sendingLine .flowing).link.inHand = some .ring ∧
    (headDescriptor (sendingLine .flowing).ring).state = .sending ∧
    (headDescriptor (sendingLine .flowing).ring).reason = none ∧
    (headDescriptor (sendingLine .flowing).ring).producer = some .line ∧
    linkSends (sendingLine .flowing).link.state = true ∧
    (sendingLine .flowing).link.tec < 192 ∧
    settledState (sendingLine .flowing).supervisor.station = true ∧
    (sendingLine .flowing).ring.occupancy = 1 ∧
    (sendingLine .flowing).ring.waiting = [] ∧
    (sendingLine .flowing).ring.fill = (sendingLine .flowing).ring.head + 1 ∧
    (sendingLine .flowing).ring.descriptors.get ((sendingLine .flowing).ring.head + 1) = Descriptor.freed ∧
    (sendingLine .flowing).peers.flow.carried = some (.standing : FlowLevel) ∧
    (sendingLine .flowing).peers.flow.confirmed = some (.flowing : FlowLevel) ∧
    txCompare (attemptOf .line).sent ((attemptOf .line).samples ++ (levelsOf .line ++ false :: List.replicate 7 true)) = .success [] := by
  refine ⟨?_, ?_, ?_, ?_, ?_, ?_, ?_, ?_, ?_, ?_, ?_, ?_, ?_, ?_, ?_, ?_⟩ <;> decide +kernel

/-- Meets the hypotheses of SuccessfulAttemptCompletesTheFrame. -/
theorem witness_status_success :
    activeSettings (sendingAs .status 2 4 running) = some cfg ∧
    (sendingAs .status 2 4 running).link.attempt = some (attemptOf .status) ∧
    (sendingAs .status 2 4 running).link.inHand = some .ring ∧
    (headDescriptor (sendingAs .status 2 4 running).ring).state = .sending ∧
    (headDescriptor (sendingAs .status 2 4 running).ring).reason = none ∧
    (headDescriptor (sendingAs .status 2 4 running).ring).producer = some .status ∧
    linkSends (sendingAs .status 2 4 running).link.state = true ∧
    (sendingAs .status 2 4 running).link.tec < 192 ∧
    (sendingAs .status 2 4 running).ring.occupancy = 1 ∧
    (sendingAs .status 2 4 running).ring.waiting = [] ∧
    (sendingAs .status 2 4 running).ring.descriptors.get ((sendingAs .status 2 4 running).ring.head + 1) = Descriptor.freed ∧
    txCompare (attemptOf .status).sent ((attemptOf .status).samples ++ (levelsOf .status ++ false :: List.replicate 7 true)) = .success [] := by
  refine ⟨?_, ?_, ?_, ?_, ?_, ?_, ?_, ?_, ?_, ?_, ?_, ?_⟩ <;> decide +kernel

/-- Meets the hypotheses of FailedAttemptCountsAndEnds. -/
theorem witness_failed_place_is_recorded :
    activeSettings (requesting (sendingAs .place 3 4 { running with placement := freezing.placement })) = some cfg ∧
    (requesting (sendingAs .place 3 4 { running with placement := freezing.placement })).link.attempt = some (attemptOf .place) ∧
    (requesting (sendingAs .place 3 4 { running with placement := freezing.placement })).link.inHand = some .ring ∧
    (headDescriptor (requesting (sendingAs .place 3 4 { running with placement := freezing.placement })).ring).state = .sending ∧
    (headDescriptor (requesting (sendingAs .place 3 4 { running with placement := freezing.placement })).ring).producer = some .place ∧
    linkSends (requesting (sendingAs .place 3 4 { running with placement := freezing.placement })).link.state = true ∧
    (requesting (sendingAs .place 3 4 { running with placement := freezing.placement })).link.tec < 188 ∧
    (requesting (sendingAs .place 3 4 { running with placement := freezing.placement })).placement.computation = none ∧
    (requesting (sendingAs .place 3 4 { running with placement := freezing.placement })).timeBase.takenSlot < 28 ∧
    (requesting (sendingAs .place 3 4 { running with placement := freezing.placement })).ring.occupancy = 1 ∧
    (requesting (sendingAs .place 3 4 { running with placement := freezing.placement })).ring.waiting = [] ∧
    (requesting (sendingAs .place 3 4 { running with placement := freezing.placement })).ring.descriptors.get ((requesting (sendingAs .place 3 4 { running with placement := freezing.placement })).ring.head + 1) = Descriptor.freed ∧
    (txCompare (attemptOf .place).sent ((attemptOf .place).samples ++ (levelsOf .place ++ [false, false])) = .endReject [] ∨ txCompare (attemptOf .place).sent ((attemptOf .place).samples ++ (levelsOf .place ++ [false, false])) = .ackError []) := by
  refine ⟨?_, ?_, ?_, ?_, ?_, ?_, ?_, ?_, ?_, ?_, ?_, ?_, ?_⟩ <;> decide +kernel

/-- Meets the hypotheses of FailedAttemptCountsAndEnds. -/
theorem witness_failed_place_is_recorded_no_ack :
    activeSettings (requesting (sendingAs .place 3 4 running)) = some cfg ∧
    (requesting (sendingAs .place 3 4 running)).link.attempt = some (attemptOf .place) ∧
    (requesting (sendingAs .place 3 4 running)).link.inHand = some .ring ∧
    (headDescriptor (requesting (sendingAs .place 3 4 running)).ring).state = .sending ∧
    (headDescriptor (requesting (sendingAs .place 3 4 running)).ring).producer = some .place ∧
    linkSends (requesting (sendingAs .place 3 4 running)).link.state = true ∧
    (requesting (sendingAs .place 3 4 running)).link.tec < 188 ∧
    (requesting (sendingAs .place 3 4 running)).placement.computation = none ∧
    (requesting (sendingAs .place 3 4 running)).timeBase.takenSlot < 28 ∧
    (requesting (sendingAs .place 3 4 running)).ring.occupancy = 1 ∧
    (requesting (sendingAs .place 3 4 running)).ring.waiting = [] ∧
    (requesting (sendingAs .place 3 4 running)).ring.descriptors.get ((requesting (sendingAs .place 3 4 running)).ring.head + 1) = Descriptor.freed ∧
    (txCompare (attemptOf .place).sent ((attemptOf .place).samples ++ (levelsOf .place ++ [true])) = .endReject [] ∨ txCompare (attemptOf .place).sent ((attemptOf .place).samples ++ (levelsOf .place ++ [true])) = .ackError []) := by
  refine ⟨?_, ?_, ?_, ?_, ?_, ?_, ?_, ?_, ?_, ?_, ?_, ?_, ?_⟩ <;> decide +kernel

/-- Meets the hypotheses of FailedAttemptCountsAndEnds. -/
theorem witness_failed_place_is_recorded_cancelled :
    activeSettings (cancelling (requesting (sendingAs .place 0 4 running))) = some cfg ∧
    (cancelling (requesting (sendingAs .place 0 4 running))).link.attempt = some (attemptOf .place) ∧
    (cancelling (requesting (sendingAs .place 0 4 running))).link.inHand = some .ring ∧
    (headDescriptor (cancelling (requesting (sendingAs .place 0 4 running))).ring).state = .sending ∧
    (headDescriptor (cancelling (requesting (sendingAs .place 0 4 running))).ring).producer = some .place ∧
    linkSends (cancelling (requesting (sendingAs .place 0 4 running))).link.state = true ∧
    (cancelling (requesting (sendingAs .place 0 4 running))).link.tec < 188 ∧
    (cancelling (requesting (sendingAs .place 0 4 running))).placement.computation = none ∧
    (cancelling (requesting (sendingAs .place 0 4 running))).timeBase.takenSlot < 28 ∧
    (cancelling (requesting (sendingAs .place 0 4 running))).ring.occupancy = 1 ∧
    (cancelling (requesting (sendingAs .place 0 4 running))).ring.waiting = [] ∧
    (cancelling (requesting (sendingAs .place 0 4 running))).ring.descriptors.get ((cancelling (requesting (sendingAs .place 0 4 running))).ring.head + 1) = Descriptor.freed ∧
    (txCompare (attemptOf .place).sent ((attemptOf .place).samples ++ (levelsOf .place ++ [false, false])) = .endReject [] ∨ txCompare (attemptOf .place).sent ((attemptOf .place).samples ++ (levelsOf .place ++ [false, false])) = .ackError []) := by
  refine ⟨?_, ?_, ?_, ?_, ?_, ?_, ?_, ?_, ?_, ?_, ?_, ?_, ?_⟩ <;> decide +kernel

/-- Meets the hypotheses of FailedAttemptCountsAndEnds. -/
theorem witness_failed_line_is_adopted :
    activeSettings (failingLine .standing) = some cfg ∧
    (failingLine .standing).link.attempt = some (attemptOf .line) ∧
    (failingLine .standing).link.inHand = some .ring ∧
    (headDescriptor (failingLine .standing).ring).state = .sending ∧
    (headDescriptor (failingLine .standing).ring).producer = some .line ∧
    (headDescriptor (failingLine .standing).ring).cancel = false ∧
    linkSends (failingLine .standing).link.state = true ∧
    (failingLine .standing).link.tec < 188 ∧
    (failingLine .standing).link.ringTries.count = 3 ∧
    (failingLine .standing).ring.occupancy = 1 ∧
    (failingLine .standing).ring.waiting = [] ∧
    (failingLine .standing).ring.descriptors.get ((failingLine .standing).ring.head + 1) = Descriptor.freed ∧
    (failingLine .standing).peers.flow.confirmed = some (.standing : FlowLevel) ∧
    (failingLine .standing).peers.flow.carried = some (.standing : FlowLevel) ∧
    txCompare (attemptOf .line).sent ((attemptOf .line).samples ++ (levelsOf .line ++ [false, false])) = .endReject [] := by
  refine ⟨?_, ?_, ?_, ?_, ?_, ?_, ?_, ?_, ?_, ?_, ?_, ?_, ?_, ?_, ?_⟩ <;> decide +kernel

/-- Meets the hypotheses of AddressClashSilencesTheStation. -/
theorem witness_address_clash_silences_the_station_time :
    activeSettings clashing = some cfg ∧
    clashing.link.reception = some reception1 ∧
    rxFrame (reception1.bits ++ (lineFrame 0 5 2 timeBytes1)) = .received (frameOf 0 5 2 timeBytes1) [] ∧
    frameValid (frameOf 0 5 2 timeBytes1) = true ∧
    (frameOf 0 5 2 timeBytes1).source = cfg.address ∧
    clashing.link.clash = false ∧
    clashing.ring.waiting = [] := by
  refine ⟨?_, ?_, ?_, ?_, ?_, ?_, ?_⟩ <;> decide +kernel

/-- Meets the hypotheses of AddressClashSilencesTheStation. -/
theorem witness_address_clash_silences_the_station_line :
    activeSettings clashing = some cfg ∧
    clashing.link.reception = some reception1 ∧
    rxFrame (reception1.bits ++ (lineFrame 1 5 2 [2, 7, 0, 0])) = .received (frameOf 1 5 2 [2, 7, 0, 0]) [] ∧
    frameValid (frameOf 1 5 2 [2, 7, 0, 0]) = true ∧
    (frameOf 1 5 2 [2, 7, 0, 0]).source = cfg.address ∧
    clashing.link.clash = false ∧
    clashing.ring.waiting = [] := by
  refine ⟨?_, ?_, ?_, ?_, ?_, ?_, ?_⟩ <;> decide +kernel

/-- Meets the hypotheses of AddressClashSilencesTheStation. -/
theorem witness_address_clash_silences_the_station_place :
    activeSettings clashing = some cfg ∧
    clashing.link.reception = some reception1 ∧
    rxFrame (reception1.bits ++ (lineFrame 2 5 2 placeBytes1)) = .received (frameOf 2 5 2 placeBytes1) [] ∧
    frameValid (frameOf 2 5 2 placeBytes1) = true ∧
    (frameOf 2 5 2 placeBytes1).source = cfg.address ∧
    clashing.link.clash = false ∧
    clashing.ring.waiting = [] := by
  refine ⟨?_, ?_, ?_, ?_, ?_, ?_, ?_⟩ <;> decide +kernel

/-! ### The hypotheses inside clauses, and of the invariants -/

/-- Meets the hypotheses of LossAndOscillatorKeepTimeWithoutMains. -/
theorem witness_oscillator_ends_one_mains_cycle :
    running.timeBase.source = .mains ∧
    (monitoring (onOscillator 2 State.reset) = true ∧ (onOscillator 2 State.reset).timeBase.source = .oscillator ∧
      activeSettings (onOscillator 2 State.reset) = none) ∧
    activeSettings (onOscillator 2 running) = some cfg ∧ (onOscillator 2 running).timeBase.source = .oscillator ∧
    1 ≤ cfg.slotLen ∧ (onOscillator 2 running).timeBase.position + 1 < 32 * cfg.slotLen ∧
    ((onOscillator 2 running).timeBase.position + 1) / cfg.slotLen = (onOscillator 2 running).timeBase.position / cfg.slotLen := by
  decide +kernel

/-- Meets the hypotheses of LossAndOscillatorKeepTimeWithoutMains. -/
theorem witness_oscillator_position_before_a_slot :
    let s := onOscillator 2 { running with timeBase := { running.timeBase with position := 254, takenSlot := 31 } }
    s.timeBase.position + 1 < 32 * cfg.slotLen ∧ (s.timeBase.position + 1) / cfg.slotLen = s.timeBase.position / cfg.slotLen := by
  decide +kernel

theorem test_measured_load_bounds : 1 ≤ cfg.luWatts ∧ measuredLoad cfg 6000 65535 = 255 ∧ measuredLoad cfg 1250 2300 < 255 := by
  decide +kernel

/-- Meets the hypotheses of HoldMovesTheHoldRequest. -/
theorem witness_hold_moves_the_hold_request :
    running.holdPin = false ∧ running.holdPin ≠ true ∧ resetInProgress running = false ∧
      joinedState running.supervisor.station = true ∧ stepping.supervisor.station = .held ∧
      State.reset.holdPin ≠ true ∧ joinedState State.reset.supervisor.station = false ∧
      (inReset dip true []).holdPin ≠ true ∧ resetInProgress (inReset dip true []) = true := by decide +kernel

/-- Meets the hypotheses of ChannelFollowsItsSamples. -/
theorem witness_channel_clauses :
    (trackingAt 501).state = .tracking ∧ (trackingAt 501).filtered = some 501 ∧ ((551 : Int) - 501).natAbs ≤ cfg.rateLimit ∧
      cfg.rateLimit < ((552 : Int) - 501).natAbs ∧ (trackingAt 501).rejections ≠ 2 ∧
      { trackingAt 501 with rejections := 2 }.rejections = 2 ∧
      (faultChannel .rate channel).state = .faulted ∧ (faultChannel .rate channel).seed = none ∧
      Channel.reset.state = .unseeded := by decide +kernel

/-- Meets the hypotheses of UnannouncedRunsKeepToTheRation. -/
theorem witness_unannounced_runs_keep_to_the_ration :
    cfg.silentLimit ≤ 2 ∧ unannouncedRuns cfg 1 [stuckRun 0 30, runAt 2 3 4 9 0] = [stuckRun 0 30, runAt 2 3 4 9 0] ∧
      unannouncedRuns cfg 1 [runAt 2 3 4 12 0] = [] := by decide +kernel

/-- Meets the hypotheses of UnannouncedRunsKeepToTheRation. -/
theorem witness_ration_removes_from_the_last_run :
    1 < cfg.silentLimit ∧
    WithinRation cfg (([stuckRun 0 30, runAt 2 3 4 9 0] : List Run).filter fun r => !r.stuck) ∧
    (([stuckRun 0 30, runAt 2 3 4 9 0] : List Run).map Run.zone).Nodup := by
  refine ⟨by decide +kernel, by unfold WithinRation; decide +kernel, by decide +kernel⟩

/-- Of two runs that together exceed the ration the last one goes, and the first stays (R92). -/
theorem test_ration_removes_the_last_run :
    unannouncedRuns cfg 1 [runAt 2 3 4 9 0, stuckRun 0 30, runAt 3 5 4 9 0] = [runAt 2 3 4 9 0, stuckRun 0 30] := by decide +kernel

/-- Meets the hypotheses of PayloadsReadBack. -/
theorem witness_time_payload_at_its_bounds : (31 : Nat) < 32 ∧ (15 : Nat) < 16 ∧ (16 : Nat) ≤ 16 := by decide +kernel

/-- Meets the hypotheses of StepKeepsTheGatesSafe. -/
theorem witness_gates_safe :
    let s := (after (.crossing 20000 false) (beforeSlot 31 (heating running))).setPending [.crossing 20000 false]
    s.supervisor.gates.get 0 = true ∧ ResetInStarting s ∧ GatesSafe s ∧ step s = .next (after (.crossing 20000 false) (s.setPending [])) := by
  exact ⟨by decide +kernel, by unfold ResetInStarting; decide +kernel, by unfold GatesSafe; decide +kernel, rfl⟩

/-- Meets the hypotheses of StepKeepsTheRingSound. -/
theorem witness_ring_sound :
    let s := (sendingStatus 3).setPending [.attemptEnd (.sampled (statusSent ++ [false, false]))]
    RingSound s ∧ RequestsSound s ∧
      step s = .next (after (.attemptEnd (.sampled (statusSent ++ [false, false]))) (s.setPending [])) := by
  exact ⟨by constructor <;> decide +kernel, by constructor <;> decide +kernel, rfl⟩

/-- Meets the hypotheses of StepKeepsTheRingSound: a PLACE waits, and is withdrawn. -/
theorem witness_requests_sound_waiting :
    let s := (atBoundary waitingPlace).setPending [.crossing 20000 false]
    RingSound s ∧ RequestsSound s ∧ step s = .next (after (.crossing 20000 false) (s.setPending [])) := by
  exact ⟨by constructor <;> decide +kernel, by constructor <;> decide +kernel, rfl⟩

/-- Meets the hypotheses of StepKeepsTheDriverSafe. -/
theorem witness_driver_safe :
    let s := sendingTime.setPending [.attemptEnd (.sampled timeSent)]
    ResetInStarting s ∧ DriverSafe s ∧ step s = .next (after (.attemptEnd (.sampled timeSent)) (s.setPending [])) := by
  refine ⟨by unfold ResetInStarting; decide +kernel, ⟨by decide +kernel, ?_, by decide +kernel⟩, rfl⟩
  intro left h
  have : Tracking.inFrame 0 = Tracking.rejecting left := h
  cases this

/-- Meets the hypotheses of StepKeepsTheDriverSafe: a reject burst is on the line. -/
theorem witness_driver_safe_rejecting :
    let s := (rejecting 1).setPending [.lineIdle (.sampled [true])]
    ResetInStarting s ∧ DriverSafe s ∧ step s = .next (after (.lineIdle (.sampled [true])) (s.setPending [])) := by
  refine ⟨by unfold ResetInStarting; decide +kernel, ⟨by decide +kernel, ?_, by decide +kernel⟩, rfl⟩
  rintro left h
  have e : left = 1 := by
    have : Tracking.rejecting 1 = Tracking.rejecting left := h
    cases this; rfl
  subst e
  decide +kernel

/-- Meets the hypotheses of StepKeepsTheBounds. -/
theorem witness_bounded :
    let s := (receiving (locked running)).setPending [.frameReceived (.sampled placeBits) false]
    Bounded s ∧ step s = .next (after (.frameReceived (.sampled placeBits) false) (s.setPending [])) := by
  exact ⟨by constructor <;> decide +kernel, rfl⟩

/-- Meets the hypotheses of StepKeepsTheValuesInRange. -/
theorem witness_values_in_range :
    let s := scanning.setPending [.scanCompletion (Six.fill hot) (Six.fill hot)]
    ValuesInRange s ∧ step s = .next (after (.scanCompletion (Six.fill hot) (Six.fill hot)) (s.setPending [])) := by
  refine ⟨⟨?_, ?_, ?_, ?_, ?_, ?_, ?_⟩, rfl⟩
  · rintro c ⟨⟩; decide +kernel
  · intro z t h
    have e : ∀ z : Index, (scanning.scanner.control.get z).filtered = none := by decide +kernel
    exact absurd ((e z).symm.trans h) (by simp)
  · intro z t h
    have e : ∀ z : Index, (scanning.scanner.limiter.get z).filtered = none := by decide +kernel
    exact absurd ((e z).symm.trans h) (by simp)
  · intro z t h
    have e : ∀ z : Index, (scanning.zones.get z).tc = none := by decide +kernel
    exact absurd ((e z).symm.trans h) (by simp)
  all_goals decide +kernel

/-- Meets the hypotheses of StepKeepsThePeersSound. -/
theorem witness_peers_sound :
    let s := (queued (placeEntry false) (knownPeer running)).setPending [.dispatch]
    ResetInStarting s ∧ PeersSound s ∧ step s = .next (after .dispatch (s.setPending [])) := by
  refine ⟨by unfold ResetInStarting; decide +kernel, ⟨by decide +kernel, by decide +kernel, fun a _ => rfl, ?_, by decide +kernel⟩, rfl⟩
  · rintro c ⟨⟩; decide +kernel

/-- Meets the hypotheses of EveryCommandKeepsQueuePinsAndLatch: a crossing begins no reset and a set latch may stand before it. -/
theorem witness_every_command_keeps :
    beginsReset (.crossing 20000 false) = false ∧ (∀ b : Bool, Instr.crossing 20000 false ≠ .hold b) ∧
      Instr.crossing 20000 false ≠ .resetEnd ∧ Instr.crossing 20000 false ≠ .powerOnReset ∧
      { running with supervisor := { running.supervisor with contactorLatch := true } }.supervisor.contactorLatch = true := by
  refine ⟨rfl, ?_, ?_, ?_, rfl⟩ <;> simp

/-- Meets the hypotheses of ResetsClearTheBlocks: an external reset beside the image kept. -/
theorem witness_resets_clear_the_blocks :
    ∃ (c : Instr) (k : ResetKinds) (image : List Byte),
      c = .externalReset ∧ k = { running.resets with external := true } ∧ image = running.loader.retained :=
  ⟨_, _, _, rfl, rfl, rfl⟩

/-- Meets the hypotheses of SampleOfACountFollowsItsResistance: the counts on both sides of each class edge. -/
theorem witness_sample_of_a_count :
    25559 * 200000 / 65536 < 78000 ∧ 78000 ≤ 25560 * 200000 / 65536 ∧ 26466 * 200000 / 65536 ≤ 80769 ∧
      176981 ≤ 57994 * 200000 / 65536 ∧ 58982 * 200000 / 65536 ≤ 180000 ∧ 180000 < 58983 * 200000 / 65536 := by decide

/-- Meets the hypotheses of SourceIsSelectedInOrder: zone 4 of a station whose zone 3 is DISABLED takes the temperature of zone 3's upstream
neighbour, and the ends of the station their boundary records. -/
theorem witness_origin_is_found_in_order_neighbours :
    let c := { cfg with zones := (Six.fill zone).set 2 { zone with enabled := false } }
    let sc := { running.scanner with control := ((Six.fill Channel.reset).set 1 (trackingAt 470)).set 4 (trackingAt 480) }
    Adjacent c 1 3 ∧ Adjacent c 3 4 ∧ ownTemperature c sc 1 = some 470 ∧ ownTemperature c sc 4 = some 480 ∧
      (∀ y : Index, y < 0 → (c.zone y).enabled = false) ∧ (∀ y : Index, 5 < y → (c.zone y).enabled = false) := by
  refine ⟨⟨?_, ?_, ?_, ?_⟩, ⟨?_, ?_, ?_, ?_⟩, ?_, ?_, ?_, ?_⟩ <;> decide +kernel

/-- Meets the hypotheses of FlowSenderReportsItsLevel. -/
theorem witness_flow_level_is_confirmed_by_second_sample :
    joining.peers.flow.confirmed ≠ some FlowLevel.flowing ∧ joining.peers.flow.candidate ≠ some FlowLevel.flowing ∧
      (changing .running .active).peers.flow.confirmed = some FlowLevel.standing ∧
      (changing .running .active).peers.flow.confirmed ≠ some FlowLevel.flowing ∧
      (changing .running .active).peers.flow.candidate = some FlowLevel.flowing := by decide +kernel

/-! ### One step of the scanner, the link and the Loader -/

/-- The first mains-cycle end after its event finishes a scan, also where that end issues the next event; it lapses at the next (R19). -/
theorem test_scan_completes_at_its_first_end :
    let s := beforeSlot 5 { running with scanner := { running.scanner with scan := true } }
    let t := after (.crossing 20000 false) s
    (t.scanner.scanDue, t.scanner.scan) = (true, true) ∧
      (after (.scanCompletion (Six.fill 39125#16) (Six.fill 39125#16)) t).scanner.scan = true ∧
      ((after (.scanCompletion (Six.fill 39125#16) (Six.fill 39125#16)) t).scanner.control.get 0).filtered = some 504 ∧
      (after (.scanCompletion (Six.fill 39125#16) (Six.fill 39125#16)) running).scanner = running.scanner := by decide +kernel

/-- The third end closes the window, also where it issues the next event (R20). -/
theorem test_window_closes_at_its_third_end :
    let s := beforeSlot 5 { running with scanner := { running.scanner with window := some window1 } }
    let t := after (.crossing 20000 false) s
    t.scanner.windowDue = some window1 ∧ t.scanner.window.map Window.slot = some 5 ∧
      (after (.windowCompletion (Six.fill 0) 2300) t).scanner.window.map Window.slot = some 5 ∧
      (after (.crossing 20000 false) t).scanner.windowDue = none := by decide +kernel

/-- The Acknowledge of a frame in pieces is that of its own bit (R140). -/
theorem test_acknowledge_is_decided_at_its_bit :
    let s := after (.frameReceived (.sampled (lineBits.take (lineBits.length - 7))) false) (receiving running)
    let t := { s with link := { s.link with state := .listenOnly } }
    let u := after (.frameReceived (.sampled (lineBits.take (lineBits.length - 7))) false) (receiving listening)
    let v := { u with link := { u.link with state := .active } }
    (after (.frameReceived (.sampled (List.replicate 7 true)) false) t).link.ackDriven = true ∧
      (after (.frameReceived (.sampled (List.replicate 7 true)) false) v).link.ackDriven = false := by decide +kernel

/-- Recessive bits that follow a detaching failure in one command count toward a quiet interval (R152). -/
theorem test_quiet_bits_after_a_detaching_failure :
    let t := after (.attemptEnd (.sampled (levelsOf .place ++ [false, false] ++ List.replicate 13 true))) (sendingAs .place 0 188 running)
    (t.link.state, t.link.quietCount, t.link.quietRun) = (.detached, 1, 1) := by decide +kernel

/-- A result equal to the announced placement returns the own contribution to its order also while the link cannot send (R72, R81). -/
theorem test_equal_result_without_a_link :
    let s := { computingSame with link := { computingSame.link with state := .listenOnly } }
    ((ownOf (after .computationCompletion s).placement.map).map Contribution.order, (after .computationCompletion s).ring.occupancy) =
      (some 4, 0) := by decide +kernel

/-- A byte arrives bit 7 first, after the 24 levels under the command (R198). -/
theorem test_first_byte_of_the_image :
    let t := after (.readComplete (List.replicate 24 true ++ [true, false, false, false, false, false, true, true])) State.reset
    (t.loader.retained, t.loader.clocks, t.loader.shift, t.loader.runningCheck) = ([0x83], 32, [], checkByte 0xFFFF 0x83) := by
  decide +kernel

/-- CFG_MOSI carries 3 and then a 16-bit 0, bit 7 first (R198). -/
theorem test_read_command_levels :
    (List.range 26).map (fun n => (after (.readComplete (List.replicate n true)) State.reset).loader.mosi) =
      List.replicate 6 false ++ [true, true] ++ List.replicate 18 false := by decide +kernel

/-! ### The bit timing (R134) -/

/-- 20 quanta of each bit rate make its bit time: 100, 50 and 25 µs (R134). -/
theorem test_bit_times :
    [0, 1, 2].map bitTimeMicros = [100, 50, 25] ∧
      ([0, 1, 2].map fun code => 20 * quantumUnits code * 125) = [10000, 5000, 2500] := by decide

/-- The levels of quanta at 20 kbit/s. -/
def quanta (n : Nat) (level : Bool) : List Bool := List.replicate (2 * n) level

/-- A Start bit whose edge falls in quantum 7 of a recessive bit begins at that edge and is sampled 14 quanta later (R134). -/
theorem test_start_bit_begins_at_its_edge :
    let t := after (.lineIdle (.wave true (quanta 7 true ++ quanta 13 false))) (idle 4 running)
    let u := after (.lineIdle (.wave false (quanta 1 false))) t
    (t.link.tracking, t.link.clock.quantum, u.link.tracking, u.link.clock.quantum) = (.idle 4, 13, .inFrame 0, 14) := by
  decide +kernel

/-- An edge one quantum early ends its bit there, and the next one is sampled 14 quanta after the edge (R134). -/
theorem test_early_edge_moves_the_sample :
    let s := { receiving running with link := { (receiving running).link with clock := BitClock.started false } }
    let t := after (.frameReceived (.wave false (quanta 6 false ++ quanta 19 true ++ quanta 14 false)) false) s
    ((t.link.reception.map Reception.bits), t.link.clock.quantum) = (some [true, false], 14) := by decide +kernel

/-- The station rejects after a stuff error: the seven bits of its burst are driven dominant, and no edge in them is taken (R134, R141). -/
theorem test_reject_burst_is_not_resynchronised :
    let s := receiving running
    let t := after (.frameReceived (.wave true ((List.replicate 6 false).flatMap (quanta 20) ++ quanta 3 true ++ quanta 2 false)) false) s
    (t.link.rejectDriven, t.link.tracking, t.link.clock.quantum, t.link.clock.driving) = (true, .rejecting 7, 5, true) := by
  decide +kernel

/-- CHANCE_TO_SEND past a bit error at a recessive Group bit: an edge three quanta into the next bit is the own burst's while ACTIVE, and moves
the quantum back by two while PASSIVE, where the station goes on receiving the frame (R134, R138, R141). -/
theorem test_edge_past_an_own_bit_error :
    let wave := quanta 6 false ++ ((ownBits cfg 2 placeBytes1).take 11).flatMap (fun b => quanta 20 b.level) ++ quanta 20 false ++
      quanta 3 true ++ quanta 2 false
    let clock := fun s => (after (.chanceToSend 11 (.wave true wave)) (idle 0 s)).link.clock
    (clock (loaded running), clock (passive (loaded running))) =
      ({ unit := 0, quantum := 5, resynced := false, driving := true },
        { unit := 0, quantum := 3, resynced := true, driving := false }) := by decide +kernel

/-- LINE_IDLE past a stuff error: an edge in the bit after it is the own burst's (R134, R141). -/
theorem test_edge_past_a_stuff_error :
    (after (.lineIdle (.wave true (quanta 160 false ++ quanta 3 true ++ quanta 2 false))) (idle 4 running)).link.clock =
      { unit := 0, quantum := 5, resynced := false, driving := true } := by decide +kernel

/-- A kept Start bit leaves the timing where the wave that brought it left it, when its frame's end is taken (R134). -/
theorem test_kept_start_bit_keeps_the_timing :
    let s := after (.quietInterval (.wave true (quanta 7 true ++ quanta 14 false))) (pastVoid (List.replicate 10 true))
    let t := after (.frameReceived (.sampled []) false) s
    (s.link.clock.quantum, t.link.clock.quantum, t.link.tracking, t.link.reception) = (14, 14, .inFrame 0, some Reception.opened) := by
  decide +kernel

/-- A recessive sample in the own burst raises no idle run, in whatever commands the seven bits come (R135, R141). -/
theorem test_reject_burst_in_pieces :
    let t := after (.frameReceived (.sampled (List.replicate 8 false)) false) (receiving running)
    let u := after (.lineIdle (.sampled [true, true, false])) t
    let v := after (.lineIdle (.sampled [true, true])) u
    (t.link.tracking, u.link.tracking, v.link.tracking) = (.rejecting 5, .rejecting 2, .waitingIdle 0) := by decide +kernel

/-! ### The loopback check (R206) -/

/-- The test frame of address 5 and group 2 begins with Kind 3 and Source 5, and its payload of zeros calls for a stuff bit (R119, R206). -/
theorem test_test_frame :
    ((testFrame cfg).map SentBit.level).take 9 = [false, true, true, false, false, false, true, false, true] ∧
      (testFrame cfg).any SentBit.stuff = true ∧ (testFrame cfg).getLast?.map SentBit.stuff = some false := by decide +kernel

/-- A working loop passes; one that turns a payload bit over fails (R206). -/
theorem test_loop_passes_and_fails :
    (after (.loopbackCheckEnd []) looping).link.loopResult = some .passed ∧
      (after (.loopbackCheckEnd [30]) looping).link.loopResult = some .failed := by decide +kernel

end Sys2Proof.Test
end

/-! PROOFS. The sample of a ratiometric count: its resistance, its class and its temperature (R21, R22). -/

namespace Sys2Proof.Machine

/-! ### Resistance and class (R21) -/

/-- The largest count, 65535, reads 199996 milliohms. -/
theorem resistanceOf_le (count : BitVec 16) : resistanceOf count ≤ 199996 := by
  have hcount : count.toNat < 65536 := count.isLt
  unfold resistanceOf
  omega

theorem sampleOf_opened {count : BitVec 16} (h : 180000 < resistanceOf count) : sampleOf count = .opened :=
  if_pos h

theorem sampleOf_short {count : BitVec 16} (h : resistanceOf count < 78000) : sampleOf count = .short :=
  (if_neg (by omega)).trans (if_pos h)

theorem sampleOf_inRange {count : BitVec 16} (lo : 78000 ≤ resistanceOf count) (hi : resistanceOf count ≤ 180000) :
    sampleOf count = .inRange (temperatureOf (resistanceOf count)) :=
  (if_neg (by omega)).trans (if_neg (by omega))

/-! ### Rounding and clamping (R22) -/

/-- Half the divisor added before a quotient is rounded down brings it within half of the quotient itself. -/
theorem halfUp_within_half (a : Int) {b : Nat} (hb : 0 < b) : 2 * (b * ((2 * a + b) / (2 * b)) - a).natAbs ≤ b := by
  have hpos : (0 : Int) < 2 * b := by omega
  have hle := Int.mul_ediv_self_le (x := 2 * a + b) hpos.ne'
  have hlt := Int.lt_mul_ediv_self_add (x := 2 * a + b) hpos
  rw [mul_assoc] at hle hlt
  omega

/-- The rounded quotient is a nearest integer; a negative dividend is rounded by its mirror image. -/
theorem roundHalfAway_within_half (a : Int) {b : Nat} (hb : 0 < b) : 2 * (b * roundHalfAway a b - a).natAbs ≤ b := by
  unfold roundHalfAway
  split
  case isTrue => exact halfUp_within_half a hb
  case isFalse =>
    have mirrored := halfUp_within_half (-a) hb
    rw [mul_neg]
    omega

theorem clampTemperature_of_le {t : Int} (h : t ≤ -500) : clampTemperature t = -500 :=
  max_eq_left (min_le_of_right_le h)

theorem clampTemperature_of_ge {t : Int} (h : 2000 ≤ t) : clampTemperature t = 2000 := by
  simp [clampTemperature, clampInt, min_eq_left h]

end Sys2Proof.Machine

namespace Sys2Proof.Proofs.Samples
open Sys2Proof.Machine

/-- Settles O17: the class from the two thresholds of R21; in range, the rounded quotient is the nearest integer that R22 asks for, and
its distance of at most 192 parts in 385 puts it at or beyond the clamp for the resistances at either end. -/
theorem sampleOfACountFollowsItsResistance : Obligations.SampleOfACountFollowsItsResistance := by
  intro count
  refine ⟨resistanceOf count, rfl, resistanceOf_le count, sampleOf_opened, sampleOf_short, fun lo hi => ?_⟩
  have near := roundHalfAway_within_half (((resistanceOf count : Int) - 100000) * 10) (b := 385) (by decide)
  have sample := sampleOf_inRange lo hi
  refine ⟨_, near, sample, fun cold => ?_, fun hot => ?_⟩
  · rw [sample, temperatureOf, clampTemperature_of_le (by omega)]
  · rw [sample, temperatureOf, clampTemperature_of_ge (by omega)]

end Sys2Proof.Proofs.Samples

/-! PROOFS. The TRIP_CLEAR edge: which zones it releases, and the state after it (R46 to R49, R190). -/

namespace Sys2Proof.Machine

/-! ### When a zone is released (R47, R48) -/

theorem releaseMet_of_tripped {cfg : Settings} {s : State} {z : Index} (h : (s.zones.get z).condition = .tripped) :
    releaseMet cfg s z = true ↔
      (s.scanner.limiter.get z).state = .tracking ∧
        ∃ x : Int, (s.scanner.limiter.get z).filtered = some x ∧ x < (cfg.zone z).tripLimit - 100 := by
  cases hf : (s.scanner.limiter.get z).filtered <;> simp [releaseMet, h, hf]

theorem releaseMet_of_stuckOn {cfg : Settings} {s : State} {z : Index} (h : (s.zones.get z).condition = .stuckOn) :
    releaseMet cfg s z = true ↔
      ∃ l : Nat, (s.scanner.zones.get z).load = some l ∧ l * 20 < (cfg.zone z).ratedLu := by
  cases hl : (s.scanner.zones.get z).load <;> simp [releaseMet, h, hl]

theorem releaseMet_iff (cfg : Settings) (s : State) (z : Index) :
    releaseMet cfg s z = true ↔
      ((s.zones.get z).condition = .tripped ∧ (s.scanner.limiter.get z).state = .tracking ∧
          ∃ x : Int, (s.scanner.limiter.get z).filtered = some x ∧ x < (cfg.zone z).tripLimit - 100) ∨
        (s.zones.get z).condition = .openFault ∨
        ((s.zones.get z).condition = .stuckOn ∧
          ∃ l : Nat, (s.scanner.zones.get z).load = some l ∧ l * 20 < (cfg.zone z).ratedLu) := by
  cases h : (s.zones.get z).condition
  case tripped => simp [releaseMet_of_tripped h]
  case stuckOn => simp [releaseMet_of_stuckOn h]
  all_goals simp [releaseMet, h]

/-- The guard of `clearZone`: an enabled zone that meets its release condition. -/
def edgeReleases (cfg : Settings) (s : State) (z : Index) : Bool := (cfg.zone z).enabled && releaseMet cfg s z

theorem edgeReleases_iff (cfg : Settings) (s : State) (z : Index) :
    edgeReleases cfg s z = true ↔ (cfg.zone z).enabled = true ∧ releaseMet cfg s z = true :=
  Bool.and_eq_true_iff

/-- The release of a zone rests on its own record and on the Scanner alone. -/
theorem edgeReleases_congr {cfg : Settings} {s t : State} {z : Index} (hscan : t.scanner = s.scanner)
    (hzone : t.zones.get z = s.zones.get z) : edgeReleases cfg t z = edgeReleases cfg s z := by
  simp only [edgeReleases, releaseMet, hscan, hzone]

theorem clearZone_of_released {cfg : Settings} {s : State} {z : Index} (h : edgeReleases cfg s z = true) :
    clearZone cfg s z = markChange (s.setZone z (releasedZone cfg s.supervisor.station (s.zones.get z))) :=
  if_pos h

theorem clearZone_of_not_released {cfg : Settings} {s : State} {z : Index} (h : edgeReleases cfg s z ≠ true) :
    clearZone cfg s z = s :=
  if_neg h

/-! ### The edge over a list of zones (R46, R49, R190) -/

/-- The record of a zone once the edge has come to the zones of a list, each judged in the state before the edge. -/
def zoneAfterEdge (cfg : Settings) (s : State) (l : List Index) (z : Index) : Zone :=
  if z ∈ l ∧ edgeReleases cfg s z = true then releasedZone cfg s.supervisor.station (s.zones.get z) else s.zones.get z

/-- The state once the edge has come to the zones of a list, in closed form; `foldl_clearZone` says that the model reaches it. -/
def afterEdge (cfg : Settings) (s : State) (l : List Index) : State :=
  { s with
    zones := Six.ofFn (zoneAfterEdge cfg s l)
    supervisor := { s.supervisor with changeMark := s.supervisor.changeMark || l.any (edgeReleases cfg s) } }

@[simp] theorem afterEdge_zones_get (cfg : Settings) (s : State) (l : List Index) (z : Index) :
    (afterEdge cfg s l).zones.get z = zoneAfterEdge cfg s l z :=
  Six.get_ofFn _ z

@[simp] theorem afterEdge_station (cfg : Settings) (s : State) (l : List Index) :
    (afterEdge cfg s l).supervisor.station = s.supervisor.station := rfl

theorem zoneAfterEdge_of_not_mem {cfg : Settings} {s : State} {l : List Index} {z : Index} (h : z ∉ l) :
    zoneAfterEdge cfg s l z = s.zones.get z :=
  if_neg fun hz => h hz.1

theorem zoneAfterEdge_of_not_released {cfg : Settings} {s : State} {l : List Index} {z : Index}
    (h : edgeReleases cfg s z ≠ true) : zoneAfterEdge cfg s l z = s.zones.get z :=
  if_neg fun hz => h hz.2

theorem zoneAfterEdge_of_released {cfg : Settings} {s : State} {l : List Index} {z : Index} (hz : z ∈ l)
    (h : edgeReleases cfg s z = true) :
    zoneAfterEdge cfg s l z = releasedZone cfg s.supervisor.station (s.zones.get z) :=
  if_pos ⟨hz, h⟩

/-- A further zone in the list leaves the records of the others as they are. -/
theorem zoneAfterEdge_append_other {cfg : Settings} {s : State} {l : List Index} {y z : Index} (h : z ≠ y) :
    zoneAfterEdge cfg s (l ++ [y]) z = zoneAfterEdge cfg s l z := by
  simp [zoneAfterEdge, h]

theorem afterEdge_nil (cfg : Settings) (s : State) : afterEdge cfg s [] = s := by
  have hzones : Six.ofFn (zoneAfterEdge cfg s []) = s.zones :=
    Six.ext_get fun z => by rw [Six.get_ofFn, zoneAfterEdge_of_not_mem List.not_mem_nil]
  simp [afterEdge, hzones]

/-- One zone more: the zones before it have changed neither its record nor the Scanner, so it is judged as before the edge. -/
theorem clearZone_afterEdge {cfg : Settings} {s : State} {l : List Index} {y : Index} (hy : y ∉ l) :
    clearZone cfg (afterEdge cfg s l) y = afterEdge cfg s (l ++ [y]) := by
  have hzone : (afterEdge cfg s l).zones.get y = s.zones.get y := by
    rw [afterEdge_zones_get, zoneAfterEdge_of_not_mem hy]
  have hjudged : edgeReleases cfg (afterEdge cfg s l) y = edgeReleases cfg s y := edgeReleases_congr rfl hzone
  by_cases h : edgeReleases cfg s y = true
  case pos =>
    have hzones : (afterEdge cfg s l).zones.set y (releasedZone cfg s.supervisor.station (s.zones.get y)) =
        Six.ofFn (zoneAfterEdge cfg s (l ++ [y])) := by
      refine Six.ext_get fun z => ?_
      rw [Six.get_ofFn, Six.get_set]
      by_cases hz : z = y
      · rw [if_pos hz, hz, zoneAfterEdge_of_released (by simp) h]
      · rw [if_neg hz, afterEdge_zones_get, zoneAfterEdge_append_other hz]
    rw [clearZone_of_released (hjudged.trans h), hzone, afterEdge_station, State.setZone, hzones]
    simp [afterEdge, markChange, State.setZones, State.setSupervisor, h]
  case neg =>
    have hzones : zoneAfterEdge cfg s (l ++ [y]) = zoneAfterEdge cfg s l := by
      funext z
      by_cases hz : z = y
      · rw [hz, zoneAfterEdge_of_not_released h, zoneAfterEdge_of_not_released h]
      · exact zoneAfterEdge_append_other hz
    rw [clearZone_of_not_released (hjudged ▸ h)]
    simp [afterEdge, hzones, h]

/-- The model's pass over distinct zones ends in the closed form. -/
theorem foldl_clearZone (cfg : Settings) (s : State) {l : List Index} (hl : l.Nodup) :
    l.foldl (clearZone cfg) s = afterEdge cfg s l := by
  induction l using List.reverseRecOn with
  | nil => exact (afterEdge_nil cfg s).symm
  | append_singleton l y ih =>
    obtain ⟨hinit, -, hdisjoint⟩ := List.nodup_append.mp hl
    have hy : y ∉ l := fun h => hdisjoint y h y (by simp) rfl
    rw [List.foldl_append, ih hinit, List.foldl_cons, List.foldl_nil, clearZone_afterEdge hy]

theorem indexes_nodup : indexes.Nodup := by decide

theorem mem_indexes (z : Index) : z ∈ indexes := by
  revert z
  decide

theorem exec_tripClearEdge {cfg : Settings} {s : State} (h : activeSettings s = some cfg) :
    exec .tripClearEdge s = .next (afterEdge cfg s indexes) :=
  calc exec .tripClearEdge s
    _ = .next (whenActive s fun cfg => indexes.foldl (clearZone cfg) s) := rfl
    _ = .next (indexes.foldl (clearZone cfg) s) := by rw [whenActive, h]
    _ = .next (afterEdge cfg s indexes) := by rw [foldl_clearZone cfg s indexes_nodup]

/-- A release sets the change mark (R190). -/
theorem afterEdge_changeMark {cfg : Settings} {s : State} {l : List Index} {z : Index} (hz : z ∈ l)
    (h : edgeReleases cfg s z = true) : (afterEdge cfg s l).supervisor.changeMark = true :=
  Bool.or_eq_true_iff.mpr (.inr (List.any_eq_true.mpr ⟨z, hz, h⟩))

end Sys2Proof.Machine

namespace Sys2Proof.Proofs.TripClear
open Sys2Proof.Machine

/-- Settles O22: the edge comes to six distinct zones, so each is judged in the state before the edge and the pass ends in the closed
form, whose zone records, change mark and frame are read off. -/
theorem tripClearReleasesZones : Obligations.TripClearReleasesZones := by
  intro cfg s hactive
  refine ⟨afterEdge cfg s indexes, exec_tripClearEdge hactive, fun z => ?_, rfl⟩
  simp only [← releaseMet_iff, ← edgeReleases_iff, afterEdge_zones_get]
  split
  case isTrue h => exact ⟨zoneAfterEdge_of_released (mem_indexes z) h, afterEdge_changeMark (mem_indexes z) h⟩
  case isFalse h => exact zoneAfterEdge_of_not_released h

end Sys2Proof.Proofs.TripClear

/-! PROOFS. A reset from its start to its end: what it empties, and which commands have any effect while it is in progress (R115, R174,
R175, R195, R196). -/

namespace Sys2Proof.Machine

/-! ### The start of a reset (R195) -/

/-- The four commands that begin a reset do so, each with its kind and the bytes it disturbs. -/
theorem exec_of_beginsReset {c : Instr} (h : beginsReset c = true) (s : State) :
    ∃ (k : ResetKind) (disturbed : List (Nat × Byte)), exec c s = .next (beginReset k disturbed s) := by
  cases c
  case powerOnReset => exact ⟨.powerOn, [], rfl⟩
  case supplyDipReset disturbed => exact ⟨.supplyDip, disturbed, rfl⟩
  case clockStopReset disturbed => exact ⟨.clockStop, disturbed, rfl⟩
  case externalReset => exact ⟨.external, [], rfl⟩
  all_goals exact absurd h Bool.false_ne_true

theorem resetInProgress_beginReset (k : ResetKind) (disturbed : List (Nat × Byte)) (s : State) :
    resetInProgress (beginReset k disturbed s) = true := by
  cases k <;> simp [resetInProgress, beginReset, joinKind]

/-! ### The blocks while a reset is in progress -/

section InReset

variable {s : State} (h : resetInProgress s = true)
include h

theorem activeSettings_inReset : activeSettings s = none := by simp [activeSettings, h]

theorem monitoring_inReset : monitoring s = false := by simp [monitoring, h]

theorem startingUp_inReset : startingUp s = false := by simp [startingUp, h]

theorem startingSettings_inReset : startingSettings s = none := by simp [startingSettings, startingUp_inReset h]

theorem takesHold_inReset : takesHold s = false := by simp [takesHold, h]

theorem whenActive_inReset (f : Settings → State) : whenActive s f = s := by
  rw [whenActive, activeSettings_inReset h]

theorem crossingStep_inReset (interval : Nat) (flow : Bool) : crossingStep interval flow s = s := by
  simp [crossingStep, monitoring_inReset h]

theorem lossStep_inReset (flow : Bool) : lossStep flow s = s := by
  simp [lossStep, monitoring_inReset h]

theorem oscillatorStep_inReset (flow : Bool) : oscillatorStep flow s = s := by
  simp [oscillatorStep, monitoring_inReset h]

theorem occasionStep_inReset (o : Occasion) : occasionStep o s = s := by
  cases o
  case crossing interval flow => exact crossingStep_inReset h interval flow
  case loss flow => exact lossStep_inReset h flow
  case oscillator flow => exact oscillatorStep_inReset h flow
  case frame bits flow => exact whenActive_inReset h _

theorem whenSeen_inReset (seen : State → State → Bool) (o : Occasion) : whenSeen seen o s = s := by
  simp [whenSeen, occasionStep_inReset h]

theorem holdStep_inReset (b : Bool) : holdStep b s = s.setHoldPin b := by
  unfold holdStep
  split
  case isTrue heq => rw [← heq]; rfl
  case isFalse => simp [takesHold_inReset h]

/-! ### The commands while a reset is in progress -/

/-- A command that neither begins nor ends a reset nor moves HOLD waits for the settled fields, for zero-cross monitoring or for STARTING,
none of which there is (R1, R176, R208). -/
theorem exec_inReset {c : Instr} (hreset : beginsReset c = false) (hend : c ≠ .resetEnd) (hhold : ∀ b : Bool, c ≠ .hold b) :
    exec c s = .next s := by
  cases c
  case crossing interval flow => exact congrArg Host.Outcome.next (crossingStep_inReset h interval flow)
  case lossOfZeroCross flow => exact congrArg Host.Outcome.next (lossStep_inReset h flow)
  case oscillatorMainsCycleEnd flow => exact congrArg Host.Outcome.next (oscillatorStep_inReset h flow)
  case sourceReturnToMains interval flow => simp [exec, execSourceReturnToMains, crossingStep_inReset h]
  case mainsRecovery interval flow => simp [exec, execMainsRecovery, crossingStep_inReset h]
  case joinEnd o | syncTimeout o | entryRemoval o | boundaryRecordExpiry o | lineStateTimeout o | sagResponseEnd o |
      periodicLineRequest o | fallback o | timeMailboxExpiry o =>
    exact congrArg Host.Outcome.next (whenSeen_inReset h _ o)
  case computationCompletion | scanCompletion | windowCompletion | tripClearEdge | frameReceived | dispatch | lineIdle |
      chanceToSend | attemptEnd | quietInterval | startBit =>
    exact congrArg Host.Outcome.next (whenActive_inReset h _)
  case readComplete miso => simp [exec, execReadComplete, startingUp_inReset h]
  case loopbackIdleWaitPassed bits => simp [exec, execLoopbackIdleWaitPassed, startingSettings_inReset h]
  case loopbackTimeout => simp [exec, execLoopbackTimeout, startingSettings_inReset h]
  case loopbackCheckEnd disturbed => simp [exec, execLoopbackCheckEnd, startingSettings_inReset h]
  case hold b => exact absurd rfl (hhold b)
  case resetEnd => exact absurd rfl hend
  case powerOnReset | supplyDipReset | clockStopReset | externalReset => exact absurd hreset.symm Bool.false_ne_true

/-- All that a command but RESET_END can do while a reset is in progress: begin a reset anew, move the HOLD pin, or nothing (R180, R195). -/
theorem exec_inReset_cases {c : Instr} (hend : c ≠ .resetEnd) :
    (∃ (k : ResetKind) (disturbed : List (Nat × Byte)), exec c s = .next (beginReset k disturbed s)) ∨
      (∃ b : Bool, exec c s = .next (s.setHoldPin b)) ∨ exec c s = .next s := by
  by_cases hreset : beginsReset c = true
  · exact .inl (exec_of_beginsReset hreset s)
  · by_cases hhold : ∃ b : Bool, c = .hold b
    · obtain ⟨b, rfl⟩ := hhold
      exact .inr (.inl ⟨b, congrArg Host.Outcome.next (holdStep_inReset h b)⟩)
    · exact .inr (.inr (exec_inReset h (Bool.eq_false_of_not_eq_true hreset) hend (not_exists.mp hhold)))

end InReset

/-! ### What a reset empties (R115, R174, R175) -/

/-- The ring with its mailbox, the receive queue and the Peer Table hold their reset values. -/
structure ExchangesEmptied (s : State) : Prop where
  ring : s.ring = Ring.reset
  queue : s.queue = ReceiveQueue.reset
  peers : s.peers = PeerTable.reset

theorem beginReset_exchangesEmptied (k : ResetKind) (disturbed : List (Nat × Byte)) (s : State) :
    ExchangesEmptied (beginReset k disturbed s) :=
  ⟨rfl, rfl, rfl⟩

/-- A reset in progress holds them emptied through every command but its end (R196). -/
theorem ExchangesEmptied.exec_inReset {s u : State} {c : Instr} (hs : ExchangesEmptied s) (h : resetInProgress s = true)
    (hend : c ≠ .resetEnd) (hu : exec c s = .next u) : ExchangesEmptied u := by
  obtain ⟨k, disturbed, hc⟩ | ⟨b, hc⟩ | hc := exec_inReset_cases h hend
  all_goals
    obtain rfl := Host.Outcome.next.inj (hc.symm.trans hu)
  · exact beginReset_exchangesEmptied k disturbed s
  · exact ⟨hs.ring, hs.queue, hs.peers⟩
  · exact hs

/-- Every descriptor of the emptied ring is FREE with no cancel recorded (R174). -/
theorem Ring.reset_descriptors_get (i : Index) : Ring.reset.descriptors.get i = Descriptor.freed :=
  Six.get_fill _ i

end Sys2Proof.Machine

namespace Sys2Proof.Proofs.ResetEmpties
open Sys2Proof.Machine

/-- Settles O49: each of the four commands writes the reset values, which are read off, and begins a reset in progress, which holds them
until its end. -/
theorem everyResetEmptiesRingQueueAndPeers : Obligations.EveryResetEmptiesRingQueueAndPeers := by
  intro c s hc
  obtain ⟨k, disturbed, hexec⟩ := exec_of_beginsReset hc s
  have emptied := beginReset_exchangesEmptied k disturbed s
  refine ⟨beginReset k disturbed s, hexec, fun i => ?descriptor,
    rfl, rfl, rfl, rfl, rfl, -- the rest of the ring, and the mailbox
    rfl, rfl, rfl, rfl, -- the receive queue and its locks
    rfl, rfl, rfl, rfl, rfl, rfl, rfl, rfl, rfl, -- entries, row, boundary records and line state record
    rfl, rfl, rfl, rfl, rfl, rfl, -- the flow sender
    fun d u hu hend => ?held⟩
  case descriptor =>
    rw [emptied.ring, Ring.reset_descriptors_get]
    exact ⟨rfl, rfl⟩
  case held =>
    have held := emptied.exec_inReset (resetInProgress_beginReset k disturbed s) hend hu
    exact ⟨held.ring.trans emptied.ring.symm, held.queue.trans emptied.queue.symm, held.peers.trans emptied.peers.symm⟩

end Sys2Proof.Proofs.ResetEmpties

/-! PROOFS. The outputs computed from the state: the causes of ALARM, and when CONTACTOR is open and HELD asserted (R187 to R189). -/

namespace Sys2Proof.Machine

/-! ### ALARM (R189) -/

theorem conditionAlarms_iff (c : Condition) :
    conditionAlarms c = true ↔ c = .tripped ∨ c = .openFault ∨ c = .stuckOn := by
  cases c <;> simp [conditionAlarms]

/-- The list of the six indexes misses no zone, so a test over it finds any zone that passes. -/
theorem indexes_any_iff (p : Index → Bool) : indexes.any p = true ↔ ∃ z : Index, p z = true := by
  simp only [List.any_eq_true, mem_indexes, true_and]

theorem zonesAlarm_iff (s : State) :
    indexes.any (fun z => conditionAlarms (s.zones.get z).condition) = true ↔
      ∃ z : Index, (s.zones.get z).condition = .tripped ∨ (s.zones.get z).condition = .openFault ∨
        (s.zones.get z).condition = .stuckOn := by
  simp only [indexes_any_iff, conditionAlarms_iff]

theorem alarm_iff (s : State) :
    alarm s = true ↔ resetInProgress s = true ∨ s.supervisor.station = .starting ∨ s.supervisor.station = .configFault ∨
      s.supervisor.station = .mainsLost ∨ s.supervisor.mainsLost = true ∨
      (∃ z : Index, (s.zones.get z).condition = .tripped ∨ (s.zones.get z).condition = .openFault ∨
        (s.zones.get z).condition = .stuckOn) ∨
      s.supervisor.contactorLatch = true ∨ s.link.clash = true ∨ s.link.loopResult = some .failed := by
  simp only [alarm, Bool.or_eq_true, decide_eq_true_eq, zonesAlarm_iff, or_assoc]

/-! ### CONTACTOR and HELD (R187, R188) -/

theorem joinedState_eq_false_iff (x : StationState) : joinedState x = false ↔ x = .starting ∨ x = .configFault := by
  cases x <;> simp [joinedState]

/-- CONTACTOR is open while any of the three conditions that close it together is missing. -/
theorem contactorClosed_eq_false_iff (s : State) :
    contactorClosed s = false ↔ s.supervisor.station = .starting ∨ s.supervisor.station = .configFault ∨
      resetInProgress s = true ∨ s.supervisor.contactorLatch = true := by
  simp only [contactorClosed, Bool.and_eq_false_iff, Bool.not_eq_false', joinedState_eq_false_iff]
  tauto

theorem heldOutput_iff (s : State) :
    heldOutput s = true ↔ s.supervisor.station = .held ∧ resetInProgress s = false := by
  simp only [heldOutput, Bool.and_eq_true, Bool.not_eq_true', decide_eq_true_eq, and_comm]

end Sys2Proof.Machine

namespace Sys2Proof.Proofs.Outputs
open Sys2Proof.Machine

/-- Settles O53: ALARM is a disjunction of its causes, whose test over the six indexes is one over every zone; CONTACTOR and HELD are
read off in the same way, the station states outside the joined ones being STARTING and CONFIG_FAULT. -/
theorem outputsFollowTheirCauses : Obligations.OutputsFollowTheirCauses :=
  fun s => ⟨alarm_iff s, contactorClosed_eq_false_iff s, heldOutput_iff s⟩

end Sys2Proof.Proofs.Outputs

/-! PROOFS. What a command can do, said once: the moves of the machine, and what the commands of the line leave as it was. -/

namespace Sys2Proof.Machine

/-! ### The moves of the machine -/

/-- All that a command can do: nothing, or one of the steps below where its conditions are met (assumption log 2). A command that is a
moment of another step moves as that step (assumption log 4). -/
inductive Move : Instr → State → State → Prop where
  | idle (c : Instr) (s : State) : Move c s s
  | reset {c : Instr} (h : beginsReset c = true) (k : ResetKind) (disturbed : List (Nat × Byte)) (hk : k = .powerOn → c = .powerOnReset)
      (s : State) : Move c s (beginReset k disturbed s)
  | resetEnd {s : State} (h : resetInProgress s = true) : Move .resetEnd s (endReset s)
  | hold (b : Bool) (s : State) : Move (.hold b) s (holdStep b s)
  | read {s : State} (h : startingUp s = true) (bits : List Bool) : Move (.readComplete bits) s (takeMisoBits bits s)
  | loopSamples (c : Instr) {s : State} {cfg : Settings} (h : startingSettings s = some cfg) (line : Line) :
      Move c s (takeBits cfg (loopSamples cfg) line s)
  | endLoopback (c : Instr) {s : State} {cfg : Settings} (h : startingSettings s = some cfg) (r : LoopbackResult) :
      Move c s (endLoopback cfg r s)
  | crossing (c : Instr) {s : State} (h : monitoring s = true) (interval : Nat) (flow : Bool) :
      Move c s (acceptCrossing interval (s.setFlowPin flow))
  | loss (c : Instr) {s : State} (h : monitoring s = true) (flow : Bool) : Move c s (declareLoss (s.setFlowPin flow))
  | oscillator (c : Instr) {s : State} (h : monitoring s = true) (flow : Bool) : Move c s (mainsCycleEnd (s.setFlowPin flow))
  | frame (c : Instr) {s : State} {cfg : Settings} {rx : Reception} (h : activeSettings s = some cfg) (hrx : s.link.reception = some rx)
      (line : Line) (flow : Bool) : Move c s (takeBits cfg (receptionEnd cfg rx) line (s.setFlowPin flow))
  | complete (c : Instr) {s : State} {cfg : Settings} (h : activeSettings s = some cfg) : Move c s (completeComputation cfg s)
  | scan (control limiter : Six (BitVec 16)) {s : State} {cfg : Settings} (h : activeSettings s = some cfg) :
      Move (.scanCompletion control limiter) s (scanStep cfg control limiter s)
  | window (currents : Six Nat) (voltage : Nat) {s : State} {cfg : Settings} (h : activeSettings s = some cfg) :
      Move (.windowCompletion currents voltage) s (windowStep cfg currents voltage s)
  | tripClear (c : Instr) {s : State} {cfg : Settings} (h : activeSettings s = some cfg) :
      Move c s (indexes.foldl (clearZone cfg) s)
  | dispatch (c : Instr) {s : State} {cfg : Settings} (h : activeSettings s = some cfg) : Move c s (dispatchHead cfg s)
  | bits (c : Instr) {s : State} {cfg : Settings} (h : activeSettings s = some cfg) (line : Line) :
      Move c s (takeBits cfg sampleBits line s)
  | startBit (c : Instr) {s : State} {cfg : Settings} {count : Nat} (h : activeSettings s = some cfg)
      (ht : s.link.tracking = .idle count) : Move c s (startTimed (startReception (quietBits [false] s)))
  | chance (c : Instr) {s : State} {cfg : Settings} (h : activeSettings s = some cfg) (recessive : Nat) (line : Line) :
      Move c s (chanceStep cfg recessive line s)
  | attempt (c : Instr) {s : State} {cfg : Settings} {a : Attempt} (h : activeSettings s = some cfg) (ha : s.link.attempt = some a)
      (line : Line) : Move c s (takeBits cfg (fun sampled => attemptBits cfg sampled a) line s)

/-- What waits for the settled fields moves as its step does where they act. -/
theorem Move.whenActive {c : Instr} {s : State} {f : Settings → State} (h : ∀ cfg, activeSettings s = some cfg → Move c s (f cfg)) :
    Move c s (whenActive s f) := by
  unfold Machine.whenActive
  split
  · exact .idle c s
  · exact h _ ‹_›

theorem Move.crossingStep (c : Instr) (interval : Nat) (flow : Bool) (s : State) : Move c s (crossingStep interval flow s) := by
  unfold Machine.crossingStep
  split
  case isTrue => exact .idle c s
  case isFalse h =>
    have h' : monitoring s = true ∧ crossingIgnored interval s.timeBase = false := by simpa using h
    exact .crossing c h'.1 interval flow

theorem Move.lossStep (c : Instr) (flow : Bool) (s : State) : Move c s (lossStep flow s) := by
  unfold Machine.lossStep
  split
  · exact .loss c ‹_› flow
  · exact .idle c s

theorem Move.oscillatorStep (c : Instr) (flow : Bool) (s : State) : Move c s (oscillatorStep flow s) := by
  unfold Machine.oscillatorStep
  split
  case isTrue h => exact .oscillator c (Bool.and_eq_true_iff.mp h).1 flow
  case isFalse => exact .idle c s

theorem Move.frameStep (c : Instr) (line : Line) (flow : Bool) (s : State) : Move c s (frameStep line flow s) :=
  .whenActive fun cfg h => by
    split
    · exact .idle c s
    · exact .frame c h ‹_› line flow

theorem Move.occasionStep (c : Instr) (o : Occasion) (s : State) : Move c s (occasionStep o s) := by
  cases o
  case crossing interval flow => exact .crossingStep c interval flow s
  case loss flow => exact .lossStep c flow s
  case oscillator flow => exact .oscillatorStep c flow s
  case frame bits flow => exact .frameStep c bits flow s

theorem Move.whenSeen (c : Instr) (seen : State → State → Bool) (o : Occasion) (s : State) : Move c s (whenSeen seen o s) := by
  simp only [Machine.whenSeen]
  split
  · exact .occasionStep c o s
  · exact .idle c s

/-- Every command answers a next state, and moves to it. -/
theorem exec_move (c : Instr) (s : State) : ∃ t : State, exec c s = .next t ∧ Move c s t := by
  cases c
  case crossing interval flow => exact ⟨_, rfl, .crossingStep _ interval flow s⟩
  case lossOfZeroCross flow => exact ⟨_, rfl, .lossStep _ flow s⟩
  case oscillatorMainsCycleEnd flow => exact ⟨_, rfl, .oscillatorStep _ flow s⟩
  case sourceReturnToMains interval flow =>
    refine ⟨_, rfl, ?_⟩
    split
    · exact .crossingStep _ interval flow s
    · exact .idle _ s
  case mainsRecovery interval flow =>
    refine ⟨_, rfl, ?_⟩
    split
    · exact .crossingStep _ interval flow s
    · exact .idle _ s
  case joinEnd o | syncTimeout o | entryRemoval o | boundaryRecordExpiry o | lineStateTimeout o | sagResponseEnd o |
      periodicLineRequest o | fallback o | timeMailboxExpiry o =>
    exact ⟨_, rfl, .whenSeen _ _ o s⟩
  case computationCompletion => exact ⟨_, rfl, .whenActive fun _ h => .complete _ h⟩
  case scanCompletion control limiter => exact ⟨_, rfl, .whenActive fun _ h => .scan control limiter h⟩
  case windowCompletion currents voltage => exact ⟨_, rfl, .whenActive fun _ h => .window currents voltage h⟩
  case tripClearEdge => exact ⟨_, rfl, .whenActive fun _ h => .tripClear _ h⟩
  case hold b => exact ⟨_, rfl, .hold b s⟩
  case frameReceived line flow => exact ⟨_, rfl, .frameStep _ line flow s⟩
  case dispatch => exact ⟨_, rfl, .whenActive fun _ h => .dispatch _ h⟩
  case lineIdle line =>
    refine ⟨_, rfl, .whenActive fun _ h => ?_⟩
    split
    case h_3 => exact .idle _ s
    all_goals exact .bits _ h line
  case chanceToSend recessive line => exact ⟨_, rfl, .whenActive fun _ h => .chance _ h recessive line⟩
  case attemptEnd line =>
    refine ⟨_, rfl, .whenActive fun _ h => ?_⟩
    split
    · exact .idle _ s
    · exact .attempt _ h ‹_› line
  case quietInterval line =>
    refine ⟨_, rfl, .whenActive fun _ h => ?_⟩
    split
    · exact .bits _ h line
    · exact .idle _ s
  case powerOnReset => exact ⟨_, rfl, .reset rfl .powerOn [] (fun _ => rfl) s⟩
  case supplyDipReset disturbed => exact ⟨_, rfl, .reset rfl .supplyDip disturbed (fun h => nomatch h) s⟩
  case clockStopReset disturbed => exact ⟨_, rfl, .reset rfl .clockStop disturbed (fun h => nomatch h) s⟩
  case externalReset => exact ⟨_, rfl, .reset rfl .external [] (fun h => nomatch h) s⟩
  case resetEnd =>
    refine ⟨_, rfl, ?_⟩
    split
    · exact .resetEnd ‹_›
    · exact .idle _ s
  case readComplete miso =>
    refine ⟨_, rfl, ?_⟩
    split
    case isTrue h => exact .read (Bool.and_eq_true_iff.mp h).1 miso
    case isFalse => exact .idle _ s
  case loopbackIdleWaitPassed line =>
    refine ⟨_, rfl, ?_⟩
    split
    · exact .loopSamples _ ‹_› line
    · exact .idle _ s
  case loopbackTimeout =>
    refine ⟨_, rfl, ?_⟩
    split
    · exact .endLoopback _ ‹_› .failed
    · exact .idle _ s
  case loopbackCheckEnd disturbed =>
    refine ⟨_, rfl, ?_⟩
    split
    · exact .endLoopback _ ‹_› _
    · exact .idle _ s
  case startBit =>
    refine ⟨_, rfl, .whenActive fun _ h => ?_⟩
    split
    case h_2 => exact .startBit _ h ‹_›
    all_goals exact .idle _ s

theorem move_of_exec {c : Instr} {s t : State} (h : exec c s = .next t) : Move c s t := by
  obtain ⟨u, hu, hmove⟩ := exec_move c s
  exact Host.Outcome.next.inj (hu.symm.trans h) ▸ hmove

/-- What every command keeps, and the waiting commands do not touch, every step keeps. -/
theorem step_keeps {P : State → Prop} (hpending : ∀ (s : State) (cs : List Instr), P s → P (s.setPending cs))
    (hexec : ∀ (c : Instr) (s t : State), P s → exec c s = .next t → P t) {s t : State} (hs : P s) (h : step s = .next t) : P t := by
  unfold step at h
  split at h
  case h_1 => exact Host.Outcome.next.inj h ▸ hs
  case h_2 c cs _ => exact hexec c _ t (hpending s cs hs) h

/-! ### Where a move comes about -/

theorem resetInProgress_of_active {s : State} {cfg : Settings} (h : activeSettings s = some cfg) :
    resetInProgress s = false ∧ joinedState s.supervisor.station = true ∧ s.loader.settled = some cfg := by
  unfold activeSettings at h
  split at h
  case isTrue hs => exact ⟨by simpa using (Bool.and_eq_true_iff.mp hs).1, (Bool.and_eq_true_iff.mp hs).2, h⟩
  case isFalse => exact nomatch h

theorem starting_of_startingUp {s : State} (h : startingUp s = true) :
    resetInProgress s = false ∧ s.supervisor.station = .starting := by
  simpa [startingUp] using h

theorem starting_of_startingSettings {s : State} {cfg : Settings} (h : startingSettings s = some cfg) :
    resetInProgress s = false ∧ s.supervisor.station = .starting ∧ s.loader.settled = some cfg := by
  unfold startingSettings at h
  split at h
  case isTrue hs => exact ⟨(starting_of_startingUp hs).1, (starting_of_startingUp hs).2, h⟩
  case isFalse => exact nomatch h

theorem station_of_monitoring {s : State} (h : monitoring s = true) :
    resetInProgress s = false ∧ s.supervisor.station ≠ .configFault := by
  simpa [monitoring] using h

theorem resetInProgress_congr {s t : State} (h : t.resets = s.resets) : resetInProgress t = resetInProgress s := by
  simp only [resetInProgress, h]

end Sys2Proof.Machine

namespace Sys2Proof.Machine

/-! ### What the commands of the line leave as it was -/

/-- What bits of the line, attempts, receptions but for a TIME frame, and the exchanges with the ring leave as it was: the scanner, the
zones, the Loader, the HOLD pin, the station state with gates, latch and cause, the current placement, the Peer Table's entries and row,
and the taken slot. -/
structure LineKept (s t : State) : Prop where
  scanner : t.scanner = s.scanner
  zones : t.zones = s.zones
  loader : t.loader = s.loader
  resets : t.resets = s.resets
  holdPin : t.holdPin = s.holdPin
  pending : t.pending = s.pending
  station : t.supervisor.station = s.supervisor.station
  gates : t.supervisor.gates = s.supervisor.gates
  latch : t.supervisor.contactorLatch = s.supervisor.contactorLatch
  cause : t.supervisor.cause = s.supervisor.cause
  current : t.placement.current = s.placement.current
  entries : t.peers.entries = s.peers.entries
  row : t.peers.row = s.peers.row
  taken : t.timeBase.takenSlot = s.timeBase.takenSlot

theorem LineKept.refl (s : State) : LineKept s s := by constructor <;> rfl

theorem LineKept.trans {s t u : State} (h : LineKept s t) (k : LineKept t u) : LineKept s u where
  scanner := k.scanner.trans h.scanner
  zones := k.zones.trans h.zones
  loader := k.loader.trans h.loader
  resets := k.resets.trans h.resets
  holdPin := k.holdPin.trans h.holdPin
  pending := k.pending.trans h.pending
  station := k.station.trans h.station
  gates := k.gates.trans h.gates
  latch := k.latch.trans h.latch
  cause := k.cause.trans h.cause
  current := k.current.trans h.current
  entries := k.entries.trans h.entries
  row := k.row.trans h.row
  taken := k.taken.trans h.taken

theorem Served.lineKept {s t : State} (h : Served s t) : LineKept s t where
  scanner := h.scanner
  zones := h.zones
  loader := h.loader
  resets := h.resets
  holdPin := h.holdPin
  pending := h.pending
  station := h.supStation
  gates := h.supGates
  latch := h.supContactorLatch
  cause := h.supCause
  current := h.unitCurrent
  entries := h.peersEntries
  row := h.peersRow
  taken := by rw [h.timeBase]

theorem Sampled.lineKept {s t : State} (h : Sampled s t) : LineKept s t where
  scanner := by rw [← h.rest]
  zones := by rw [← h.rest]
  loader := by rw [← h.rest]
  resets := by rw [← h.rest]
  holdPin := by rw [← h.rest]
  pending := by rw [← h.rest]
  station := by rw [← h.rest]
  gates := by rw [← h.rest]
  latch := by rw [← h.rest]
  cause := by rw [← h.rest]
  current := by rw [← h.rest]
  entries := by rw [← h.rest]
  row := by rw [← h.rest]
  taken := by rw [← h.timeBase]

theorem LineKept.gateKept {s t : State} (h : LineKept s t) : GateKept s t where
  gates := h.gates
  station := h.station
  current := h.current
  taken := h.taken
  condition z := by rw [h.zones]
  permit z := by rw [h.zones]

theorem setLink_lineKept (s : State) (l : Link) : LineKept s (s.setLink l) := by constructor <;> rfl

theorem setRing_lineKept (s : State) (r : Ring) : LineKept s (s.setRing r) := by constructor <;> rfl

theorem setQueue_lineKept (s : State) (q : ReceiveQueue) : LineKept s (s.setQueue q) := by constructor <;> rfl

theorem setFlowPin_lineKept (s : State) (b : Bool) : LineKept s (s.setFlowPin b) := by constructor <;> rfl

theorem setTimeBase_lineKept (s : State) {t : TimeBase} (h : t.takenSlot = s.timeBase.takenSlot) : LineKept s (s.setTimeBase t) := by
  constructor <;> first | rfl | exact h

theorem setPlacement_lineKept (s : State) {p : PlacementUnit} (h : p.current = s.placement.current) :
    LineKept s (s.setPlacement p) := by
  constructor <;> first | rfl | exact h

/-! ### Sending (R136 to R139, R145) -/

theorem completeInHand_lineKept (reason : Option FailReason) (s : State) : LineKept s (completeInHand reason s) := by
  simp only [completeInHand]
  split
  · exact setLink_lineKept s _
  · exact (setRing_lineKept s _).trans (setLink_lineKept _ _)
  · exact (setRing_lineKept s _).trans (setLink_lineKept _ _)

theorem leaveFrame_lineKept (ack reject : Bool) (s : State) : LineKept s (leaveFrame ack reject s) :=
  (setTimeBase_lineKept s (by rfl)).trans (setLink_lineKept _ _)

theorem loseArbitration_lineKept (cfg : Settings) (samples : List Bool) (s : State) : LineKept s (loseArbitration cfg samples s) := by
  simp only [loseArbitration]
  split
  · exact (setLink_lineKept s _).trans ((completeInHand_lineKept _ _).trans (serviceHead_served cfg _).lineKept)
  · exact setLink_lineKept s _

theorem enterDetached_lineKept (cfg : Settings) (s : State) : LineKept s (enterDetached cfg s) :=
  ((setRing_lineKept s _).trans (setLink_lineKept _ _)).trans (serviceHead_served cfg _).lineKept

theorem settleFailure_lineKept (cfg : Settings) (ackError : Bool) (s : State) : LineKept s (settleFailure cfg ackError s) := by
  have h := setLink_lineKept s (setTries (countFailure ackError (triesInHand s.link)) s.link)
  simp only [settleFailure]
  split
  · exact h.trans (enterDetached_lineKept cfg _)
  · split
    · exact h.trans ((completeInHand_lineKept _ _).trans (serviceHead_served cfg _).lineKept)
    · split
      · exact h.trans ((completeInHand_lineKept _ _).trans (serviceHead_served cfg _).lineKept)
      · exact h.trans (setLink_lineKept _ _)

theorem sampleBits_lineKept (bits : List Bool) (s : State) : LineKept s (sampleBits bits s) := (sampleBits_sampled bits s).lineKept

theorem bitErrorEnd_lineKept (cfg : Settings) (samples rest : List Bool) (s : State) :
    LineKept s (bitErrorEnd cfg samples rest s) := by
  simp only [bitErrorEnd]
  split
  · exact (((setLink_lineKept s _).trans (leaveFrame_lineKept _ _ _)).trans (settleFailure_lineKept cfg _ _)).trans
      (sampleBits_lineKept rest _)
  · exact (((setLink_lineKept s _).trans (setLink_lineKept _ _)).trans (settleFailure_lineKept cfg _ _)).trans
      (sampleBits_lineKept rest _)

theorem ackErrorEnd_lineKept (cfg : Settings) (rest : List Bool) (s : State) : LineKept s (ackErrorEnd cfg rest s) := by
  simp only [ackErrorEnd]
  refine LineKept.trans ?_ (((leaveFrame_lineKept _ _ _).trans (settleFailure_lineKept cfg _ _)).trans (sampleBits_lineKept rest _))
  split
  · exact setLink_lineKept s _
  · exact LineKept.refl s

theorem endRejectEnd_lineKept (cfg : Settings) (rest : List Bool) (s : State) : LineKept s (endRejectEnd cfg rest s) :=
  (((setLink_lineKept s _).trans (leaveFrame_lineKept _ _ _)).trans (settleFailure_lineKept cfg _ _)).trans (sampleBits_lineKept rest _)

theorem successEnd_lineKept (cfg : Settings) (rest : List Bool) (s : State) : LineKept s (successEnd cfg rest s) :=
  ((((setLink_lineKept s _).trans (leaveFrame_lineKept _ _ _)).trans (setLink_lineKept _ _)).trans
    (completeInHand_lineKept _ _)).trans ((serviceHead_served cfg _).lineKept.trans (sampleBits_lineKept rest _))

theorem attemptBits_lineKept (cfg : Settings) (bits : List Bool) (a : Attempt) (s : State) :
    LineKept s (attemptBits cfg bits a s) := by
  simp only [attemptBits]
  split
  · exact setLink_lineKept s _
  · exact loseArbitration_lineKept cfg _ s
  · exact bitErrorEnd_lineKept cfg _ _ s
  · exact ackErrorEnd_lineKept cfg _ s
  · exact endRejectEnd_lineKept cfg _ s
  · exact successEnd_lineKept cfg _ s

theorem firstBits_lineKept (cfg : Settings) (bits : List Bool) (s : State) : LineKept s (firstBits cfg bits s) := by
  unfold firstBits
  split
  · exact LineKept.refl s
  · split
    · exact loseArbitration_lineKept cfg _ s
    · exact setLink_lineKept s _

theorem startAttempt_lineKept (source : InHand) (sent : List SentBit) (s : State) : LineKept s (startAttempt source sent s) :=
  (setTimeBase_lineKept s (by rfl)).trans (setLink_lineKept _ _)

theorem takeInHand_lineKept (cfg : Settings) (s : State) : LineKept s (takeInHand cfg s) := by
  have hring : ∀ (r : Ring) (l : Link), LineKept s ((s.setRing r).setLink l) := fun r l =>
    (setRing_lineKept s r).trans (setLink_lineKept _ l)
  simp only [takeInHand]
  split
  · split
    · exact LineKept.refl s
    · split
      · exact (hring _ _).trans (startAttempt_lineKept _ _ _)
      · exact LineKept.refl s
  · exact (hring _ _).trans (startAttempt_lineKept _ _ _)

theorem takeBits_lineKept {cfg : Settings} {f : List Bool → State → State} {s : State} (h : ∀ bits, LineKept s (f bits s))
    (line : Line) : LineKept s (takeBits cfg f line s) := by
  obtain ⟨bits, e⟩ | ⟨bits, clock, e⟩ := takeBits_cases cfg f line s
  · exact e ▸ h bits
  · exact e ▸ (h bits).trans (setLink_lineKept _ _)

theorem countRecessive_lineKept (n : Nat) (s : State) : LineKept s (countRecessive n s) := by
  simp only [countRecessive]
  split
  case h_2 =>
    split
    · exact (setLink_lineKept s _).trans (setLink_lineKept _ _)
    · exact setLink_lineKept s _
  all_goals exact LineKept.refl s

theorem chanceStep_lineKept (cfg : Settings) (recessive : Nat) (line : Line) (s : State) :
    LineKept s (chanceStep cfg recessive line s) := by
  have h := countRecessive_lineKept recessive s
  simp only [chanceStep]
  split
  · have h' := h.trans (takeInHand_lineKept cfg _)
    split
    · exact h'.trans (takeBits_lineKept (fun bits => firstBits_lineKept cfg bits _) line)
    · exact h'
  · exact h

/-! ### Receiving (R140 to R143) -/

theorem quietBits_lineKept (bits : List Bool) (s : State) : LineKept s (quietBits bits s) := setLink_lineKept s _

theorem markView_lineKept (s : State) : LineKept s (markView s) := setPlacement_lineKept s (by rfl)

theorem receptionError_lineKept (s : State) : LineKept s (receptionError s) := by
  simp only [receptionError]
  refine (LineKept.trans ?_ (leaveFrame_lineKept _ _ _))
  split
  · exact setLink_lineKept s _
  · exact (setLink_lineKept s _).trans (markView_lineKept _)

theorem giveAddress_lineKept (cfg : Settings) (a : Nat) (s : State) : LineKept s (giveAddress cfg a s) := by
  simp only [giveAddress]
  split <;> exact setTimeBase_lineKept s (by rfl)

theorem clashTest_lineKept (cfg : Settings) (f : Frame) (s : State) : LineKept s (clashTest cfg f s) := by
  unfold clashTest
  split
  · exact ((setRing_lineKept s _).trans (setLink_lineKept _ _)).trans (serviceHead_served cfg _).lineKept
  · exact LineKept.refl s

theorem numberFrame_lineKept (f : Frame) (s : State) : LineKept s (numberFrame f s) := by
  unfold numberFrame
  split
  · exact setPlacement_lineKept s (by rfl)
  · exact LineKept.refl s

theorem arrive_lineKept (f : Frame) (routes : Routes) (order : Nat) (s : State) : LineKept s (arrive f routes order s) := by
  simp only [arrive]
  split
  · split
    · exact (setQueue_lineKept s _).trans (markView_lineKept _)
    · exact setQueue_lineKept s _
  · exact setQueue_lineKept s _

/-- What is kept by whatever leaves the blocks off the line alone, and by a TIME frame taken, is kept by a frame received. -/
theorem takeFrame_keeps {P : State → Prop} {cfg : Settings} (hline : ∀ s t : State, LineKept s t → P s → P t)
    (htime : ∀ (a : Nat) (p : TimePayload) (s : State), P s → P (takeTime cfg a p s)) (f : Frame) {s : State} (hs : P s) :
    P (takeFrame cfg f s) := by
  have hnumbered := (((giveAddress_lineKept cfg f.source s).trans (clashTest_lineKept cfg f _)).trans (numberFrame_lineKept f _))
  unfold takeFrame
  split
  · simp only [handOn, filterFrame]
    split
    · exact htime _ _ _ (hline _ _ hnumbered hs)
    · split
      · exact hline _ _ (hnumbered.trans (arrive_lineKept _ _ _ _)) hs
      · exact hline _ _ hnumbered hs
  · exact hline _ _ (setQueue_lineKept s _) hs

/-- What is kept by whatever leaves the blocks off the line alone, and by a TIME frame taken, is kept by bits of a reception. -/
theorem receptionEnd_keeps {P : State → Prop} {cfg : Settings} (hline : ∀ s t : State, LineKept s t → P s → P t)
    (htime : ∀ (a : Nat) (p : TimePayload) (s : State), P s → P (takeTime cfg a p s)) (rx : Reception) (bits : List Bool) {s : State}
    (hs : P s) : P (receptionEnd cfg rx bits s) := by
  simp only [receptionEnd]
  split
  case h_1 => exact hline _ _ ((setLink_lineKept s _).trans (quietBits_lineKept bits _)) hs
  case h_2 rest _ | h_3 rest _ =>
    exact hline _ _ (((quietBits_lineKept _ s).trans (receptionError_lineKept _)).trans (sampleBits_lineKept rest _)) hs
  case h_4 rest _ =>
    exact hline _ _ (((quietBits_lineKept _ s).trans (leaveFrame_lineKept _ _ _)).trans (sampleBits_lineKept rest _)) hs
  case h_5 f rest _ =>
    refine hline _ _ ((setTimeBase_lineKept _ (by rfl)).trans (sampleBits_lineKept rest _)) (takeFrame_keeps hline htime f ?_)
    exact hline _ _ ((quietBits_lineKept _ s).trans (setLink_lineKept _ _)) hs

theorem takeBits_keeps {P : State → Prop} (hline : ∀ s t : State, LineKept s t → P s → P t) {cfg : Settings}
    {f : List Bool → State → State} {s : State} (h : ∀ bits, P (f bits s)) (line : Line) : P (takeBits cfg f line s) := by
  obtain ⟨bits, e⟩ | ⟨bits, clock, e⟩ := takeBits_cases cfg f line s
  · exact e ▸ h bits
  · exact e ▸ hline _ _ (setLink_lineKept _ _) (h bits)

/-- What the moves of the line but a reception leave as it was. -/
theorem startBit_lineKept (s : State) : LineKept s (startTimed (startReception (quietBits [false] s))) :=
  (((quietBits_lineKept _ s).trans (setTimeBase_lineKept _ (by rfl))).trans (setLink_lineKept _ _)).trans (setLink_lineKept _ _)

/-! ### The dispatcher (R171) -/

/-- What the dispatch of an entry changes beside what the line may: the Peer Table. -/
theorem dispatchHead_lineKept (cfg : Settings) (s : State) :
    LineKept (s.setPeers (dispatchHead cfg s).peers) (dispatchHead cfg s) := by
  have hpeers : ∀ (t : State) (q : ReceiveQueue) (x : PeerTable), LineKept ((s.setQueue q).setPeers x) t →
      LineKept (s.setPeers t.peers) t := fun t q x h =>
    ⟨h.scanner, h.zones, h.loader, h.resets, h.holdPin, h.pending, h.station, h.gates, h.latch, h.cause, h.current, rfl, rfl, h.taken⟩
  unfold dispatchHead
  split
  · exact LineKept.refl s
  · split
    · exact LineKept.refl s
    · split
      · simp only [dispatchPlace]
        split
        · exact hpeers _ _ s.peers (setQueue_lineKept _ _)
        · split
          · simp only [deliverPlacement]
            split
            · exact hpeers _ _ _ (LineKept.refl _)
            · exact hpeers _ _ _ (LineKept.trans (setPlacement_lineKept _ (by rfl)) (yieldTest_served cfg _).lineKept)
          · exact hpeers _ _ _ (LineKept.refl _)
      · exact hpeers _ _ _ (LineKept.refl _)

end Sys2Proof.Machine

/-! PROOFS. What every command leaves as it was: the queue, the pins, the kinds of a reset, the Loader, the latch and the readings (R188,
R195, R204), and where no event is taken (R177, R208). -/

namespace Sys2Proof.Machine

/-! ### What steps within the blocks keep -/

/-- What a step within the blocks leaves as it was: the waiting commands, the HOLD pin, the kinds of a reset, the cause, the Loader, the
readings; and a set contactor latch. -/
structure StepKept (s t : State) : Prop where
  pending : t.pending = s.pending
  holdPin : t.holdPin = s.holdPin
  resets : t.resets = s.resets
  cause : t.supervisor.cause = s.supervisor.cause
  loader : t.loader = s.loader
  latch : s.supervisor.contactorLatch = true → t.supervisor.contactorLatch = true
  control : t.scanner.control = s.scanner.control
  limiter : t.scanner.limiter = s.scanner.limiter
  zones : t.scanner.zones = s.scanner.zones
  voltage : t.scanner.voltage = s.scanner.voltage
  voltageClass : t.scanner.voltageClass = s.scanner.voltageClass

theorem StepKept.refl (s : State) : StepKept s s := by constructor <;> first | rfl | exact id

theorem StepKept.trans {s t u : State} (h : StepKept s t) (k : StepKept t u) : StepKept s u where
  pending := k.pending.trans h.pending
  holdPin := k.holdPin.trans h.holdPin
  resets := k.resets.trans h.resets
  cause := k.cause.trans h.cause
  loader := k.loader.trans h.loader
  latch := k.latch ∘ h.latch
  control := k.control.trans h.control
  limiter := k.limiter.trans h.limiter
  zones := k.zones.trans h.zones
  voltage := k.voltage.trans h.voltage
  voltageClass := k.voltageClass.trans h.voltageClass

theorem LineKept.stepKept {s t : State} (h : LineKept s t) : StepKept s t where
  pending := h.pending
  holdPin := h.holdPin
  resets := h.resets
  cause := h.cause
  loader := h.loader
  latch := h.latch.trans
  control := by rw [h.scanner]
  limiter := by rw [h.scanner]
  zones := by rw [h.scanner]
  voltage := by rw [h.scanner]
  voltageClass := by rw [h.scanner]

theorem EventKept.stepKept {s t : State} (h : EventKept s t) : StepKept s t where
  pending := h.pending
  holdPin := h.holdPin
  resets := h.resets
  cause := h.supCause
  loader := h.loader
  latch := h.supContactorLatch.trans
  control := h.scanControl
  limiter := h.scanLimiter
  zones := h.scanZones
  voltage := h.scanVoltage
  voltageClass := h.scanVoltageClass

theorem setTimeBase_stepKept (s : State) (x : TimeBase) : StepKept s (s.setTimeBase x) := by
  constructor <;> first | rfl | exact id

theorem setZones_stepKept (s : State) (x : Six Zone) : StepKept s (s.setZones x) := by constructor <;> first | rfl | exact id

theorem setSupervisor_stepKept (s : State) {x : Supervisor} (hcause : x.cause = s.supervisor.cause)
    (hlatch : s.supervisor.contactorLatch = true → x.contactorLatch = true) : StepKept s (s.setSupervisor x) := by
  constructor <;> first | rfl | exact hcause | exact hlatch

theorem setGates_stepKept (s : State) (g : Six Bool) : StepKept s (setGates s g) := by constructor <;> first | rfl | exact id

theorem setStation_stepKept (s : State) (x : StationState) : StepKept s (setStation s x) := (setStation_eventKept s x).stepKept

/-! ### The mains (R1 to R6) -/

theorem moveTo_stepKept (cfg : Settings) (p : Nat) (s : State) : StepKept s (moveTo cfg p s) := by
  simp only [moveTo]
  split
  · exact (setTimeBase_stepKept s _).trans (slotEvent_eventKept cfg true _ _).stepKept
  · exact setTimeBase_stepKept s _

theorem mainsCycleEnd_stepKept (s : State) : StepKept s (mainsCycleEnd s) := by
  simp only [mainsCycleEnd, whenActive]
  split
  · exact StepKept.refl s
  · exact StepKept.trans (by constructor <;> first | rfl | exact id) (moveTo_stepKept _ _ _)

theorem noteLoss_stepKept (s : State) : StepKept s (noteLoss s) := setSupervisor_stepKept s rfl id

theorem enterMainsLost_stepKept (s : State) : StepKept s (enterMainsLost s) :=
  ((setGates_stepKept s _).trans (setStation_stepKept _ _)).trans (setSupervisor_stepKept _ rfl id)

theorem setMainsLost_stepKept (s : State) : StepKept s (setMainsLost s) := by
  unfold setMainsLost
  split
  case h_1 => exact StepKept.refl s
  case h_2 | h_3 => exact (noteLoss_stepKept s).trans (enterMainsLost_stepKept _)
  all_goals exact noteLoss_stepKept s

theorem acceptCrossing_stepKept (interval : Nat) (s : State) : StepKept s (acceptCrossing interval s) := by
  have hmeasure := setTimeBase_stepKept s (measurePeriod interval s.timeBase)
  have hreport : ∀ t : State, StepKept s t → StepKept s (reportCrossing (t.setTimeBase (countCrossing t.timeBase))) := fun t h =>
    (h.trans (setTimeBase_stepKept t _)).trans (setSupervisor_stepKept _ rfl id)
  simp only [acceptCrossing]
  split
  · exact hreport _ (hmeasure.trans (mainsCycleEnd_stepKept _))
  · exact hreport _ hmeasure

theorem declareLoss_stepKept (s : State) : StepKept s (declareLoss s) := by
  simp only [declareLoss]
  split
  · exact ((setTimeBase_stepKept s _).trans (mainsCycleEnd_stepKept _)).trans (setMainsLost_stepKept _)
  · exact (setTimeBase_stepKept s _).trans (setMainsLost_stepKept _)

/-! ### A TIME frame (R9 to R13) -/

theorem takeTime_stepKept (cfg : Settings) (a : Nat) (p : TimePayload) (s : State) : StepKept s (takeTime cfg a p s) := by
  simp only [takeTime]
  split
  · exact StepKept.refl s
  · split
    · split
      · simp only [outright]
        split
        · exact ((setTimeBase_stepKept s _).trans (setTimeBase_stepKept _ _)).trans (slotEvent_eventKept cfg false _ _).stepKept
        · exact (setTimeBase_stepKept s _).trans (setTimeBase_stepKept _ _)
      · simp only [bounded]
        split
        · exact ((setTimeBase_stepKept s _).trans (setTimeBase_stepKept _ _)).trans (moveTo_stepKept cfg _ _)
        · exact ((setTimeBase_stepKept s _).trans (setTimeBase_stepKept _ _)).trans (setTimeBase_stepKept _ _)
    · exact StepKept.refl s

theorem receptionEnd_stepKept (cfg : Settings) (rx : Reception) (bits : List Bool) (s : State) :
    StepKept s (receptionEnd cfg rx bits s) :=
  receptionEnd_keeps (P := StepKept s) (fun _ _ h k => k.trans h.stepKept) (fun a p t k => k.trans (takeTime_stepKept cfg a p t)) rx bits
    (StepKept.refl s)

/-! ### Trips, heater faults and releases (R39 to R49) -/

/-- A fold of steps over the zones keeps what each of them keeps. -/
theorem foldl_keeps {P : State → Prop} {f : State → Index → State} (h : ∀ (t : State) (z : Index), P t → P (f t z)) (l : List Index)
    {s : State} (hs : P s) : P (l.foldl f s) := by
  induction l generalizing s with
  | nil => exact hs
  | cons z l ih => exact ih (h s z hs)

/-- What trips, heater fault tests and releases leave as it was: everything but the zones, the gates with the marks of an open window, the
change mark and the contactor latch, which stays set. -/
structure TestKept (s t : State) : Prop where
  rest : { t with zones := s.zones, scanner := s.scanner, supervisor := s.supervisor } = s
  scanner : { t.scanner with window := s.scanner.window } = s.scanner
  supervisor : { t.supervisor with
    gates := s.supervisor.gates, contactorLatch := s.supervisor.contactorLatch, changeMark := s.supervisor.changeMark } = s.supervisor
  latch : s.supervisor.contactorLatch = true → t.supervisor.contactorLatch = true

theorem TestKept.refl (s : State) : TestKept s s := ⟨rfl, rfl, rfl, id⟩

theorem TestKept.trans {s t u : State} (h : TestKept s t) (k : TestKept t u) : TestKept s u where
  rest := (congrArg (fun x : State => { x with zones := s.zones, scanner := s.scanner, supervisor := s.supervisor }) k.rest).trans h.rest
  scanner := (congrArg (fun x : Scanner => { x with window := s.scanner.window }) k.scanner).trans h.scanner
  supervisor := (congrArg (fun x : Supervisor => { x with
    gates := s.supervisor.gates, contactorLatch := s.supervisor.contactorLatch
    changeMark := s.supervisor.changeMark }) k.supervisor).trans h.supervisor
  latch := k.latch ∘ h.latch

theorem TestKept.station {s t : State} (h : TestKept s t) : t.supervisor.station = s.supervisor.station := by rw [← h.supervisor]

theorem TestKept.stepKept {s t : State} (h : TestKept s t) : StepKept s t where
  pending := by rw [← h.rest]
  holdPin := by rw [← h.rest]
  resets := by rw [← h.rest]
  cause := by rw [← h.supervisor]
  loader := by rw [← h.rest]
  latch := h.latch
  control := by rw [← h.scanner]
  limiter := by rw [← h.scanner]
  zones := by rw [← h.scanner]
  voltage := by rw [← h.scanner]
  voltageClass := by rw [← h.scanner]

theorem leaveNormal_testKept (s : State) (z : Index) (x : Zone) : TestKept s (leaveNormal s z x) := ⟨rfl, rfl, rfl, id⟩

theorem setZone_testKept (s : State) (z : Index) (x : Zone) : TestKept s (s.setZone z x) := ⟨rfl, rfl, rfl, id⟩

theorem setLatch_testKept (s : State) : TestKept s (s.setSupervisor { s.supervisor with contactorLatch := true }) :=
  ⟨rfl, rfl, rfl, fun _ => rfl⟩

theorem markChange_testKept (s : State) : TestKept s (markChange s) := ⟨rfl, rfl, rfl, id⟩

theorem tripTest_testKept (cfg : Settings) (s : State) (z : Index) : TestKept s (tripTest cfg s z) := by
  unfold tripTest
  split
  · simp only [tripZone]
    split
    · exact (leaveNormal_testKept s z _).trans (setLatch_testKept _)
    · exact leaveNormal_testKept s z _
  · exact TestKept.refl s

theorem openTest_testKept (cfg : Settings) (s : State) (z : Index) : TestKept s (openTest cfg s z) := by
  simp only [openTest]
  split
  · split
    · split
      · split
        · exact leaveNormal_testKept s z _
        · exact setZone_testKept s z _
      · exact setZone_testKept s z _
    · exact TestKept.refl s
  · exact TestKept.refl s

theorem stuckFinding_testKept (s : State) (z : Index) : TestKept s (stuckFinding s z) := by
  simp only [stuckFinding]
  split
  · exact (setZone_testKept s z _).trans (setLatch_testKept _)
  · exact leaveNormal_testKept s z _

theorem stuckTest_testKept (cfg : Settings) (s : State) (z : Index) : TestKept s (stuckTest cfg s z) := by
  simp only [stuckTest]
  split
  · split
    · split
      · exact setZone_testKept s z _
      · split
        · split
          · exact stuckFinding_testKept s z
          · exact setZone_testKept s z _
        · exact setZone_testKept s z _
    · exact setZone_testKept s z _
    · exact TestKept.refl s
  · exact TestKept.refl s

theorem heaterTests_testKept (cfg : Settings) (s : State) (z : Index) : TestKept s (heaterTests cfg s z) :=
  (openTest_testKept cfg s z).trans (stuckTest_testKept cfg _ z)

theorem clearZone_testKept (cfg : Settings) (s : State) (z : Index) : TestKept s (clearZone cfg s z) := by
  unfold clearZone
  split
  · exact (setZone_testKept s z _).trans (markChange_testKept _)
  · exact TestKept.refl s

/-- A scan completion is the new channels, and then steps within the blocks (R27). -/
theorem scanStep_stepKept (cfg : Settings) (control limiter : Six (BitVec 16)) (s : State) :
    StepKept (s.setScanner (applyScan cfg control limiter s.scanner)) (scanStep cfg control limiter s) ∨
      scanStep cfg control limiter s = s := by
  unfold scanStep
  split
  · exact .inl (foldl_keeps (P := StepKept _) (fun t z k => k.trans (tripTest_testKept cfg t z).stepKept) indexes (StepKept.refl _))
  · exact .inr rfl

/-- A window completion is the new measurements, and then steps within the blocks (R20, R33, R34). -/
theorem windowStep_stepKept (cfg : Settings) (currents : Six Nat) (voltage : Nat) (s : State) :
    (∃ w : Window, StepKept (s.setScanner (applyWindow cfg w currents voltage s.scanner)) (windowStep cfg currents voltage s)) ∨
      windowStep cfg currents voltage s = s := by
  unfold windowStep
  split
  · exact .inr rfl
  · rename_i w _
    refine .inl ⟨w, ?_⟩
    have hsag : ∀ t : State, StepKept t (sagReport cfg w t) := fun t => by
      unfold sagReport
      split
      · constructor <;> first | rfl | exact id
      · exact StepKept.refl t
    have hcollapse : ∀ t : State, StepKept t (collapseReport t) := fun t => by
      unfold collapseReport
      split
      · exact setMainsLost_stepKept t
      · exact StepKept.refl t
    exact StepKept.trans (foldl_keeps (P := StepKept _) (fun t z k => k.trans (heaterTests_testKept cfg t z).stepKept) indexes (hsag _))
      (hcollapse _)

theorem applyScan_measurements (cfg : Settings) (control limiter : Six (BitVec 16)) (sc : Scanner) :
    (applyScan cfg control limiter sc).zones = sc.zones ∧ (applyScan cfg control limiter sc).voltage = sc.voltage ∧
      (applyScan cfg control limiter sc).voltageClass = sc.voltageClass := ⟨rfl, rfl, rfl⟩

theorem takeWindow_channels (sc : Scanner) :
    (takeWindow sc).control = sc.control ∧ (takeWindow sc).limiter = sc.limiter := by
  have hcontrol := congrArg Scanner.control (takeWindow_kept sc).1
  have hlimiter := congrArg Scanner.limiter (takeWindow_kept sc).1
  exact ⟨hcontrol, hlimiter⟩

/-! ### The dispatcher -/

theorem dispatchHead_stepKept (cfg : Settings) (s : State) : StepKept s (dispatchHead cfg s) :=
  StepKept.trans (by constructor <;> first | rfl | exact id) (dispatchHead_lineKept cfg s).stepKept

/-! ### Start-up (R176, R197, R198, R205) -/

theorem endLoopback_stepKept (cfg : Settings) (r : LoopbackResult) (s : State) : StepKept s (endLoopback cfg r s) := by
  have hlink := (setLink_lineKept s { s.link with loopResult := some r }).stepKept
  refine hlink.trans ((setStation_stepKept _ .listening).trans ?_)
  constructor <;> first | rfl | exact id

/-- The Loader's own steps change the Loader, the zones, the link's loopback check and the station state (R204). -/
structure LoaderKept (s t : State) : Prop where
  pending : t.pending = s.pending
  holdPin : t.holdPin = s.holdPin
  resets : t.resets = s.resets
  cause : t.supervisor.cause = s.supervisor.cause
  latch : t.supervisor.contactorLatch = s.supervisor.contactorLatch
  gates : t.supervisor.gates = s.supervisor.gates
  scanner : t.scanner = s.scanner
  peers : t.peers = s.peers
  ring : t.ring = s.ring
  queue : t.queue = s.queue
  placement : t.placement = s.placement
  timeBase : t.timeBase = s.timeBase
  station : t.supervisor.station = s.supervisor.station ∨ t.supervisor.station = .configFault
  link : { t.link with loopback := s.link.loopback } = s.link

theorem setLoader_loaderKept (s : State) (l : Loader) : LoaderKept s (s.setLoader l) := by
  constructor <;> first | rfl | exact .inl rfl

theorem LoaderKept.trans {s t u : State} (h : LoaderKept s t) (k : LoaderKept t u) : LoaderKept s u where
  pending := k.pending.trans h.pending
  holdPin := k.holdPin.trans h.holdPin
  resets := k.resets.trans h.resets
  cause := k.cause.trans h.cause
  latch := k.latch.trans h.latch
  gates := k.gates.trans h.gates
  scanner := k.scanner.trans h.scanner
  peers := k.peers.trans h.peers
  ring := k.ring.trans h.ring
  queue := k.queue.trans h.queue
  placement := k.placement.trans h.placement
  timeBase := k.timeBase.trans h.timeBase
  station := k.station.elim (fun e => e ▸ h.station) .inr
  link := (congrArg (fun l : Link => { l with loopback := s.link.loopback }) k.link).trans h.link

theorem validate_loaderKept (b : Bool) (s : State) : LoaderKept s (validate b s) := by
  unfold validate
  split
  · constructor <;> first | rfl | exact .inl rfl
  · unfold badImage setStation
    split
    · exact setLoader_loaderKept s _
    · constructor <;> first | rfl | exact .inr rfl

theorem takeMisoBits_loaderKept (bits : List Bool) (s : State) : LoaderKept s (takeMisoBits bits s) := by
  simp only [takeMisoBits]
  split
  · exact (setLoader_loaderKept s _).trans (validate_loaderKept _ _)
  · exact setLoader_loaderKept s _

theorem obtainImage_loaderKept (kinds : ResetKinds) (s : State) : LoaderKept s (obtainImage kinds s) := by
  unfold obtainImage
  split
  · exact setLoader_loaderKept s _
  · unfold reverify
    split
    · exact (setLoader_loaderKept s _).trans (validate_loaderKept _ _)
    · exact setLoader_loaderKept s _

/-- The end of a reset: the cause and the kinds, and then the Loader's own steps (R196, R197). -/
theorem endReset_loaderKept (s : State) :
    LoaderKept ((s.setSupervisor { s.supervisor with cause := causeOf s.resets }).setResets ResetKinds.clear) (endReset s) :=
  obtainImage_loaderKept _ _

/-! ### HOLD (R180, R181) -/

theorem holdStep_cases (b : Bool) (s : State) :
    (s.holdPin = b ∧ holdStep b s = s) ∨
      (s.holdPin ≠ b ∧ takesHold s = true ∧ holdStep b s = (s.setHoldPin b).setSupervisor (followHold b s.supervisor)) ∨
      (s.holdPin ≠ b ∧ takesHold s = false ∧ holdStep b s = s.setHoldPin b) := by
  simp only [holdStep]
  split
  · exact .inl ⟨‹_›, rfl⟩
  · split
    · exact .inr (.inl ⟨‹_›, ‹_›, rfl⟩)
    · exact .inr (.inr ⟨‹_›, Bool.eq_false_of_not_eq_true ‹_›, rfl⟩)

/-! ### Every move -/

/-- What a move that neither begins nor ends a reset, nor reads the image, nor moves HOLD keeps, but for the readings of the commands that
bring them. -/
structure MoveKept (c : Instr) (s t : State) : Prop where
  pending : t.pending = s.pending
  holdPin : (∀ b : Bool, c ≠ .hold b) → t.holdPin = s.holdPin
  resets : beginsReset c = false → c ≠ .resetEnd → t.resets = s.resets
  cause : c ≠ .resetEnd → t.supervisor.cause = s.supervisor.cause
  loader : beginsReset c = false → c ≠ .resetEnd → (∀ l, c ≠ .readComplete l) → t.loader = s.loader
  latch : c ≠ .powerOnReset → s.supervisor.contactorLatch = true → t.supervisor.contactorLatch = true
  channels : beginsReset c = false → (∀ a b, c ≠ .scanCompletion a b) →
    t.scanner.control = s.scanner.control ∧ t.scanner.limiter = s.scanner.limiter
  measurements : beginsReset c = false → (∀ a b, c ≠ .windowCompletion a b) →
    t.scanner.zones = s.scanner.zones ∧ t.scanner.voltage = s.scanner.voltage ∧ t.scanner.voltageClass = s.scanner.voltageClass

theorem StepKept.moveKept {s t : State} (h : StepKept s t) (c : Instr) : MoveKept c s t where
  pending := h.pending
  holdPin _ := h.holdPin
  resets _ _ := h.resets
  cause _ := h.cause
  loader _ _ _ := h.loader
  latch _ := h.latch
  channels _ _ := ⟨h.control, h.limiter⟩
  measurements _ _ := ⟨h.zones, h.voltage, h.voltageClass⟩

theorem StepKept.moveKept_hold {b : Bool} {s t : State} (h : StepKept (s.setHoldPin b) t) : MoveKept (.hold b) s t where
  pending := h.pending
  holdPin hb := absurd rfl (hb b)
  resets _ _ := h.resets
  cause _ := h.cause
  loader _ _ _ := h.loader
  latch _ := h.latch
  channels _ _ := ⟨h.control, h.limiter⟩
  measurements _ _ := ⟨h.zones, h.voltage, h.voltageClass⟩

theorem Move.kept {c : Instr} {s t : State} (h : Move c s t) : MoveKept c s t := by
  cases h
  case idle => exact (StepKept.refl s).moveKept c
  case reset k disturbed hreset hk =>
    constructor
    case latch =>
      intro hc hs
      have hk' : k ≠ .powerOn := fun e => hc (hk e)
      simp [beginReset, Supervisor.resetWith, hk', hs]
    all_goals first | exact rfl | exact fun _ => rfl | exact fun h => absurd (hreset.symm.trans h) Bool.noConfusion
  case resetEnd =>
    have h := endReset_loaderKept s
    constructor
    case pending => exact h.pending
    case holdPin => exact fun _ => h.holdPin
    case latch => exact fun _ => h.latch.trans
    case channels => exact fun _ _ => by rw [h.scanner]; exact ⟨rfl, rfl⟩
    case measurements => exact fun _ _ => by rw [h.scanner]; exact ⟨rfl, rfl, rfl⟩
    case resets => exact fun _ e => absurd rfl e
    case cause => exact fun e => absurd rfl e
    case loader => exact fun _ e => absurd rfl e
  case hold b =>
    obtain ⟨-, e⟩ | ⟨-, -, e⟩ | ⟨-, -, e⟩ := holdStep_cases b s
    · rw [e]
      exact (StepKept.refl s).moveKept _
    · rw [e]
      exact (setSupervisor_stepKept _ (by rfl) (by exact id)).moveKept_hold
    · rw [e]
      exact (StepKept.refl _).moveKept_hold
  case read bits _ =>
    have h := takeMisoBits_loaderKept bits s
    constructor
    case pending => exact h.pending
    case holdPin => exact fun _ => h.holdPin
    case resets => exact fun _ _ => h.resets
    case cause => exact fun _ => h.cause
    case loader => exact fun _ _ e => absurd rfl (e bits)
    case latch => exact fun _ => h.latch.trans
    case channels => exact fun _ _ => by rw [h.scanner]; exact ⟨rfl, rfl⟩
    case measurements => exact fun _ _ => by rw [h.scanner]; exact ⟨rfl, rfl, rfl⟩
  case loopSamples cfg line _ => exact ((takeBits_lineKept (fun _ => setLink_lineKept s _) line).stepKept).moveKept c
  case endLoopback cfg r _ => exact (endLoopback_stepKept cfg r s).moveKept c
  case crossing interval flow _ =>
    exact ((setFlowPin_lineKept s flow).stepKept.trans (acceptCrossing_stepKept interval _)).moveKept c
  case loss flow _ => exact ((setFlowPin_lineKept s flow).stepKept.trans (declareLoss_stepKept _)).moveKept c
  case oscillator flow _ => exact ((setFlowPin_lineKept s flow).stepKept.trans (mainsCycleEnd_stepKept _)).moveKept c
  case frame cfg rx line flow _ _ =>
    refine StepKept.moveKept ?_ c
    exact takeBits_keeps (P := StepKept s) (fun _ _ h k => k.trans h.stepKept)
      (fun bits => (setFlowPin_lineKept s flow).stepKept.trans (receptionEnd_stepKept cfg rx bits _)) line
  case complete cfg _ => exact (completeComputation_served cfg s).lineKept.stepKept.moveKept c
  case scan control limiter cfg _ =>
    obtain h | h := scanStep_stepKept cfg control limiter s
    · exact ⟨h.pending, fun _ => h.holdPin, fun _ _ => h.resets, fun _ => h.cause, fun _ _ _ => h.loader, fun _ => h.latch,
        fun _ e => absurd rfl (e _ _), fun _ _ => ⟨h.zones, h.voltage, h.voltageClass⟩⟩
    · rw [h]
      exact (StepKept.refl s).moveKept _
  case window currents voltage cfg _ =>
    obtain ⟨w, h⟩ | h := windowStep_stepKept cfg currents voltage s
    · exact ⟨h.pending, fun _ => h.holdPin, fun _ _ => h.resets, fun _ => h.cause, fun _ _ _ => h.loader, fun _ => h.latch,
        fun _ _ => ⟨h.control.trans (takeWindow_channels _).1, h.limiter.trans (takeWindow_channels _).2⟩, fun _ e => absurd rfl (e _ _)⟩
    · rw [h]
      exact (StepKept.refl s).moveKept _
  case tripClear cfg _ =>
    exact (foldl_keeps (P := StepKept s) (fun t z k => k.trans (clearZone_testKept cfg t z).stepKept) indexes (StepKept.refl s)).moveKept c
  case dispatch cfg _ => exact (dispatchHead_stepKept cfg s).moveKept c
  case bits cfg line _ => exact (takeBits_lineKept (fun bits => sampleBits_lineKept bits s) line).stepKept.moveKept c
  case startBit => exact (startBit_lineKept s).stepKept.moveKept c
  case chance cfg recessive line _ => exact (chanceStep_lineKept cfg recessive line s).stepKept.moveKept c
  case attempt cfg a line _ _ => exact (takeBits_lineKept (fun bits => attemptBits_lineKept cfg bits a s) line).stepKept.moveKept c

/-- In CONFIG_FAULT with no reset in progress every command but a reset and HOLD is idle (R177). -/
theorem Move.idle_of_configFault {c : Instr} {s t : State} (h : Move c s t) (hreset : resetInProgress s = false)
    (hfault : s.supervisor.station = .configFault) (hc : beginsReset c = false) (hhold : ∀ b : Bool, c ≠ .hold b) : t = s := by
  have hactive : ∀ cfg : Settings, activeSettings s ≠ some cfg := fun cfg e => by
    have hjoined := (resetInProgress_of_active e).2.1
    rw [hfault] at hjoined
    exact nomatch hjoined
  have hstarting : s.supervisor.station ≠ .starting := by simp [hfault]
  cases h
  case idle => rfl
  case reset h _ => exact absurd (h.symm.trans hc) Bool.noConfusion
  case resetEnd h => exact absurd (h.symm.trans hreset) Bool.noConfusion
  case hold b => exact absurd rfl (hhold b)
  case read h => exact absurd (starting_of_startingUp h).2 hstarting
  case loopSamples h | endLoopback h => exact absurd (starting_of_startingSettings h).2.1 hstarting
  case crossing h | loss h | oscillator h => exact absurd hfault (station_of_monitoring h).2
  all_goals exact absurd ‹activeSettings s = _› (hactive _)

end Sys2Proof.Machine

namespace Sys2Proof.Proofs.Frames
open Sys2Proof.Machine

/-- Settles O1: by the two cases of the queue. -/
theorem stepRunsTheFrontCommand : Obligations.StepRunsTheFrontCommand := by
  refine ⟨fun c cs s h => ?_, fun s h => ?_⟩
  · simp only [step, h]
    rfl
  · simp only [step, h]

/-- Settles O2: every command moves, and what each move keeps is read off. -/
theorem everyCommandKeepsQueuePinsAndLatch : Obligations.EveryCommandKeepsQueuePinsAndLatch := by
  intro c s
  obtain ⟨t, ht, hmove⟩ := exec_move c s
  have h := hmove.kept
  exact ⟨t, ht, h.pending, h.holdPin, h.resets, h.cause, h.loader, h.latch, h.channels, h.measurements⟩

/-- Settles O3: in a reset no command but those named finds its condition, and in CONFIG_FAULT no move but a reset and HOLD comes about;
HOLD finds a station that takes no request there. -/
theorem resetAndConfigFaultTakeNoEvent : Obligations.ResetAndConfigFaultTakeNoEvent := by
  refine ⟨fun c s h hreset hend hhold => exec_inReset h hreset hend hhold, fun c s h hfault hreset => ⟨fun hhold => ?_, ?_⟩⟩
  · obtain ⟨t, ht, hmove⟩ := exec_move c s
    rw [ht, hmove.idle_of_configFault h hfault hreset hhold]
  · rintro b rfl
    have htakes : takesHold s = false := by simp [takesHold, hfault, joinedState]
    refine congrArg Host.Outcome.next ?_
    obtain ⟨e, h⟩ | ⟨-, h, -⟩ | ⟨-, -, h⟩ := holdStep_cases b s
    · rw [h, ← e]
    · exact absurd (htakes.symm.trans h) Bool.noConfusion
    · exact h

/-- Settles O23: by the three cases of a HOLD command. -/
theorem holdMovesTheHoldRequest : Obligations.HoldMovesTheHoldRequest := by
  intro b s
  refine ⟨fun h => ?_, fun h hreset hjoined => ?_, fun h hnot => ?_⟩
  all_goals refine congrArg Host.Outcome.next ?_
  · obtain ⟨-, e⟩ | ⟨k, -⟩ | ⟨k, -⟩ := holdStep_cases b s
    · exact e
    all_goals exact absurd h k
  · have htakes : takesHold s = true := by simp [takesHold, hreset, hjoined]
    obtain ⟨k, -⟩ | ⟨-, -, e⟩ | ⟨-, k, -⟩ := holdStep_cases b s
    · exact absurd k h
    · exact e
    · exact absurd (htakes.symm.trans k) Bool.noConfusion
  · have htakes : takesHold s = false := by
      rcases hnot with hnot | hnot <;> simp [takesHold, hnot]
    obtain ⟨k, -⟩ | ⟨-, k, -⟩ | ⟨-, -, e⟩ := holdStep_cases b s
    · exact absurd k h
    · exact absurd (htakes.symm.trans k) Bool.noConfusion
    · exact e

end Sys2Proof.Proofs.Frames

/-! PROOFS. Every step keeps each lit gate within its placement (R185, R186). -/

namespace Sys2Proof.Machine

/-! ### A reset in progress has its station STARTING (R193) -/

/-- A command begins a reset, which writes STARTING; or it finds one, which it leaves as it is or ends; or there is none after it. -/
theorem ResetInStarting.exec {c : Instr} {s t : State} (hs : ResetInStarting s) (h : exec c s = .next t) : ResetInStarting t := by
  intro ht
  by_cases hend : c = .resetEnd
  case pos =>
    obtain rfl := hend
    obtain rfl := Host.Outcome.next.inj h
    split at ht
    · exact absurd ((resetInProgress_congr (endReset_loaderKept s).resets).symm.trans ht) Bool.noConfusion
    · rw [if_neg ‹_›]; exact hs ht
  case neg =>
    by_cases hin : resetInProgress s = true
    case pos =>
      obtain ⟨k, disturbed, e⟩ | ⟨b, e⟩ | e := exec_inReset_cases hin hend
      all_goals obtain rfl := Host.Outcome.next.inj (e.symm.trans h)
      · rfl
      all_goals exact hs hin
    case neg =>
      by_cases hc : beginsReset c = true
      · obtain ⟨k, disturbed, e⟩ := exec_of_beginsReset hc s
        obtain rfl := Host.Outcome.next.inj (e.symm.trans h)
        rfl
      · have hkept := (move_of_exec h).kept.resets (Bool.eq_false_of_not_eq_true hc) hend
        exact absurd ((resetInProgress_congr hkept).symm.trans ht) hin

/-! ### Gates that go off, or stay where they are -/

/-- Gates that are lit after a change of the zones alone were lit before, over a zone that has not changed what gate drive reads. -/
theorem GatesSafe.of_lit {s t : State} (hs : GatesSafe s) (hstation : t.supervisor.station = s.supervisor.station)
    (hcurrent : t.placement.current = s.placement.current) (htaken : t.timeBase.takenSlot = s.timeBase.takenSlot)
    (hlit : ∀ z : Index, t.supervisor.gates.get z = true → s.supervisor.gates.get z = true ∧
      (t.zones.get z).condition = (s.zones.get z).condition ∧ (t.zones.get z).permit = (s.zones.get z).permit) : GatesSafe t := by
  intro z hz
  obtain ⟨hgate, hcondition, hpermit⟩ := hlit z hz
  have h := hs z hgate
  simp only [gateLevel, hstation, hcurrent, htaken, hcondition, hpermit] at h ⊢
  exact h

/-- No gate is lit where the station is not RUNNING. -/
theorem GatesSafe.dark {s : State} (hs : GatesSafe s) (h : s.supervisor.station ≠ .running) (z : Index) :
    s.supervisor.gates.get z = false := by
  refine Bool.eq_false_of_not_eq_true fun hz => h ?_
  have hlevel := hs z hz
  simp only [gateLevel, Bool.and_eq_true, decide_eq_true_eq] at hlevel
  exact hlevel.1.1.1

theorem gatesSafe_of_dark {t : State} (h : ∀ z : Index, t.supervisor.gates.get z = false) : GatesSafe t := fun z hz =>
  absurd ((h z).symm.trans hz) Bool.noConfusion

theorem GatesSafe.normal {s : State} (hs : GatesSafe s) {z : Index} (h : s.supervisor.gates.get z = true) :
    (s.zones.get z).condition = .normal := by
  have hlevel := hs z h
  simp only [gateLevel, Bool.and_eq_true, decide_eq_true_eq] at hlevel
  exact hlevel.1.1.2

theorem LineKept.gatesSafe {s t : State} (h : LineKept s t) (hs : GatesSafe s) : GatesSafe t := hs.kept h.gateKept

/-! ### Trips, heater faults, releases (R39 to R49, R186) -/

theorem leaveNormal_gatesSafe {s : State} (hs : GatesSafe s) (z : Index) (x : Zone) : GatesSafe (leaveNormal s z x) := by
  refine hs.of_lit rfl rfl rfl fun y hy => ?_
  have hgate : (leaveNormal s z x).supervisor.gates.get y = if y = z then false else s.supervisor.gates.get y := Six.get_set _ _ _ _
  have hzone : (leaveNormal s z x).zones.get y = if y = z then { x with permit := false } else s.zones.get y := Six.get_set _ _ _ _
  by_cases h : y = z
  · rw [hgate, if_pos h] at hy
    exact absurd hy Bool.false_ne_true
  · rw [hgate, if_neg h] at hy
    rw [hzone, if_neg h]
    exact ⟨hy, rfl, rfl⟩

/-- A record with the condition and the permit of its zone. -/
theorem setZone_gateKept (s : State) (z : Index) (x : Zone) (hcondition : x.condition = (s.zones.get z).condition)
    (hpermit : x.permit = (s.zones.get z).permit) : GateKept s (s.setZone z x) := by
  have hzone : ∀ y, (s.setZone z x).zones.get y = if y = z then x else s.zones.get y := fun y => Six.get_set _ _ _ _
  refine ⟨rfl, rfl, rfl, rfl, fun y => ?_, fun y => ?_⟩
  all_goals
    rw [hzone]
    by_cases h : y = z
    · rw [if_pos h, h]; assumption
    · rw [if_neg h]

theorem setLatch_gateKept (s : State) : GateKept s (s.setSupervisor { s.supervisor with contactorLatch := true }) :=
  ⟨rfl, rfl, rfl, rfl, fun _ => rfl, fun _ => rfl⟩

theorem tripTest_gatesSafe (cfg : Settings) {s : State} (hs : GatesSafe s) (z : Index) : GatesSafe (tripTest cfg s z) := by
  unfold tripTest
  split
  · simp only [tripZone]
    split
    · exact (leaveNormal_gatesSafe hs z _).kept (setLatch_gateKept _)
    · exact leaveNormal_gatesSafe hs z _
  · exact hs

theorem openTest_gatesSafe (cfg : Settings) {s : State} (hs : GatesSafe s) (z : Index) : GatesSafe (openTest cfg s z) := by
  simp only [openTest]
  split
  · split
    · split
      · split
        · exact leaveNormal_gatesSafe hs z _
        · exact hs.kept (setZone_gateKept s z _ rfl rfl)
      · exact hs.kept (setZone_gateKept s z _ rfl rfl)
    · exact hs
  · exact hs

theorem stuckFinding_gatesSafe {s : State} (hs : GatesSafe s) (z : Index) : GatesSafe (stuckFinding s z) := by
  simp only [stuckFinding]
  split
  · exact hs.kept ((setZone_gateKept s z _ (by rfl) (by rfl)).trans (setLatch_gateKept _))
  · exact leaveNormal_gatesSafe hs z _

theorem stuckTest_gatesSafe (cfg : Settings) {s : State} (hs : GatesSafe s) (z : Index) : GatesSafe (stuckTest cfg s z) := by
  simp only [stuckTest]
  split
  · split
    · split
      · exact hs.kept (setZone_gateKept s z _ rfl rfl)
      · split
        · split
          · exact stuckFinding_gatesSafe hs z
          · exact hs.kept (setZone_gateKept s z _ rfl rfl)
        · exact hs.kept (setZone_gateKept s z _ rfl rfl)
    · exact hs.kept (setZone_gateKept s z _ rfl rfl)
    · exact hs
  · exact hs

/-- A release makes a zone NORMAL that was not, so its gate is off. -/
theorem clearZone_gatesSafe (cfg : Settings) {s : State} (hs : GatesSafe s) (z : Index) : GatesSafe (clearZone cfg s z) := by
  unfold clearZone
  split
  case isFalse => exact hs
  case isTrue h =>
    have hnormal : (s.zones.get z).condition ≠ .normal := fun e => by
      have hmet := (Bool.and_eq_true_iff.mp h).2
      simp [releaseMet, e] at hmet
    refine hs.of_lit rfl rfl rfl fun y hy => ?_
    have hzone : ∀ x, (markChange (s.setZone z x)).zones.get y = if y = z then x else s.zones.get y := fun _ => Six.get_set _ _ _ _
    have hyz : y ≠ z := fun e => hnormal (e ▸ hs.normal hy)
    rw [hzone, if_neg hyz]
    exact ⟨hy, rfl, rfl⟩

theorem scanStep_gatesSafe (cfg : Settings) (control limiter : Six (BitVec 16)) {s : State} (hs : GatesSafe s) :
    GatesSafe (scanStep cfg control limiter s) := by
  unfold scanStep
  split
  · exact foldl_keeps (P := GatesSafe) (fun t z ht => tripTest_gatesSafe cfg ht z) indexes
      (hs.kept ⟨rfl, rfl, rfl, rfl, fun _ => rfl, fun _ => rfl⟩)
  · exact hs

/-! ### Loss of mains (R183) -/

theorem enterMainsLost_gates (s : State) (z : Index) : (enterMainsLost s).supervisor.gates.get z = false := by
  have h : (enterMainsLost s).supervisor.gates = (allGatesOff s).supervisor.gates := by
    simp only [enterMainsLost, setStation]
    split <;> rfl
  rw [h]
  exact Six.get_fill false z

theorem setMainsLost_gatesSafe {s : State} (hs : GatesSafe s) : GatesSafe (setMainsLost s) := by
  have hnote : GatesSafe (noteLoss s) := hs.kept ⟨rfl, rfl, rfl, rfl, fun _ => rfl, fun _ => rfl⟩
  unfold setMainsLost
  split
  case h_1 => exact hs
  case h_2 | h_3 => exact gatesSafe_of_dark (enterMainsLost_gates _)
  all_goals exact hnote

theorem windowStep_gatesSafe (cfg : Settings) (currents : Six Nat) (voltage : Nat) {s : State} (hs : GatesSafe s) :
    GatesSafe (windowStep cfg currents voltage s) := by
  unfold windowStep
  split
  · exact hs
  · rename_i w _
    have hsag : ∀ t : State, GateKept t (sagReport cfg w t) := fun t => by
      unfold sagReport
      split
      · exact ⟨rfl, rfl, rfl, rfl, fun _ => rfl, fun _ => rfl⟩
      · exact GateKept.refl t
    have hscanner : GatesSafe (s.setScanner (applyWindow cfg w currents voltage s.scanner)) :=
      hs.kept ⟨rfl, rfl, rfl, rfl, fun _ => rfl, fun _ => rfl⟩
    have htests := foldl_keeps (P := GatesSafe) (f := heaterTests cfg) (fun t z ht => stuckTest_gatesSafe cfg (openTest_gatesSafe cfg ht z) z) indexes
      (hscanner.kept (hsag _))
    unfold collapseReport
    split
    · exact setMainsLost_gatesSafe htests
    · exact htests

theorem setTimeBase_gateKept (s : State) {t : TimeBase} (h : t.takenSlot = s.timeBase.takenSlot) : GateKept s (s.setTimeBase t) :=
  ⟨rfl, rfl, rfl, h, fun _ => rfl, fun _ => rfl⟩

theorem measurePeriod_taken (interval : Nat) (t : TimeBase) : (measurePeriod interval t).takenSlot = t.takenSlot := by
  unfold measurePeriod
  split <;> rfl

theorem acceptCrossing_gatesSafe (interval : Nat) {s : State} (hs : GatesSafe s) : GatesSafe (acceptCrossing interval s) := by
  have hmeasure : GatesSafe (s.setTimeBase (measurePeriod interval s.timeBase)) :=
    hs.kept (setTimeBase_gateKept s (measurePeriod_taken interval _))
  have hreport : ∀ t : State, GatesSafe t → GatesSafe (reportCrossing (t.setTimeBase (countCrossing t.timeBase))) := fun t ht =>
    ht.kept ⟨rfl, rfl, rfl, rfl, fun _ => rfl, fun _ => rfl⟩
  simp only [acceptCrossing]
  split
  · exact hreport _ (mainsCycleEnd_gatesSafe _ hmeasure)
  · exact hreport _ hmeasure

theorem declareLoss_gatesSafe {s : State} (hs : GatesSafe s) : GatesSafe (declareLoss s) := by
  have hlose : GatesSafe (s.setTimeBase (loseCrossings s.timeBase)) := hs.kept (setTimeBase_gateKept s rfl)
  simp only [declareLoss]
  split
  · exact setMainsLost_gatesSafe (mainsCycleEnd_gatesSafe _ hlose)
  · exact setMainsLost_gatesSafe hlose

/-! ### Every move -/

theorem endLoopback_gates (cfg : Settings) (r : LoopbackResult) (s : State) :
    (endLoopback cfg r s).supervisor.gates = s.supervisor.gates := by
  simp only [endLoopback, enterListening, setStation]
  split <;> rfl

/-- A station that starts up has its gates off, and the steps of start-up light none. -/
theorem Move.gatesSafe {c : Instr} {s t : State} (h : Move c s t) (hstart : ResetInStarting s) (hs : GatesSafe s) : GatesSafe t := by
  have hdark : s.supervisor.station = .starting → ∀ z : Index, s.supervisor.gates.get z = false := fun e =>
    hs.dark (by simp [e])
  have hline : ∀ s t : State, LineKept s t → GatesSafe s → GatesSafe t := fun _ _ h hs => h.gatesSafe hs
  cases h
  case idle => exact hs
  case reset => exact gatesSafe_of_dark fun z => Six.get_fill false z
  case resetEnd h =>
    refine gatesSafe_of_dark fun z => ?_
    rw [(endReset_loaderKept s).gates]
    exact hdark (hstart h) z
  case hold b =>
    refine hs.kept ?_
    obtain ⟨-, e⟩ | ⟨-, -, e⟩ | ⟨-, -, e⟩ := holdStep_cases b s
    all_goals
      rw [e]
      exact ⟨rfl, rfl, rfl, rfl, fun _ => rfl, fun _ => rfl⟩
  case read bits h =>
    refine gatesSafe_of_dark fun z => ?_
    rw [(takeMisoBits_loaderKept bits s).gates]
    exact hdark (starting_of_startingUp h).2 z
  case loopSamples cfg line _ => exact (takeBits_lineKept (fun _ => setLink_lineKept s _) line).gatesSafe hs
  case endLoopback cfg r h =>
    refine gatesSafe_of_dark fun z => ?_
    rw [endLoopback_gates]
    exact hdark (starting_of_startingSettings h).2.1 z
  case crossing interval flow _ => exact acceptCrossing_gatesSafe interval ((setFlowPin_lineKept s flow).gatesSafe hs)
  case loss flow _ => exact declareLoss_gatesSafe ((setFlowPin_lineKept s flow).gatesSafe hs)
  case oscillator flow _ => exact mainsCycleEnd_gatesSafe _ ((setFlowPin_lineKept s flow).gatesSafe hs)
  case frame cfg rx line flow _ _ =>
    exact takeBits_keeps hline (fun bits => receptionEnd_keeps hline (fun a p t => takeTime_gatesSafe cfg a p t) rx bits
      ((setFlowPin_lineKept s flow).gatesSafe hs)) line
  case complete cfg _ => exact (completeComputation_served cfg s).lineKept.gatesSafe hs
  case scan control limiter cfg _ => exact scanStep_gatesSafe cfg control limiter hs
  case window currents voltage cfg _ => exact windowStep_gatesSafe cfg currents voltage hs
  case tripClear cfg _ => exact foldl_keeps (P := GatesSafe) (fun t z ht => clearZone_gatesSafe cfg ht z) indexes hs
  case dispatch cfg _ =>
    refine (dispatchHead_lineKept cfg s).gatesSafe (hs.kept ?_)
    exact ⟨rfl, rfl, rfl, rfl, fun _ => rfl, fun _ => rfl⟩
  case bits cfg line _ => exact (takeBits_lineKept (fun bits => sampleBits_lineKept bits s) line).gatesSafe hs
  case startBit => exact (startBit_lineKept s).gatesSafe hs
  case chance cfg recessive line _ => exact (chanceStep_lineKept cfg recessive line s).gatesSafe hs
  case attempt cfg a line _ _ => exact (takeBits_lineKept (fun bits => attemptBits_lineKept cfg bits a s) line).gatesSafe hs

end Sys2Proof.Machine

namespace Sys2Proof.Proofs.Gates
open Sys2Proof.Machine

/-- Settles O54: a slot-boundary event drives every gate anew, a zone that leaves NORMAL and a station that leaves RUNNING put theirs out,
and no other move touches what gate drive reads. -/
theorem stepKeepsTheGatesSafe : Obligations.StepKeepsTheGatesSafe := by
  intro s t hstart hs h
  exact step_keeps (P := fun s => ResetInStarting s ∧ GatesSafe s)
    (fun _ _ hs => ⟨hs.1, hs.2⟩)
    (fun _ _ _ hs h => ⟨hs.1.exec h, (move_of_exec h).gatesSafe hs.1 hs.2⟩) ⟨hstart, hs⟩ h

end Sys2Proof.Proofs.Gates

/-! PROOFS. The induction over a slot-boundary event, over a mains-cycle end and over a TIME frame, packaged once: what each block's part
keeps, the whole keeps. -/

namespace Sys2Proof.Machine

/-! ### Slot-boundary events (R5 to R7) -/

/-- A property that every block's part in a slot-boundary event keeps, under the settled fields. -/
structure EventClosed (cfg : Settings) (P : State → Prop) : Prop where
  timeBase : ∀ (s : State) (t : TimeBase), P s → P (s.setTimeBase t)
  complete : ∀ s : State, P s → P (completeComputation cfg s)
  mailbox : ∀ (s : State) (r : Ring), r = expireMailbox s.ring ∨ r = offerTime s.ring → P s → P (s.setRing r)
  station : ∀ s : State, s.loader.settled = some cfg → P s → P (stationBoundary cfg s)
  rollover : ∀ s : State, P s → P (rollover cfg s)
  peers : ∀ (s : State) (now : Cycle), P s → P (s.setPeers (rolloverPeers cfg now s.peers))
  permits : ∀ s : State, P s → P (grantPermits s)
  flow : ∀ (entered : Bool) (s : State), P s → P (flowBoundary cfg entered s)
  drive : ∀ (slot : Nat) (s : State), P s → P (driveGates slot s)
  arm : ∀ (slot : Nat) (now : Cycle) (s : State), P s → P (s.setScanner (armScanner slot now s.scanner))
  sample : ∀ s : State, P s → P (samplePin cfg s)
  demand : ∀ s : State, s.loader.settled = some cfg → P s → P (demandPoint cfg s)
  freeze : ∀ s : State, P s → P (freeze cfg s)
  status : ∀ s : State, P s → P (statusPoint cfg s)

section Event

variable {cfg : Settings} {P : State → Prop} (h : EventClosed cfg P)
include h

theorem beforeEvent_keeps (slot : Nat) {s : State} (hs : P s) : P (beforeEvent cfg slot s) := by
  simp only [beforeEvent]
  split
  · exact h.mailbox _ _ (.inl rfl) hs
  · exact h.mailbox _ _ (.inl rfl) (h.complete s hs)

theorem cycleSteps_keeps (counted : Bool) {s : State} (hs : P s) : P (cycleSteps cfg counted s) := by
  simp only [cycleSteps, offerAtBoundary]
  split
  · exact h.mailbox _ _ (.inr rfl) (h.timeBase s _ hs)
  · exact h.timeBase s _ hs

theorem boundaryBlocks_keeps (entered : Bool) {s : State} (hs : P s) : P (boundaryBlocks cfg entered s) :=
  h.flow entered _ (h.permits _ (h.peers _ _ (h.rollover s hs)))

theorem everySlot_keeps (slot : Nat) {s : State} (hs : P s) : P (everySlot cfg slot s) :=
  h.sample _ (h.arm slot _ _ (h.drive slot s hs))

theorem slotPoint_keeps (slot : Nat) {s : State} (hcfg : s.loader.settled = some cfg) (hs : P s) : P (slotPoint cfg slot s) := by
  unfold slotPoint
  split
  · exact h.demand s hcfg hs
  · split
    · exact h.freeze s hs
    · split
      · exact h.status s hs
      · exact hs

/-- What every block's part keeps, a slot-boundary event keeps. -/
theorem slotEvent_keeps (counted : Bool) (slot : Nat) {s : State} (hcfg : s.loader.settled = some cfg) (hs : P s) :
    P (slotEvent cfg counted slot s) := by
  have hbefore := beforeEvent_keeps h slot hs
  have hsettled := (congrArg Loader.settled (beforeEvent_served cfg slot s).loader).trans hcfg
  simp only [slotEvent]
  split
  · exact everySlot_keeps h 0 (boundaryBlocks_keeps h _ (h.timeBase _ _ (cycleSteps_keeps h counted (h.station _ hsettled hbefore))))
  · refine slotPoint_keeps h slot ?_ (everySlot_keeps h slot (h.timeBase _ _ hbefore))
    rw [(everySlot_eventKept cfg slot _).loader]
    exact hsettled

theorem moveTo_keeps (position : Nat) {s : State} (hcfg : s.loader.settled = some cfg) (hs : P s) : P (moveTo cfg position s) := by
  simp only [moveTo]
  split
  · exact slotEvent_keeps h true _ hcfg (h.timeBase s _ hs)
  · exact h.timeBase s _ hs

/-- What a slot-boundary event keeps, a TIME frame keeps (R9 to R13). -/
theorem takeTime_keeps (a : Nat) (p : TimePayload) {s : State} (hcfg : s.loader.settled = some cfg) (hs : P s) :
    P (takeTime cfg a p s) := by
  simp only [takeTime]
  split
  · exact hs
  · split
    · split
      · simp only [outright]
        split
        · exact slotEvent_keeps h false _ hcfg (h.timeBase _ _ (h.timeBase s _ hs))
        · exact h.timeBase _ _ (h.timeBase s _ hs)
      · simp only [bounded]
        split
        · exact moveTo_keeps h _ hcfg (h.timeBase _ _ (h.timeBase s _ hs))
        · exact h.timeBase _ _ (h.timeBase _ _ (h.timeBase s _ hs))
    · exact hs

end Event

/-! ### The mains (R1 to R4, R182, R183) -/

/-- A property that slot-boundary events and the mains records keep. -/
structure TimingClosed (P : State → Prop) : Prop where
  event : ∀ cfg : Settings, EventClosed cfg P
  timeBase : ∀ (s : State) (t : TimeBase), P s → P (s.setTimeBase t)
  flowPin : ∀ (s : State) (b : Bool), P s → P (s.setFlowPin b)
  scanner : ∀ (s : State) (g : Six Bool), P s → P (s.setScanner (scannerMainsEnd g s.scanner))
  report : ∀ s : State, P s → P (reportCrossing s)
  loss : ∀ s : State, P s → P (setMainsLost s)

section Timing

variable {P : State → Prop} (h : TimingClosed P)
include h

theorem mainsCycleEnd_keeps {s : State} (hs : P s) : P (mainsCycleEnd s) := by
  simp only [mainsCycleEnd, whenActive]
  split
  · exact hs
  · rename_i cfg hcfg
    exact moveTo_keeps (h.event cfg) _ (resetInProgress_of_active hcfg).2.2 (h.scanner s _ hs)

theorem acceptCrossing_keeps (interval : Nat) {s : State} (hs : P s) : P (acceptCrossing interval s) := by
  simp only [acceptCrossing]
  split
  · exact h.report _ (h.timeBase _ _ (mainsCycleEnd_keeps h (h.timeBase s _ hs)))
  · exact h.report _ (h.timeBase _ _ (h.timeBase s _ hs))

theorem declareLoss_keeps {s : State} (hs : P s) : P (declareLoss s) := by
  simp only [declareLoss]
  split
  · exact h.loss _ (mainsCycleEnd_keeps h (h.timeBase s _ hs))
  · exact h.loss _ (h.timeBase s _ hs)

end Timing

/-! ### Properties that the exchanges with the ring keep -/

/-- A property of the blocks that exchanges with the ring leave alone is kept by an event when the other parts of it keep it. -/
structure BlocksClosed (cfg : Settings) (P : State → Prop) : Prop where
  served : ∀ s t : State, Served s t → P s → P t
  timeBase : ∀ (s : State) (t : TimeBase), P s → P (s.setTimeBase t)
  placement : ∀ (s : State) (p : PlacementUnit), P s → P (s.setPlacement p)
  station : ∀ s : State, s.loader.settled = some cfg → P s → P (stationBoundary cfg s)
  peers : ∀ (s : State) (now : Cycle), P s → P (s.setPeers (rolloverPeers cfg now s.peers))
  permits : ∀ s : State, P s → P (grantPermits s)
  drive : ∀ (slot : Nat) (s : State), P s → P (driveGates slot s)
  arm : ∀ (slot : Nat) (now : Cycle) (s : State), P s → P (s.setScanner (armScanner slot now s.scanner))
  sources : ∀ s : State, P s → P (selectSources s cfg)
  demands : ∀ s : State, s.loader.settled = some cfg → P s → P (computeDemands cfg s)
  curtailment : ∀ (l : List Nat) (s : State), P s → P (takeCurtailment l s)
  statusSent : ∀ (s : State) (n : Nat) (mark : Bool), P s →
    P (s.setSupervisor { s.supervisor with periodCount := n, changeMark := mark })
  refusal : ∀ s : State, P s → P (s.setQueue { s.queue with refusalMark := false })

section Blocks

variable {cfg : Settings} {P : State → Prop} (h : BlocksClosed cfg P)
include h

theorem rollover_keeps {s : State} (hs : P s) : P (rollover cfg s) :=
  h.served _ _ (serviceHead_served cfg _) (h.placement _ _ (h.served _ _ (abandonRequest_served s) hs))

theorem demandPoint_keeps {s : State} (hcfg : s.loader.settled = some cfg) (hs : P s) : P (demandPoint cfg s) := by
  have hsources := h.sources s hs
  simp only [demandPoint]
  split
  case h_1 | h_2 => exact hs
  case h_3 | h_6 => exact hsources
  case h_4 => exact h.served _ _ (beginComputation_served cfg _) (h.placement _ _ (h.demands _ hcfg hsources))
  case h_5 => exact h.served _ _ (beginComputation_served cfg _) hsources

theorem freeze_keeps {s : State} (hs : P s) : P (freeze cfg s) := by
  unfold freeze
  split
  · exact h.curtailment _ _ (h.placement _ _ (h.served _ _ (closeWindow_served cfg s) hs))
  · exact hs

theorem statusPoint_keeps {s : State} (hs : P s) : P (statusPoint cfg s) := by
  simp only [statusPoint]
  split
  · have hcount := h.statusSent s (saturate 255 (s.supervisor.periodCount + 1)) s.supervisor.changeMark hs
    split
    · exact h.served _ _ (serviceHead_served cfg _)
        (h.statusSent _ 0 false (h.refusal _ (h.served _ _ (setRing_served _ _) hcount)))
    · exact hcount
  · exact hs

theorem BlocksClosed.eventClosed : EventClosed cfg P where
  timeBase := h.timeBase
  complete s := h.served _ _ (completeComputation_served cfg s)
  mailbox s r _ := h.served _ _ (setRing_served s r)
  station := h.station
  rollover _ := rollover_keeps h
  peers := h.peers
  permits := h.permits
  flow entered s := h.served _ _ (flowBoundary_served cfg entered s)
  drive := h.drive
  arm := h.arm
  sample s := h.served _ _ (samplePin_served cfg s)
  demand _ hcfg := demandPoint_keeps h hcfg
  freeze _ := freeze_keeps h
  status _ := statusPoint_keeps h

end Blocks

end Sys2Proof.Machine

/-! PROOFS. Every step keeps the Peer Table's keys sound (R101 to R103, R106). -/

namespace Sys2Proof.Machine

/-! ### Addresses with an entry or a set -/

theorem hasEntry_iff (t : PeerTable) (a : Nat) : hasEntry t a = true ↔ a ∈ t.entries.map Entry.address := by
  simp [hasEntry]

theorem hasSet_iff (t : PeerTable) (a : Nat) : hasSet t a = true ↔ a ∈ t.row.map RowSet.address := by
  simp [hasSet]

/-- The keys of a table: one entry and one set per address at most, and none with both. -/
structure KeysSound (t : PeerTable) : Prop where
  entries : (t.entries.map Entry.address).Nodup
  row : (t.row.map RowSet.address).Nodup
  apart : ∀ a ∈ t.entries.map Entry.address, a ∉ t.row.map RowSet.address

/-- No entry and no set goes beyond those of another table. -/
theorem KeysSound.of_sublist {t u : PeerTable} (h : KeysSound t) (he : (u.entries.map Entry.address).Sublist (t.entries.map Entry.address))
    (hr : (u.row.map RowSet.address).Sublist (t.row.map RowSet.address)) : KeysSound u where
  entries := h.entries.sublist he
  row := h.row.sublist hr
  apart a ha hb := h.apart a (he.subset ha) (hr.subset hb)

/-! ### Sets of the row (R102) -/

theorem putSet_addresses (a : Nat) (runs : List Run) (order : Nat) (row : List RowSet) :
    (putSet a runs order row).map RowSet.address = (row.map RowSet.address).filter (fun x => decide (x ≠ a)) ++ [a] := by
  simp [putSet, List.filter_map, Function.comp_def]

theorem putSet_nodup {a : Nat} {runs : List Run} {order : Nat} {row : List RowSet} (h : (row.map RowSet.address).Nodup) :
    ((putSet a runs order row).map RowSet.address).Nodup := by
  rw [putSet_addresses, List.nodup_append]
  refine ⟨h.filter _, List.nodup_singleton a, fun x hx y hy => ?_⟩
  rw [List.mem_singleton] at hy
  simpa [hy] using (List.mem_filter.mp hx).2

theorem mem_putSet {a b : Nat} {runs : List Run} {order : Nat} {row : List RowSet}
    (h : b ∈ (putSet a runs order row).map RowSet.address) : b ∈ row.map RowSet.address ∨ b = a := by
  rw [putSet_addresses, List.mem_append, List.mem_singleton] at h
  exact h.imp (fun h => (List.mem_filter.mp h).1) id

/-! ### Deliveries (R99 to R103) -/

theorem takePlacements_addresses (a : Nat) (runs : List Run) (order : Nat) (target : Byte) (l : List Entry) :
    (l.map fun e => if e.address = a then takePlacement runs order target e else e).map Entry.address = l.map Entry.address := by
  rw [List.map_map]
  refine List.map_congr_left fun e _ => ?_
  simp only [Function.comp_apply]
  split <;> rfl

theorem recordPlacement_keysSound {a : Nat} {runs : List Run} {order : Nat} {target : Byte} {t : PeerTable} (h : KeysSound t) :
    KeysSound (recordPlacement a runs order target t) := by
  unfold recordPlacement
  split
  · refine h.of_sublist ?_ (List.Sublist.refl _)
    rw [takePlacements_addresses]
  · rename_i hentry
    rw [hasEntry_iff] at hentry
    split
    · refine ⟨h.entries, putSet_nodup h.row, fun b hb hset => ?_⟩
      obtain hset | rfl := mem_putSet hset
      · exact h.apart b hb hset
      · exact hentry hb
    · rename_i hset
      simp only [Bool.or_eq_true, not_or, hasSet_iff] at hset
      refine ⟨?_, h.row, fun b hb => ?_⟩
      · rw [List.map_append, List.nodup_append]
        refine ⟨h.entries, List.nodup_singleton _, fun x hx y hy => ?_⟩
        rw [List.map_singleton, List.mem_singleton] at hy
        exact fun e => hentry ((show x = a from e.trans hy) ▸ hx)
      · rw [List.map_append, List.mem_append, List.map_singleton, List.mem_singleton] at hb
        obtain hb | rfl := hb
        · exact h.apart b hb
        · exact hset.1

/-- A delivery gives a key to its own address alone. -/
theorem recordPlacement_mem {a b : Nat} {runs : List Run} {order : Nat} {target : Byte} {t : PeerTable} (hb : b ≠ a) :
    (b ∈ (recordPlacement a runs order target t).entries.map Entry.address → b ∈ t.entries.map Entry.address) ∧
      (b ∈ (recordPlacement a runs order target t).row.map RowSet.address → b ∈ t.row.map RowSet.address) := by
  unfold recordPlacement
  split
  · exact ⟨fun h => by rwa [takePlacements_addresses] at h, id⟩
  · split
    · exact ⟨id, fun h => (mem_putSet h).resolve_right hb⟩
    · refine ⟨fun h => ?_, id⟩
      rw [List.map_append, List.mem_append, List.map_singleton, List.mem_singleton] at h
      exact h.resolve_right hb

theorem filtered_addresses (a : Nat) (l : List Entry) :
    (l.filter fun x => decide (x.address ≠ a)).map Entry.address = (l.map Entry.address).filter fun x => decide (x ≠ a) := by
  simp [List.filter_map, Function.comp_def]

/-- A change of group takes the entry of its address away; the row takes that address at most. -/
theorem groupChange_cases (a : Nat) (t : PeerTable) :
    groupChange a t = t ∨ (a ∈ t.entries.map Entry.address ∧
      (groupChange a t).entries = t.entries.filter (fun x => decide (x.address ≠ a)) ∧
      ((groupChange a t).row = t.row ∨ ∃ runs order, (groupChange a t).row = putSet a runs order t.row)) := by
  unfold groupChange
  split
  · exact .inl rfl
  · rename_i e he
    have hmem := List.mem_of_find?_eq_some he
    have haddress : e.address = a := by simpa using List.find?_some he
    refine .inr ⟨haddress ▸ List.mem_map_of_mem hmem, rfl, ?_⟩
    simp only
    split
    · exact .inr ⟨_, _, rfl⟩
    · exact .inl rfl

theorem groupChange_keysSound {a : Nat} {t : PeerTable} (h : KeysSound t) : KeysSound (groupChange a t) := by
  obtain e | ⟨-, hentries, hrow⟩ := groupChange_cases a t
  · rwa [e]
  · have hsub : ((groupChange a t).entries.map Entry.address).Sublist (t.entries.map Entry.address) := by
      rw [hentries]
      exact List.filter_sublist.map _
    obtain hrow | ⟨runs, order, hrow⟩ := hrow
    · exact h.of_sublist hsub (by rw [hrow])
    · refine ⟨h.entries.sublist hsub, hrow ▸ putSet_nodup h.row, fun b hb hset => ?_⟩
      obtain hset | rfl := mem_putSet (hrow ▸ hset)
      · exact h.apart b (hsub.subset hb) hset
      · rw [hentries, filtered_addresses] at hb
        simpa using (List.mem_filter.mp hb).2

theorem groupChange_mem {a b : Nat} {t : PeerTable} :
    (b ∈ (groupChange a t).entries.map Entry.address → b ∈ t.entries.map Entry.address) ∧
      (b ∈ (groupChange a t).row.map RowSet.address → b ∈ t.row.map RowSet.address ∨ b ∈ t.entries.map Entry.address) := by
  obtain e | ⟨ha, hentries, hrow⟩ := groupChange_cases a t
  · rw [e]
    exact ⟨id, .inl⟩
  · refine ⟨fun hb => ?_, fun hb => ?_⟩
    · rw [hentries] at hb
      exact (List.filter_sublist.map _).subset hb
    · obtain hrow | ⟨runs, order, hrow⟩ := hrow
      · exact .inl (hrow ▸ hb)
      · exact (mem_putSet (hrow ▸ hb)).imp id fun (e : b = a) => e ▸ ha

/-! ### The Peer Table of a state -/

/-- The keys of a table, with none for an own address. -/
structure TableSound (own : Option Nat) (t : PeerTable) : Prop where
  keys : KeysSound t
  absent : ∀ a : Nat, own = some a → a ∉ t.entries.map Entry.address ∧ a ∉ t.row.map RowSet.address

theorem TableSound.of_sublist {own : Option Nat} {t u : PeerTable} (h : TableSound own t)
    (he : (u.entries.map Entry.address).Sublist (t.entries.map Entry.address))
    (hr : (u.row.map RowSet.address).Sublist (t.row.map RowSet.address)) : TableSound own u :=
  ⟨h.keys.of_sublist he hr, fun a ha => ⟨fun k => (h.absent a ha).1 (he.subset k), fun k => (h.absent a ha).2 (hr.subset k)⟩⟩

theorem TableSound.empty {own : Option Nat} {t : PeerTable} (he : t.entries = []) (hr : t.row = []) : TableSound own t := by
  refine ⟨⟨?_, ?_, ?_⟩, fun a _ => ?_⟩ <;> simp [he, hr]

/-- The own address of the settled fields. -/
def ownAddress (s : State) : Option Nat := s.loader.settled.map Settings.address

theorem peersSound_iff (s : State) :
    PeersSound s ↔ TableSound (ownAddress s) s.peers ∧
      (joinedState s.supervisor.station = false → s.peers.entries = [] ∧ s.peers.row = []) := by
  constructor
  · intro h
    refine ⟨⟨⟨h.entries, h.row, fun a ha hb => ?_⟩, fun a ha => ?_⟩, h.before⟩
    · have := h.apart a ((hasEntry_iff _ a).mpr ha)
      rw [(hasSet_iff _ a).mpr hb] at this
      exact absurd this Bool.noConfusion
    · obtain ⟨cfg, hcfg, rfl⟩ := Option.map_eq_some_iff.mp ha
      rw [← hasEntry_iff, ← hasSet_iff, Bool.not_eq_true, Bool.not_eq_true]
      exact h.ownAbsent cfg hcfg
  · rintro ⟨⟨⟨he, hr, hapart⟩, habsent⟩, hbefore⟩
    refine ⟨he, hr, fun a ha => ?_, fun cfg hcfg => ?_, hbefore⟩
    · rw [← Bool.not_eq_true, hasSet_iff]
      exact hapart a ((hasEntry_iff _ a).mp ha)
    · rw [← Bool.not_eq_true, ← Bool.not_eq_true, hasEntry_iff, hasSet_iff]
      exact habsent cfg.address (congrArg (Option.map Settings.address) hcfg)

/-- No key is added, the settled fields stand, and a station that acts still acts. -/
theorem PeersSound.of_sublist {s t : State} (hs : PeersSound s)
    (he : (t.peers.entries.map Entry.address).Sublist (s.peers.entries.map Entry.address))
    (hr : (t.peers.row.map RowSet.address).Sublist (s.peers.row.map RowSet.address)) (hl : t.loader = s.loader)
    (hj : joinedState s.supervisor.station = true → joinedState t.supervisor.station = true) : PeersSound t := by
  rw [peersSound_iff] at hs ⊢
  have hown : ownAddress t = ownAddress s := by rw [ownAddress, ownAddress, hl]
  refine ⟨hown ▸ hs.1.of_sublist he hr, fun hjt => ?_⟩
  have hjs : joinedState s.supervisor.station = false := by
    rw [← Bool.not_eq_true]
    exact fun k => absurd ((hj k).symm.trans hjt) Bool.noConfusion
  obtain ⟨hentries, hrow⟩ := hs.2 hjs
  rw [hentries] at he
  rw [hrow] at hr
  exact ⟨List.map_eq_nil_iff.mp (List.sublist_nil.mp he), List.map_eq_nil_iff.mp (List.sublist_nil.mp hr)⟩

theorem PeersSound.congr {s t : State} (hs : PeersSound s) (he : t.peers.entries = s.peers.entries) (hr : t.peers.row = s.peers.row)
    (hl : t.loader = s.loader) (hj : joinedState s.supervisor.station = true → joinedState t.supervisor.station = true) :
    PeersSound t := hs.of_sublist (by rw [he]) (by rw [hr]) hl hj

theorem peersSound_of_empty {s : State} (he : s.peers.entries = []) (hr : s.peers.row = []) : PeersSound s :=
  (peersSound_iff s).mpr ⟨.empty he hr, fun _ => ⟨he, hr⟩⟩

theorem LineKept.peersSound {s t : State} (h : LineKept s t) (hs : PeersSound s) : PeersSound t :=
  hs.congr h.entries h.row h.loader fun k => by rwa [h.station]

/-! ### Slot-boundary events (R105, R106) -/

theorem setStation_station (s : State) (x : StationState) : (setStation s x).supervisor.station = x := by
  unfold setStation
  split
  · assumption
  · rfl

theorem setStation_peers (s : State) (x : StationState) : (setStation s x).peers = s.peers := by
  unfold setStation
  split <;> rfl

theorem boundaryDecision_joined (cfg : Settings) (s : State) (h : joinedState s.supervisor.station = true) :
    joinedState (boundaryDecision cfg s).supervisor.station = true ∧ (boundaryDecision cfg s).peers = s.peers := by
  simp only [boundaryDecision, joinBoundary]
  split
  · exact ⟨h, rfl⟩
  · exact ⟨h, rfl⟩
  · split
    · exact ⟨by rw [setStation_station]; rfl, setStation_peers _ _⟩
    · exact ⟨h, rfl⟩
  · split
    · exact ⟨by rw [setStation_station]; rfl, setStation_peers _ _⟩
    · exact ⟨h, rfl⟩
  · split
    · exact ⟨congrArg joinedState (setStation_station _ _), setStation_peers s .running⟩
    · exact ⟨h, rfl⟩
  · split
    · exact ⟨h, rfl⟩
    · refine ⟨?_, setStation_peers _ _⟩
      rw [setStation_station]
      split <;> rfl

theorem boundaryDecision_notJoined (cfg : Settings) (s : State) (h : joinedState s.supervisor.station = false) :
    boundaryDecision cfg s = s := by
  obtain h | h := (joinedState_eq_false_iff _).mp h <;> simp only [boundaryDecision, h]

theorem stationBoundary_peersSound (cfg : Settings) {s : State} (hs : PeersSound s) : PeersSound (stationBoundary cfg s) := by
  have hdecision : PeersSound (boundaryDecision cfg s) := by
    by_cases h : joinedState s.supervisor.station = true
    · obtain ⟨hj, hp⟩ := boundaryDecision_joined cfg s h
      exact hs.congr (by rw [hp]) (by rw [hp]) (boundaryDecision_eventKept cfg s).loader fun _ => hj
    · rwa [boundaryDecision_notJoined cfg s (Bool.eq_false_of_not_eq_true h)]
  simp only [stationBoundary]
  split
  · exact hdecision.congr rfl rfl rfl id
  · exact hdecision

theorem agedEntries_addresses (now : Byte) (l : List Entry) : (l.map (ageEntry now)).map Entry.address = l.map Entry.address := by
  rw [List.map_map]
  rfl

theorem rolloverPeers_peersSound (cfg : Settings) (now : Cycle) {s : State} (hs : PeersSound s) :
    PeersSound (s.setPeers (rolloverPeers cfg now s.peers)) := by
  refine hs.of_sublist ?_ (List.nil_sublist _) rfl id
  exact (List.filter_sublist.map _).trans (by rw [agedEntries_addresses])

theorem peersSound_blocksClosed (cfg : Settings) : BlocksClosed cfg PeersSound where
  served _ _ h hs := h.lineKept.peersSound hs
  timeBase _ _ hs := hs.congr rfl rfl rfl id
  placement _ _ hs := hs.congr rfl rfl rfl id
  station _ _ := stationBoundary_peersSound cfg
  peers _ now := rolloverPeers_peersSound cfg now
  permits _ hs := hs.congr rfl rfl rfl id
  drive _ _ hs := hs.congr rfl rfl rfl id
  arm _ _ _ hs := hs.congr rfl rfl rfl id
  sources _ hs := hs.congr rfl rfl rfl id
  demands _ _ hs := hs.congr rfl rfl rfl id
  curtailment _ _ hs := hs.congr rfl rfl rfl id
  statusSent _ _ _ hs := hs.congr rfl rfl rfl id
  refusal _ hs := hs.congr rfl rfl rfl id

/-- MAINS_LOST is entered from RUNNING and HELD alone, and no other block is touched (R183). -/
theorem setMainsLost_joined (s : State) :
    (setMainsLost s).peers = s.peers ∧
      (joinedState s.supervisor.station = true → joinedState (setMainsLost s).supervisor.station = true) := by
  have henter : ∀ t : State, (enterMainsLost t).peers = t.peers ∧ joinedState (enterMainsLost t).supervisor.station = true := fun t =>
    ⟨setStation_peers (allGatesOff t) _, congrArg joinedState (setStation_station (allGatesOff t) .mainsLost)⟩
  unfold setMainsLost
  split
  case h_1 => exact ⟨rfl, id⟩
  case h_2 | h_3 => exact ⟨(henter _).1, fun _ => (henter _).2⟩
  all_goals exact ⟨rfl, id⟩

theorem peersSound_timingClosed : TimingClosed PeersSound where
  event cfg := (peersSound_blocksClosed cfg).eventClosed
  timeBase _ _ hs := hs.congr rfl rfl rfl id
  flowPin _ _ hs := hs.congr rfl rfl rfl id
  scanner _ _ hs := hs.congr rfl rfl rfl id
  report _ hs := hs.congr rfl rfl rfl id
  loss s hs := by
    obtain ⟨hp, hj⟩ := setMainsLost_joined s
    exact hs.congr (by rw [hp]) (by rw [hp]) (setMainsLost_stepKept s).loader hj

theorem TestKept.peersSound {s t : State} (h : TestKept s t) (hs : PeersSound s) : PeersSound t := by
  have hpeers : t.peers = s.peers := by rw [← h.rest]
  exact hs.congr (by rw [hpeers]) (by rw [hpeers]) h.stepKept.loader fun k => by rwa [h.station]

theorem sagReport_lineKept (cfg : Settings) (w : Window) (s : State) : LineKept s (sagReport cfg w s) := by
  unfold sagReport
  split
  · exact setPlacement_lineKept s (by rfl)
  · exact LineKept.refl s

theorem collapseReport_peersSound {s : State} (hs : PeersSound s) : PeersSound (collapseReport s) := by
  unfold collapseReport
  split
  · exact peersSound_timingClosed.loss s hs
  · exact hs

/-! ### The dispatcher (R99 to R103) -/

theorem deliverBoundaries_tableSound {own : Option Nat} (e : QueueEntry) {t : PeerTable} (h : TableSound own t) :
    TableSound own (deliverBoundaries e t) := by
  have hupdated : TableSound own (updateBoundaries e.routes.upstream e.routes.downstream (placePayload e.payload) t) :=
    h.of_sublist (List.Sublist.refl _) (List.Sublist.refl _)
  simp only [deliverBoundaries]
  split
  · exact hupdated
  · refine ⟨groupChange_keysSound hupdated.keys, fun a ha => ?_⟩
    obtain ⟨he, hr⟩ := hupdated.absent a ha
    exact ⟨fun k => he (groupChange_mem.1 k), fun k => (groupChange_mem.2 k).elim hr he⟩

theorem recordPlacement_tableSound {own : Option Nat} {a : Nat} {runs : List Run} {order : Nat} {target : Byte} {t : PeerTable}
    (h : TableSound own t) (ha : own ≠ some a) : TableSound own (recordPlacement a runs order target t) := by
  refine ⟨recordPlacement_keysSound h.keys, fun b hb => ?_⟩
  have hba : b ≠ a := fun e => ha (e ▸ hb)
  obtain ⟨he, hr⟩ := h.absent b hb
  exact ⟨fun k => he ((recordPlacement_mem hba).1 k), fun k => hr ((recordPlacement_mem hba).2 k)⟩

/-- A delivery leaves the table its keys; the own address takes none (R99). -/
theorem dispatchPlace_tableSound (cfg : Settings) (e : QueueEntry) (order : Nat) (target : Byte) {s : State}
    (h : TableSound (some cfg.address) s.peers) : TableSound (some cfg.address) (dispatchPlace cfg e order target s).peers := by
  have hbounds := deliverBoundaries_tableSound e h
  simp only [dispatchPlace]
  split
  · exact h
  · split
    · simp only [deliverPlacement]
      split
      · exact hbounds
      · rename_i hown
        have hkept := (yieldTest_served cfg (((s.setPeers (deliverBoundaries e s.peers)).setPeers
          (recordPlacement e.source (placePayload e.payload).runs order target (deliverBoundaries e s.peers))).setPlacement
            { s.placement with map := setPeer e.source (placePayload e.payload).runs order s.placement.map })).lineKept
        have hrecorded : TableSound (some cfg.address) (recordPlacement e.source (placePayload e.payload).runs order target
            (deliverBoundaries e s.peers)) :=
          recordPlacement_tableSound hbounds fun k => hown (Option.some.inj k).symm
        refine hrecorded.of_sublist ?_ ?_
        · exact (congrArg (List.map Entry.address) hkept.entries) ▸ List.Sublist.refl _
        · exact (congrArg (List.map RowSet.address) hkept.row) ▸ List.Sublist.refl _
    · exact hbounds

theorem dispatchHead_tableSound (cfg : Settings) {s : State} (h : TableSound (some cfg.address) s.peers) :
    TableSound (some cfg.address) (dispatchHead cfg s).peers := by
  unfold dispatchHead
  split
  · exact h
  · split
    · exact h
    · split
      · exact dispatchPlace_tableSound cfg _ _ _ h
      · exact h.of_sublist (List.Sublist.refl _) (List.Sublist.refl _)

/-! ### Every move -/

/-- A station that starts up has no peer yet, and start-up gives it none. -/
theorem Move.peersSound {c : Instr} {s t : State} (h : Move c s t) (hstart : ResetInStarting s) (hs : PeersSound s) : PeersSound t := by
  have hempty : s.supervisor.station = .starting → s.peers.entries = [] ∧ s.peers.row = [] := fun e => hs.before (by rw [e]; rfl)
  have hpeers : ∀ t : State, t.peers = s.peers → s.supervisor.station = .starting → PeersSound t := fun t ht e =>
    peersSound_of_empty (ht ▸ (hempty e).1) (ht ▸ (hempty e).2)
  have hline : ∀ s t : State, LineKept s t → PeersSound s → PeersSound t := fun _ _ h hs => h.peersSound hs
  have hflow := fun flow : Bool => (setFlowPin_lineKept s flow).peersSound hs
  cases h
  case idle => exact hs
  case reset => exact peersSound_of_empty rfl rfl
  case resetEnd h => exact hpeers _ (endReset_loaderKept s).peers (hstart h)
  case hold b =>
    obtain ⟨-, e⟩ | ⟨-, -, e⟩ | ⟨-, -, e⟩ := holdStep_cases b s
    all_goals
      rw [e]
      exact hs.congr rfl rfl rfl id
  case read bits h => exact hpeers _ (takeMisoBits_loaderKept bits s).peers (starting_of_startingUp h).2
  case loopSamples cfg line _ => exact (takeBits_lineKept (fun _ => setLink_lineKept s _) line).peersSound hs
  case endLoopback cfg r h =>
    exact hpeers _ (setStation_peers (s.setLink { s.link with loopResult := some r }) .listening) (starting_of_startingSettings h).2.1
  case crossing interval flow _ => exact acceptCrossing_keeps peersSound_timingClosed interval (hflow flow)
  case loss flow _ => exact declareLoss_keeps peersSound_timingClosed (hflow flow)
  case oscillator flow _ => exact mainsCycleEnd_keeps peersSound_timingClosed (hflow flow)
  case frame cfg rx line flow hactive _ =>
    have hcfg := (resetInProgress_of_active hactive).2.2
    have hP : ∀ s t : State, LineKept s t → (PeersSound s ∧ s.loader.settled = some cfg) → PeersSound t ∧ t.loader.settled = some cfg :=
      fun _ _ h hs => ⟨h.peersSound hs.1, (congrArg Loader.settled h.loader).trans hs.2⟩
    refine (takeBits_keeps hP (fun bits => receptionEnd_keeps hP (fun a p t ht => ?_) rx bits ⟨hflow flow, hcfg⟩) line).1
    exact ⟨takeTime_keeps (peersSound_timingClosed.event cfg) a p ht.2 ht.1,
      (congrArg Loader.settled (takeTime_stepKept cfg a p t).loader).trans ht.2⟩
  case complete cfg _ => exact (completeComputation_served cfg s).lineKept.peersSound hs
  case scan control limiter cfg _ =>
    unfold scanStep
    split
    · exact foldl_keeps (P := PeersSound) (fun t z ht => (tripTest_testKept cfg t z).peersSound ht) indexes (hs.congr rfl rfl rfl id)
    · exact hs
  case window currents voltage cfg _ =>
    unfold windowStep
    split
    · exact hs
    · refine collapseReport_peersSound (foldl_keeps (P := PeersSound) (fun t z ht => (heaterTests_testKept cfg t z).peersSound ht) indexes ?_)
      exact (sagReport_lineKept cfg _ _).peersSound (hs.congr rfl rfl rfl id)
  case tripClear cfg _ =>
    exact foldl_keeps (P := PeersSound) (fun t z ht => (clearZone_testKept cfg t z).peersSound ht) indexes hs
  case dispatch cfg hactive =>
    obtain ⟨-, hjoined, hcfg⟩ := resetInProgress_of_active hactive
    have hown : ownAddress s = some cfg.address := congrArg (Option.map Settings.address) hcfg
    refine (dispatchHead_lineKept cfg s).peersSound ((peersSound_iff _).mpr ⟨?_, fun k => absurd (hjoined.symm.trans k) Bool.noConfusion⟩)
    exact hown ▸ dispatchHead_tableSound cfg (hown ▸ ((peersSound_iff s).mp hs).1)
  case bits cfg line _ => exact (takeBits_lineKept (fun bits => sampleBits_lineKept bits s) line).peersSound hs
  case startBit => exact (startBit_lineKept s).peersSound hs
  case chance cfg recessive line _ => exact (chanceStep_lineKept cfg recessive line s).peersSound hs
  case attempt cfg a line _ _ => exact (takeBits_lineKept (fun bits => attemptBits_lineKept cfg bits a s) line).peersSound hs

end Sys2Proof.Machine

namespace Sys2Proof.Proofs.Peers
open Sys2Proof.Machine

/-- Settles O59: ageing and the rollover take keys away, a delivery adds a key where there was none, and a change of group moves one from
the entries to the row. -/
theorem stepKeepsThePeersSound : Obligations.StepKeepsThePeersSound := by
  intro s t hstart hs h
  exact step_keeps (P := fun s => ResetInStarting s ∧ PeersSound s)
    (fun _ _ hs => ⟨hs.1, hs.2.congr rfl rfl rfl id⟩)
    (fun _ _ _ hs h => ⟨hs.1.exec h, (move_of_exec h).peersSound hs.1 hs.2⟩) ⟨hstart, hs⟩ h

end Sys2Proof.Proofs.Peers

/-! PROOFS. Every step keeps temperatures, accumulators and demands in range (R23, R54, R62, R63, R204). -/

namespace Sys2Proof.Machine

/-! ### One channel (R22 to R26) -/

/-- The filtered temperature of a channel, where it has one, is within the range of the part. -/
def ChannelInRange (c : Channel) : Prop := ∀ t : Int, c.filtered = some t → inTemperatureRange t

theorem clampTemperature_inRange (t : Int) : inTemperatureRange (clampTemperature t) := by
  simp only [inTemperatureRange, clampTemperature, clampInt]
  omega

/-- A filter step lands between the filtered temperature and the sample. -/
theorem filterStep_inRange {t tf : Int} (k : Nat) (ht : inTemperatureRange t) (htf : inTemperatureRange tf) :
    inTemperatureRange (tf + (t - tf).tdiv (2 ^ k)) := by
  have hpos : (0 : Int) < 2 ^ k := by positivity
  have hle : ((t - tf).tdiv (2 ^ k)).natAbs ≤ (t - tf).natAbs := by
    rw [Int.natAbs_tdiv]
    exact Nat.div_le_self _ _
  obtain ⟨hlo, hhi⟩ := ht
  obtain ⟨hlo', hhi'⟩ := htf
  rcases le_or_gt 0 (t - tf) with h | h
  · have := Int.tdiv_nonneg h hpos.le
    constructor <;> omega
  · have := Int.tdiv_nonneg (show 0 ≤ -(t - tf) by omega) hpos.le
    rw [Int.neg_tdiv] at this
    constructor <;> omega

theorem channelInRange_of_none {c : Channel} (h : c.filtered = none) : ChannelInRange c := fun _ ht => nomatch h.symm.trans ht

theorem channelInRange_of_some {c : Channel} {t : Int} (h : c.filtered = some t) (ht : inTemperatureRange t) : ChannelInRange c :=
  fun _ hu => Option.some.inj (h.symm.trans hu) ▸ ht

theorem trackSample_inRange (cfg : Settings) {t : Int} {c : Channel} (ht : inTemperatureRange t) (hc : ChannelInRange c) :
    ChannelInRange (trackSample cfg t c) := by
  unfold trackSample
  split
  · exact hc
  · split
    · exact channelInRange_of_some rfl (filterStep_inRange _ ht (hc _ ‹_›))
    · split
      · exact channelInRange_of_none rfl
      · exact hc

theorem recoverSample_inRange (cfg : Settings) {t : Int} {c : Channel} (ht : inTemperatureRange t) (hc : ChannelInRange c) :
    ChannelInRange (recoverSample cfg t c) := by
  unfold recoverSample
  split
  · exact hc
  · split
    · exact channelInRange_of_some rfl ht
    · exact hc

/-- A sample in range brings a channel a temperature in range. -/
theorem channelStep_inRange (cfg : Settings) {x : Sample} {c : Channel} (hx : ∀ t : Int, x = .inRange t → inTemperatureRange t)
    (hc : ChannelInRange c) : ChannelInRange (channelStep cfg x c) := by
  unfold channelStep
  split
  · exact channelInRange_of_none rfl
  · exact channelInRange_of_none rfl
  · split
    · exact channelInRange_of_some rfl (hx _ rfl)
    · exact trackSample_inRange cfg (hx _ rfl) hc
    · exact recoverSample_inRange cfg (hx _ rfl) hc

theorem sampleOf_temperature {count : BitVec 16} {t : Int} (h : sampleOf count = .inRange t) : inTemperatureRange t := by
  simp only [sampleOf] at h
  split at h
  · exact nomatch h
  · split at h
    · exact nomatch h
    · exact Sample.inRange.inj h ▸ clampTemperature_inRange _

/-! ### One zone (R50 to R64) -/

/-- The temperature, the accumulator and the demands of a zone are in range. -/
structure ZoneInRange (x : Zone) : Prop where
  used : ∀ t : Int, x.tc = some t → inTemperatureRange t
  acc : x.acc ≤ 8192
  demand : x.demand ≤ 32
  lastDemand : x.lastDemand ≤ 32

theorem resetIn_inRange (c : Condition) : ZoneInRange (Zone.resetIn c) :=
  ⟨fun _ h => (nomatch h), Nat.zero_le _, Nat.zero_le _, Nat.zero_le _⟩

/-- The ranges of R202 that the zones rest on. -/
theorem stationFieldsInRange_used {cfg : Settings} (h : stationFieldsInRange cfg = true) :
    cfg.minRun ≤ 8 ∧ cfg.fallbackDemand ≤ 32 ∧ cfg.warmPreset ≤ 8192 := by
  simp only [stationFieldsInRange, Bool.and_eq_true, within, decide_eq_true_eq] at h
  omega

section Zone

variable {cfg : Settings} (hcfg : stationFieldsInRange cfg = true)

theorem demandOf_le (hcfg : stationFieldsInRange cfg = true) (e : Int) (kp acc : Nat) : demandOf cfg e kp acc ≤ 32 := by
  have hmin := (stationFieldsInRange_used hcfg).1
  have hclamped : ∀ x : Int, (clampInt 0 32 x).toNat ≤ 32 := fun x => by
    simp only [clampInt]
    omega
  unfold demandOf
  extract_lets d
  split_ifs
  · omega
  · omega
  · exact hclamped _

theorem stepAccumulator_le (delta : Int) (lastDemand : Nat) (curtailed : Bool) {acc : Nat} (h : acc ≤ 8192) :
    stepAccumulator delta lastDemand curtailed acc ≤ 8192 := by
  simp only [stepAccumulator, clampInt]
  split
  · exact h
  · omega

include hcfg

theorem regulate_inRange (b : Bank) (e : Int) {x : Zone} (hx : ZoneInRange x) : ZoneInRange (regulate cfg b e x) :=
  ⟨hx.used, stepAccumulator_le _ _ _ hx.acc, demandOf_le hcfg _ _ _, demandOf_le hcfg _ _ _⟩

theorem coldStartStep_inRange (b : Bank) (e : Int) {x : Zone} (hx : ZoneInRange x) : ZoneInRange (coldStartStep cfg b e x) := by
  unfold coldStartStep
  split
  · split
    · exact regulate_inRange hcfg b e ⟨hx.used, (stationFieldsInRange_used hcfg).2.2, hx.demand, hx.lastDemand⟩
    · exact ⟨hx.used, Nat.zero_le _, le_refl 32, le_refl 32⟩
  · exact hx

theorem normalDemand_inRange (b : Bank) (e : Int) {x : Zone} (hx : ZoneInRange x) : ZoneInRange (normalDemand cfg b e x) := by
  have hfallback := (stationFieldsInRange_used hcfg).2.1
  unfold normalDemand
  split
  · exact ⟨hx.used, hx.acc, hx.lastDemand, hx.lastDemand⟩
  · exact ⟨hx.used, hx.acc, hfallback, hfallback⟩
  · exact hx
  · split
    · exact coldStartStep_inRange hcfg b e hx
    · exact regulate_inRange hcfg b e hx
    · exact hx

theorem computeDemand_inRange (line : LineState) (z : Index) {x : Zone} (hx : ZoneInRange x) :
    ZoneInRange (computeDemand cfg line z x) := by
  have hdone : ∀ (y : Zone) (e : Int), ZoneInRange y → ZoneInRange { y with deficit := e, curtailed := false } := fun _ _ hy =>
    ⟨hy.used, hy.acc, hy.demand, hy.lastDemand⟩
  unfold computeDemand
  split
  · refine hdone _ _ ?_
    split
    · exact normalDemand_inRange hcfg _ _ hx
    · exact ⟨hx.used, hx.acc, Nat.zero_le _, Nat.zero_le _⟩
  · exact hx

theorem enterRunningZone_inRange {x : Zone} (hx : ZoneInRange x) : ZoneInRange (enterRunningZone cfg x) := by
  unfold enterRunningZone
  split
  · split
    · exact ⟨hx.used, Nat.zero_le _, hx.demand, hx.lastDemand⟩
    · exact ⟨hx.used, (stationFieldsInRange_used hcfg).2.2, hx.demand, hx.lastDemand⟩
  · exact hx

end Zone

theorem holdZone_inRange (cfg : Settings) {x : Zone} (hx : ZoneInRange x) : ZoneInRange (holdZone cfg x) := by
  have hnone : ∀ (source : Option Source) (n : Nat), ZoneInRange { x with tc := none, source := source, holdCount := n } := fun _ _ =>
    ⟨fun _ h => (nomatch h), hx.acc, hx.demand, hx.lastDemand⟩
  unfold holdZone
  split
  · split
    · exact hnone x.source _
    · exact hnone _ _
  · exact hnone x.source _
  · exact hnone _ _

theorem ownTemperature_inRange {cfg : Settings} {sc : Scanner} {z : Index} (hsc : ChannelInRange (sc.control.get z)) {t : Int}
    (h : ownTemperature cfg sc z = some t) : inTemperatureRange t := by
  simp only [ownTemperature] at h
  split at h
  · exact hsc t h
  · exact nomatch h

theorem selectSource_inRange (cfg : Settings) {sc : Scanner} (up down : BoundaryRecord) (z : Index) {x : Zone}
    (hsc : ChannelInRange (sc.control.get z)) (hx : ZoneInRange x) : ZoneInRange (selectSource cfg sc up down z x) := by
  unfold selectSource
  split
  · split
    · exact ⟨fun t ht => Option.some.inj ht ▸ ownTemperature_inRange hsc ‹_›, hx.acc, hx.demand, hx.lastDemand⟩
    · split
      · exact ⟨fun t ht => Option.some.inj ht ▸ clampTemperature_inRange _, hx.acc, hx.demand, hx.lastDemand⟩
      · exact holdZone_inRange cfg hx
  · exact hx

/-! ### All values -/

theorem valuesInRange_iff (s : State) :
    ValuesInRange s ↔ (∀ cfg : Settings, s.loader.settled = some cfg → stationFieldsInRange cfg = true) ∧
      (∀ z : Index, ChannelInRange (s.scanner.control.get z)) ∧ (∀ z : Index, ChannelInRange (s.scanner.limiter.get z)) ∧
      ∀ z : Index, ZoneInRange (s.zones.get z) :=
  ⟨fun h => ⟨h.settings, h.control, h.limiter, fun z => ⟨h.used z, h.acc z, h.demand z, h.lastDemand z⟩⟩,
    fun ⟨hset, hcontrol, hlimiter, hzones⟩ => ⟨hset, hcontrol, hlimiter, fun z => (hzones z).used, fun z => (hzones z).acc,
      fun z => (hzones z).demand, fun z => (hzones z).lastDemand⟩⟩

/-- Channels and settled fields that stand, and zones in range. -/
theorem ValuesInRange.of_zones {s t : State} (hs : ValuesInRange s) (hloader : t.loader.settled = s.loader.settled)
    (hcontrol : t.scanner.control = s.scanner.control) (hlimiter : t.scanner.limiter = s.scanner.limiter)
    (hzones : ∀ z : Index, ZoneInRange (t.zones.get z)) : ValuesInRange t := by
  rw [valuesInRange_iff] at hs ⊢
  rw [hloader, hcontrol, hlimiter]
  exact ⟨hs.1, hs.2.1, hs.2.2.1, hzones⟩

theorem ValuesInRange.zone {s : State} (hs : ValuesInRange s) (z : Index) : ZoneInRange (s.zones.get z) :=
  ((valuesInRange_iff s).mp hs).2.2.2 z

theorem ValuesInRange.congr {s t : State} (hs : ValuesInRange s) (hloader : t.loader.settled = s.loader.settled)
    (hcontrol : t.scanner.control = s.scanner.control) (hlimiter : t.scanner.limiter = s.scanner.limiter) (hzones : t.zones = s.zones) :
    ValuesInRange t := hs.of_zones hloader hcontrol hlimiter fun z => hzones ▸ hs.zone z

theorem LineKept.valuesInRange {s t : State} (h : LineKept s t) (hs : ValuesInRange s) : ValuesInRange t :=
  hs.congr (by rw [h.loader]) (by rw [h.scanner]) (by rw [h.scanner]) h.zones

/-- New records for all zones. -/
theorem ValuesInRange.setZones {s : State} (hs : ValuesInRange s) {f : Index → Zone} (hf : ∀ z : Index, ZoneInRange (f z)) :
    ValuesInRange (s.setZones (Six.ofFn f)) :=
  hs.of_zones rfl rfl rfl fun z => by rw [setZones_zones, Six.get_ofFn]; exact hf z

/-! ### Slot-boundary events -/

theorem boundaryDecision_zones (cfg : Settings) (s : State) : (boundaryDecision cfg s).zones = s.zones := by
  have hset : ∀ (u : State) (x : StationState), (setStation u x).zones = u.zones := fun u x => by
    unfold setStation
    split <;> rfl
  simp only [boundaryDecision, joinBoundary]
  split
  case h_1 | h_2 => rfl
  case h_3 =>
    split
    · exact hset _ _
    · rfl
  case h_4 =>
    split
    · exact hset _ _
    · rfl
  case h_5 =>
    split
    · exact hset s .running
    · rfl
  case h_6 =>
    split
    · rfl
    · exact hset _ _

theorem stationBoundary_valuesInRange {cfg : Settings} {s : State} (hcfg : s.loader.settled = some cfg) (hs : ValuesInRange s) :
    ValuesInRange (stationBoundary cfg s) := by
  have hkept := boundaryDecision_eventKept cfg s
  have hdecision : ValuesInRange (boundaryDecision cfg s) :=
    hs.congr (by rw [hkept.loader]) hkept.scanControl hkept.scanLimiter (boundaryDecision_zones cfg s)
  simp only [stationBoundary]
  split
  · refine hdecision.of_zones rfl rfl rfl fun z => ?_
    rw [passJoin, setZones_zones, Six.get_map]
    exact enterRunningZone_inRange (hs.settings cfg hcfg) (hdecision.zone z)
  · exact hdecision

theorem valuesInRange_blocksClosed (cfg : Settings) : BlocksClosed cfg ValuesInRange where
  served _ _ h hs := h.lineKept.valuesInRange hs
  timeBase _ _ hs := hs.congr rfl rfl rfl rfl
  placement _ _ hs := hs.congr rfl rfl rfl rfl
  station _ := stationBoundary_valuesInRange
  peers _ _ hs := hs.congr rfl rfl rfl rfl
  permits s hs := hs.setZones fun z => by
    have hz := hs.zone z
    split
    · exact ⟨hz.used, hz.acc, hz.demand, hz.lastDemand⟩
    · exact hz
  drive _ _ hs := hs.congr rfl rfl rfl rfl
  arm _ _ _ hs := hs.congr rfl rfl rfl rfl
  sources s hs := hs.setZones fun z => selectSource_inRange cfg _ _ z (hs.control z) (hs.zone z)
  demands s hcfg hs := hs.setZones fun z => computeDemand_inRange (hs.settings cfg hcfg) _ z (hs.zone z)
  curtailment _ s hs := hs.setZones fun z => by
    have hz := hs.zone z
    exact ⟨hz.used, hz.acc, hz.demand, hz.lastDemand⟩
  statusSent _ _ _ hs := hs.congr rfl rfl rfl rfl
  refusal _ hs := hs.congr rfl rfl rfl rfl

theorem setMainsLost_zones (s : State) : (setMainsLost s).zones = s.zones := by
  have henter : ∀ t : State, (enterMainsLost t).zones = t.zones := fun t => by
    simp only [enterMainsLost, setStation]
    split <;> rfl
  unfold setMainsLost
  split
  case h_2 | h_3 => exact henter _
  all_goals rfl

theorem valuesInRange_timingClosed : TimingClosed ValuesInRange where
  event cfg := (valuesInRange_blocksClosed cfg).eventClosed
  timeBase _ _ hs := hs.congr rfl rfl rfl rfl
  flowPin _ _ hs := hs.congr rfl rfl rfl rfl
  scanner _ _ hs := hs.congr rfl rfl rfl rfl
  report _ hs := hs.congr rfl rfl rfl rfl
  loss s hs := by
    have h := setMainsLost_stepKept s
    exact hs.congr (by rw [h.loader]) h.control h.limiter (setMainsLost_zones s)

/-! ### Scans, windows, releases -/

theorem setZone_valuesInRange {s : State} (hs : ValuesInRange s) (z : Index) {x : Zone} (hx : ZoneInRange x) :
    ValuesInRange (s.setZone z x) := by
  refine hs.of_zones rfl rfl rfl fun y => ?_
  rw [State.setZone, setZones_zones, Six.get_set]
  split
  · exact hx
  · exact hs.zone y

theorem leaveNormal_valuesInRange {s : State} (hs : ValuesInRange s) (z : Index) {x : Zone} (hx : ZoneInRange x) :
    ValuesInRange (leaveNormal s z x) := by
  have hpermit : ZoneInRange { x with permit := false } := ⟨hx.used, hx.acc, hx.demand, hx.lastDemand⟩
  exact (setZone_valuesInRange hs z hpermit).congr rfl rfl rfl rfl

/-- A record with the temperature, the accumulator and the demands of its zone is in range. -/
theorem ValuesInRange.sameValues {s : State} (hs : ValuesInRange s) {z : Index} {x : Zone} (htc : x.tc = (s.zones.get z).tc)
    (hacc : x.acc = (s.zones.get z).acc) (hdemand : x.demand = (s.zones.get z).demand)
    (hlast : x.lastDemand = (s.zones.get z).lastDemand) : ZoneInRange x := by
  have hz := hs.zone z
  exact ⟨htc ▸ hz.used, hacc ▸ hz.acc, hdemand ▸ hz.demand, hlast ▸ hz.lastDemand⟩

theorem tripTest_valuesInRange (cfg : Settings) {s : State} (hs : ValuesInRange s) (z : Index) : ValuesInRange (tripTest cfg s z) := by
  have htripped : ∀ x : Zone, x.tc = (s.zones.get z).tc → x.acc = (s.zones.get z).acc → x.demand = (s.zones.get z).demand →
      x.lastDemand = (s.zones.get z).lastDemand → ValuesInRange (leaveNormal s z x) := fun x h1 h2 h3 h4 =>
    leaveNormal_valuesInRange hs z (hs.sameValues h1 h2 h3 h4)
  unfold tripTest
  split
  · simp only [tripZone]
    split
    · exact (htripped _ (by rfl) (by rfl) (by rfl) (by rfl)).congr rfl rfl rfl rfl
    · exact htripped _ rfl rfl rfl rfl
  · exact hs

theorem openTest_valuesInRange (cfg : Settings) {s : State} (hs : ValuesInRange s) (z : Index) : ValuesInRange (openTest cfg s z) := by
  have hset : ∀ n : Nat, ValuesInRange (s.setZone z { s.zones.get z with openCount := n }) := fun n =>
    setZone_valuesInRange hs z (hs.sameValues rfl rfl rfl rfl)
  simp only [openTest]
  split
  · split
    · split
      · split
        · exact leaveNormal_valuesInRange hs z (hs.sameValues rfl rfl rfl rfl)
        · exact hset _
      · exact hset _
    · exact hs
  · exact hs

theorem stuckTest_valuesInRange (cfg : Settings) {s : State} (hs : ValuesInRange s) (z : Index) : ValuesInRange (stuckTest cfg s z) := by
  have hset : ∀ (n : Nat) (b : Bool), ValuesInRange (s.setZone z { s.zones.get z with stuckCount := n, followsRun := b }) := fun n b =>
    setZone_valuesInRange hs z (hs.sameValues rfl rfl rfl rfl)
  have hfinding : ValuesInRange (stuckFinding s z) := by
    simp only [stuckFinding]
    split
    · exact (hset 0 (s.zones.get z).followsRun).congr rfl rfl rfl rfl
    · exact leaveNormal_valuesInRange hs z (hs.sameValues rfl rfl rfl rfl)
  simp only [stuckTest]
  split
  · split
    · split
      · exact hset (s.zones.get z).stuckCount false
      · split
        · split
          · exact hfinding
          · exact hset _ (s.zones.get z).followsRun
        · exact hset 0 (s.zones.get z).followsRun
    · exact hset 0 true
    · exact hs
  · exact hs

theorem clearZone_valuesInRange (cfg : Settings) {s : State} (hs : ValuesInRange s) (z : Index) : ValuesInRange (clearZone cfg s z) := by
  unfold clearZone
  split
  · have hz := hs.zone z
    have hreleased : ZoneInRange (releasedZone cfg s.supervisor.station (s.zones.get z)) :=
      ⟨hz.used, Nat.zero_le _, hz.demand, hz.lastDemand⟩
    exact (setZone_valuesInRange hs z hreleased).congr rfl rfl rfl rfl
  · exact hs

theorem scanStep_valuesInRange (cfg : Settings) (control limiter : Six (BitVec 16)) {s : State} (hs : ValuesInRange s) :
    ValuesInRange (scanStep cfg control limiter s) := by
  unfold scanStep
  split
  · refine foldl_keeps (P := ValuesInRange) (fun t z ht => tripTest_valuesInRange cfg ht z) indexes ?_
    refine (valuesInRange_iff _).mpr ⟨hs.settings, fun z => ?_, fun z => ?_, hs.zone⟩
    all_goals
      rw [setScanner_scanner, applyScan, Six.get_ofFn]
      refine channelStep_inRange cfg (fun t ht => sampleOf_temperature ht) ?_
    · exact hs.control z
    · exact hs.limiter z
  · exact hs

theorem windowStep_valuesInRange (cfg : Settings) (currents : Six Nat) (voltage : Nat) {s : State} (hs : ValuesInRange s) :
    ValuesInRange (windowStep cfg currents voltage s) := by
  unfold windowStep
  split
  · exact hs
  · rename_i w _
    have hrecords : ValuesInRange (s.setScanner (applyWindow cfg w currents voltage s.scanner)) :=
      hs.congr rfl (takeWindow_channels s.scanner).1 (takeWindow_channels s.scanner).2 rfl
    have htests := foldl_keeps (P := ValuesInRange) (f := heaterTests cfg)
      (fun t z ht => stuckTest_valuesInRange cfg (openTest_valuesInRange cfg ht z) z) indexes
      ((sagReport_lineKept cfg w _).valuesInRange hrecords)
    unfold collapseReport
    split
    · exact valuesInRange_timingClosed.loss _ htests
    · exact htests

/-! ### The image (R201 to R204) -/

theorem settleZone_inRange (enabled : Bool) {x : Zone} (hx : ZoneInRange x) : ZoneInRange (settleZone enabled x) := by
  unfold settleZone
  split
  · split
    · exact resetIn_inRange _
    · exact hx
  · exact resetIn_inRange _

/-- An image is settled only when its fields passed validation. -/
theorem validate_valuesInRange (b : Bool) {s : State} (hs : ValuesInRange s) : ValuesInRange (validate b s) := by
  unfold validate
  split
  case isTrue h =>
    have hgood : stationFieldsInRange (settingsOf s.loader.retained) = true := by
      have hfields := (Bool.and_eq_true_iff.mp h).2
      simp only [imageFieldsGood, Bool.and_eq_true] at hfields
      exact hfields.1.1.2
    refine (valuesInRange_iff _).mpr ⟨fun cfg hcfg => ?_, hs.control, hs.limiter, fun z => ?_⟩
    · exact Option.some.inj hcfg ▸ hgood
    · rw [settleImage, setLink_zones, setZones_zones, Six.get_ofFn]
      exact settleZone_inRange _ (hs.zone z)
  case isFalse =>
    unfold badImage setStation
    split <;> exact hs.congr rfl rfl rfl rfl

theorem spiClocks_settled (bits : List Bool) (l : Loader) : (bits.foldl spiClock l).settled = l.settled := by
  induction bits generalizing l with
  | nil => rfl
  | cons b bits ih => exact (ih _).trans (spiClock_settled l b)

theorem takeMisoBits_valuesInRange (bits : List Bool) {s : State} (hs : ValuesInRange s) : ValuesInRange (takeMisoBits bits s) := by
  have hread : ValuesInRange (s.setLoader (bits.foldl spiClock s.loader)) := hs.congr (spiClocks_settled bits _) rfl rfl rfl
  simp only [takeMisoBits]
  split
  · exact validate_valuesInRange _ hread
  · exact hread

theorem endReset_valuesInRange {s : State} (hs : ValuesInRange s) : ValuesInRange (endReset s) := by
  have hread : ∀ u : State, ValuesInRange u → ValuesInRange (beginRead u) := fun u hu => hu.congr rfl rfl rfl rfl
  have hcleared : ValuesInRange ((s.setSupervisor { s.supervisor with cause := causeOf s.resets }).setResets ResetKinds.clear) :=
    hs.congr rfl rfl rfl rfl
  unfold endReset obtainImage
  split
  · exact hread _ hcleared
  · unfold reverify
    split
    · exact validate_valuesInRange _ (hcleared.congr rfl rfl rfl rfl)
    · exact hread _ hcleared

/-! ### Every move -/

theorem endLoopback_zones (cfg : Settings) (r : LoopbackResult) (s : State) : (endLoopback cfg r s).zones = s.zones := by
  simp only [endLoopback, enterListening, setStation]
  split <;> rfl

theorem StepKept.valuesInRange {s t : State} (h : StepKept s t) (hs : ValuesInRange s) (hzones : t.zones = s.zones) : ValuesInRange t :=
  hs.congr (by rw [h.loader]) h.control h.limiter hzones

theorem Move.valuesInRange {c : Instr} {s t : State} (h : Move c s t) (hs : ValuesInRange s) : ValuesInRange t := by
  have hflow := fun flow : Bool => (setFlowPin_lineKept s flow).valuesInRange hs
  cases h
  case idle => exact hs
  case reset k disturbed _ _ =>
    refine (valuesInRange_iff _).mpr ⟨fun _ h => (nomatch h), fun z => ?_, fun z => ?_, fun z => ?_⟩
    · exact channelInRange_of_none (congrArg Channel.filtered (Six.get_fill Channel.reset z))
    · exact channelInRange_of_none (congrArg Channel.filtered (Six.get_fill Channel.reset z))
    · simp only [beginReset, Six.get_map]
      exact resetIn_inRange _
  case resetEnd => exact endReset_valuesInRange hs
  case hold b =>
    obtain ⟨-, e⟩ | ⟨-, -, e⟩ | ⟨-, -, e⟩ := holdStep_cases b s
    all_goals
      rw [e]
      exact hs.congr rfl rfl rfl rfl
  case read bits _ => exact takeMisoBits_valuesInRange bits hs
  case loopSamples cfg line _ => exact (takeBits_lineKept (fun _ => setLink_lineKept s _) line).valuesInRange hs
  case endLoopback cfg r _ => exact (endLoopback_stepKept cfg r s).valuesInRange hs (endLoopback_zones cfg r s)
  case crossing interval flow _ => exact acceptCrossing_keeps valuesInRange_timingClosed interval (hflow flow)
  case loss flow _ => exact declareLoss_keeps valuesInRange_timingClosed (hflow flow)
  case oscillator flow _ => exact mainsCycleEnd_keeps valuesInRange_timingClosed (hflow flow)
  case frame cfg rx line flow hactive _ =>
    have hcfg := (resetInProgress_of_active hactive).2.2
    have hP : ∀ s t : State, LineKept s t → (ValuesInRange s ∧ s.loader.settled = some cfg) →
        ValuesInRange t ∧ t.loader.settled = some cfg :=
      fun _ _ h hs => ⟨h.valuesInRange hs.1, (congrArg Loader.settled h.loader).trans hs.2⟩
    refine (takeBits_keeps hP (fun bits => receptionEnd_keeps hP (fun a p t ht => ?_) rx bits ⟨hflow flow, hcfg⟩) line).1
    exact ⟨takeTime_keeps (valuesInRange_timingClosed.event cfg) a p ht.2 ht.1,
      (congrArg Loader.settled (takeTime_stepKept cfg a p t).loader).trans ht.2⟩
  case complete cfg _ => exact (completeComputation_served cfg s).lineKept.valuesInRange hs
  case scan control limiter cfg _ => exact scanStep_valuesInRange cfg control limiter hs
  case window currents voltage cfg _ => exact windowStep_valuesInRange cfg currents voltage hs
  case tripClear cfg _ => exact foldl_keeps (P := ValuesInRange) (fun t z ht => clearZone_valuesInRange cfg ht z) indexes hs
  case dispatch cfg _ => exact (dispatchHead_lineKept cfg s).valuesInRange (hs.congr rfl rfl rfl rfl)
  case bits cfg line _ => exact (takeBits_lineKept (fun bits => sampleBits_lineKept bits s) line).valuesInRange hs
  case startBit => exact (startBit_lineKept s).valuesInRange hs
  case chance cfg recessive line _ => exact (chanceStep_lineKept cfg recessive line s).valuesInRange hs
  case attempt cfg a line _ _ => exact (takeBits_lineKept (fun bits => attemptBits_lineKept cfg bits a s) line).valuesInRange hs

end Sys2Proof.Machine

namespace Sys2Proof.Proofs.Values
open Sys2Proof.Machine

/-- Settles O58: a channel moves between samples in range, a demand point clamps what it computes, and only a validated image is settled. -/
theorem stepKeepsTheValuesInRange : Obligations.StepKeepsTheValuesInRange := by
  intro s t hs h
  exact step_keeps (fun _ _ hs => hs.congr rfl rfl rfl rfl) (fun _ _ _ hs h => (move_of_exec h).valuesInRange hs) hs h

end Sys2Proof.Proofs.Values

/-! PROOFS. Every step keeps the line driver safe (R141, R148, R149). -/

namespace Sys2Proof.Machine

/-! ### The driver's safety at the link -/

/-- The line driver's safety at the link alone, for a station that has ended the join or not. -/
structure LinkSafe (settled : Bool) (l : Link) : Prop where
  sends : l.attempt.isSome = true → linkSends l.state = true ∧ inFrame l = true ∧ l.reception = none
  rejects : ∀ left : Nat, l.tracking = .rejecting left →
    l.state = .active ∧ l.attempt = none ∧ l.reception = none ∧ 1 ≤ left ∧ left ≤ 7
  joining : settled = false → l.state = .listenOnly

theorem driverSafe_iff (s : State) : DriverSafe s ↔ LinkSafe (settledState s.supervisor.station) s.link :=
  ⟨fun h => ⟨h.sends, h.rejects, h.joining⟩, fun h => ⟨h.sends, h.rejects, h.joining⟩⟩

/-- Neither an attempt nor a reject burst is on the line. -/
structure Calm (l : Link) : Prop where
  attempt : l.attempt = none
  tracking : ∀ left : Nat, l.tracking ≠ .rejecting left

theorem Calm.linkSafe {b : Bool} {l : Link} (h : Calm l) (hjoin : b = false → l.state = .listenOnly) : LinkSafe b l where
  sends k := by rw [h.attempt] at k; exact absurd k Bool.false_ne_true
  rejects left k := absurd k (h.tracking left)
  joining := hjoin

theorem linkSafe_congr {b : Bool} {l m : Link} (h : LinkSafe b l) (hstate : m.state = l.state) (htracking : m.tracking = l.tracking)
    (hattempt : m.attempt = l.attempt) (hreception : m.reception = l.reception) : LinkSafe b m where
  sends := by simpa only [inFrame, hstate, htracking, hattempt, hreception] using h.sends
  rejects := by simpa only [hstate, htracking, hattempt, hreception] using h.rejects
  joining := by simpa only [hstate] using h.joining

/-- A link that sends, or is in a link state of its own, has the join behind it. -/
theorem LinkSafe.settled {b : Bool} {l : Link} (h : LinkSafe b l) (hstate : l.state ≠ .listenOnly) : b = true :=
  Bool.eq_true_of_not_eq_false fun e => hstate (h.joining e)

/-- A station that is receiving neither sends nor rejects. -/
theorem LinkSafe.calm_of_reception {b : Bool} {l : Link} {rx : Reception} (h : LinkSafe b l) (hrx : l.reception = some rx) : Calm l where
  attempt := by
    refine Option.not_isSome_iff_eq_none.mp fun k => ?_
    exact nomatch hrx.symm.trans (h.sends k).2.2
  tracking left k := nomatch hrx.symm.trans (h.rejects left k).2.2.1

/-- Out of a frame a station neither sends nor rejects. -/
theorem LinkSafe.calm_of_outside {b : Bool} {l : Link} (h : LinkSafe b l) (hout : inFrame l = false) : Calm l where
  attempt := by
    refine Option.not_isSome_iff_eq_none.mp fun k => ?_
    exact absurd (hout.symm.trans (h.sends k).2.1) Bool.noConfusion
  tracking left k := by
    rw [inFrame, k] at hout
    exact nomatch hout

/-- A station that cannot send neither sends nor rejects. -/
theorem LinkSafe.calm_of_silent {b : Bool} {l : Link} (h : LinkSafe b l) (hsilent : linkSends l.state = false) : Calm l where
  attempt := by
    refine Option.not_isSome_iff_eq_none.mp fun k => ?_
    exact absurd (hsilent.symm.trans (h.sends k).1) Bool.noConfusion
  tracking left k := by
    rw [(h.rejects left k).1] at hsilent
    exact nomatch hsilent

/-! ### Bits that no other operation takes (R135, R152) -/

theorem quietBit_linkSafe {b : Bool} {l : Link} (h : LinkSafe b l) (x : Bool) : LinkSafe b (quietBit l x) := by
  by_cases hd : l.state = .detached
  case neg => rwa [quietBit_of_not_detached l x hd]
  case pos =>
    have hcalm := h.calm_of_silent (by rw [hd]; rfl)
    have hb : b = true := h.settled (by rw [hd]; exact LinkState.noConfusion)
    have hstill : ∀ m : Link, m.attempt = l.attempt → m.tracking = l.tracking → LinkSafe b m := fun m ha ht =>
      Calm.linkSafe ⟨ha.trans hcalm.attempt, fun left => ht ▸ hcalm.tracking left⟩ fun e => absurd (hb.symm.trans e) Bool.noConfusion
    rw [quietBit, if_pos hd]
    split_ifs
    all_goals exact hstill _ rfl rfl

theorem quietBits_linkSafe {b : Bool} (bits : List Bool) {l : Link} (h : LinkSafe b l) : LinkSafe b (bits.foldl quietBit l) := by
  induction bits generalizing l with
  | nil => exact h
  | cons x bits ih => exact ih (quietBit_linkSafe h x)

theorem trackBit_driverSafe {s : State} (h : DriverSafe s) (x : Bool) : DriverSafe (trackBit s x) := by
  have hl := (driverSafe_iff s).mp h
  unfold trackBit
  split
  case h_1 run ht =>
    have hcalm := hl.calm_of_outside (by rw [inFrame, ht])
    have hwait : ∀ k : Tracking, (∀ left, k ≠ .rejecting left) → DriverSafe (s.setLink { s.link with tracking := k }) := fun k hk =>
      (driverSafe_iff _).mpr (Calm.linkSafe ⟨hcalm.attempt, hk⟩ hl.joining)
    split_ifs
    · exact hwait _ fun _ => Tracking.noConfusion
    · exact hwait _ fun _ => Tracking.noConfusion
    · exact hwait _ fun _ => Tracking.noConfusion
  case h_2 count ht =>
    have hcalm := hl.calm_of_outside (by rw [inFrame, ht])
    split_ifs
    · exact (driverSafe_iff _).mpr (Calm.linkSafe ⟨hcalm.attempt, fun _ => Tracking.noConfusion⟩ hl.joining)
    · exact (driverSafe_iff _).mpr (Calm.linkSafe ⟨hcalm.attempt, fun _ => Tracking.noConfusion⟩ hl.joining)
  case h_3 position ht =>
    split
    · exact h
    · rename_i rx hrx
      have hcalm := hl.calm_of_reception hrx
      exact (driverSafe_iff _).mpr (Calm.linkSafe ⟨hcalm.attempt, fun _ => Tracking.noConfusion⟩ hl.joining)
  case h_4 left ht =>
    obtain ⟨hactive, hattempt, hreception, hlo, hhi⟩ := hl.rejects left ht
    refine (driverSafe_iff _).mpr ⟨fun k => ?_, fun n hn => ?_, hl.joining⟩
    · exact absurd (hattempt ▸ k : (none : Option Attempt).isSome = true) Bool.false_ne_true
    · simp only [setLink_link] at hn
      split at hn
      · exact nomatch hn
      · obtain rfl := Tracking.rejecting.inj hn
        exact ⟨hactive, hattempt, hreception, by omega, by omega⟩

theorem sampleBits_driverSafe (bits : List Bool) {s : State} (h : DriverSafe s) : DriverSafe (sampleBits bits s) := by
  have hbit : ∀ (t : State) (x : Bool), DriverSafe t → DriverSafe (sampleBit t x) := fun t x ht => by
    have htrack := trackBit_driverSafe ht x
    unfold sampleBit
    split
    · exact htrack
    · exact (driverSafe_iff _).mpr (quietBits_linkSafe [x] ((driverSafe_iff _).mp htrack))
  induction bits generalizing s with
  | nil => exact h
  | cons x bits ih => exact ih (hbit s x h)

/-! ### Slot-boundary events (R149) -/

theorem DriverSafe.congr {s t : State} (h : DriverSafe s) (hlink : t.link = s.link)
    (hsettled : settledState t.supervisor.station = settledState s.supervisor.station) : DriverSafe t :=
  (driverSafe_iff t).mpr (by rw [hlink, hsettled]; exact (driverSafe_iff s).mp h)

theorem DriverSafe.of_link {s t : State} (h : DriverSafe s) (hstation : t.supervisor.station = s.supervisor.station)
    (hstate : t.link.state = s.link.state) (htracking : t.link.tracking = s.link.tracking) (hattempt : t.link.attempt = s.link.attempt)
    (hreception : t.link.reception = s.link.reception) : DriverSafe t :=
  (driverSafe_iff t).mpr (hstation ▸ linkSafe_congr ((driverSafe_iff s).mp h) hstate htracking hattempt hreception)

theorem setTimeBase_driverSafe {s : State} (h : DriverSafe s) (t : TimeBase) : DriverSafe (s.setTimeBase t) := h.congr rfl rfl

theorem Served.driverSafe {s t : State} (h : Served s t) (hs : DriverSafe s) : DriverSafe t := by
  exact hs.of_link h.supStation h.linkState h.linkTracking h.linkAttempt h.linkReception

/-- Before the end of the join the link state is LISTEN_ONLY, so that nothing is on the line, whatever the station state becomes. -/
theorem driverSafe_of_listenOnly {s t : State} (hs : DriverSafe s) (hlisten : s.link.state = .listenOnly)
    (hattempt : t.link.attempt = s.link.attempt) (htracking : t.link.tracking = s.link.tracking)
    (hjoin : settledState t.supervisor.station = false → t.link.state = .listenOnly) : DriverSafe t := by
  have hcalm := ((driverSafe_iff s).mp hs).calm_of_silent (by rw [hlisten]; rfl)
  exact (driverSafe_iff t).mpr (Calm.linkSafe ⟨hattempt.trans hcalm.attempt, fun left => htracking ▸ hcalm.tracking left⟩ hjoin)

theorem setStation_link (s : State) (x : StationState) : (setStation s x).link = s.link := by
  unfold setStation
  split <;> rfl

theorem boundaryDecision_link (cfg : Settings) (s : State) : (boundaryDecision cfg s).link = s.link := by
  simp only [boundaryDecision, joinBoundary]
  split
  case h_1 | h_2 => rfl
  case h_3 =>
    split
    · exact setStation_link _ _
    · rfl
  case h_4 =>
    split
    · exact setStation_link _ _
    · rfl
  case h_5 =>
    split
    · exact setStation_link s .running
    · rfl
  case h_6 =>
    split
    · rfl
    · exact setStation_link _ _

/-- A station past the join stays past it at a cycle boundary. -/
theorem boundaryDecision_settled (cfg : Settings) {s : State} (h : settledState s.supervisor.station = true) :
    settledState (boundaryDecision cfg s).supervisor.station = true := by
  simp only [boundaryDecision]
  split
  case h_1 e | h_2 e | h_3 e => rw [e] at h; exact nomatch h
  case h_4 =>
    split
    · rw [setStation_station]; rfl
    · exact h
  case h_5 =>
    split
    · exact congrArg settledState (setStation_station s .running)
    · exact h
  case h_6 =>
    split
    · exact h
    · rw [setStation_station]; split <;> rfl

theorem boundaryDecision_listening (cfg : Settings) {s : State} (h : s.supervisor.station = .listening) :
    (boundaryDecision cfg s).supervisor.station = .listening ∨ (boundaryDecision cfg s).supervisor.station = .running := by
  simp only [boundaryDecision, h, joinBoundary]
  split
  · exact .inr (setStation_station _ _)
  · exact .inl rfl

theorem stationBoundary_driverSafe (cfg : Settings) {s : State} (hs : DriverSafe s) : DriverSafe (stationBoundary cfg s) := by
  have hlink := boundaryDecision_link cfg s
  by_cases hlistening : s.supervisor.station = .listening
  case pos =>
    have hlisten : s.link.state = .listenOnly := hs.joining (by rw [hlistening]; rfl)
    obtain hstay | hrun := boundaryDecision_listening cfg hlistening
    · rw [stationBoundary, if_neg (fun k => by rw [hstay] at k; exact nomatch k.2)]
      exact hs.congr hlink (by rw [hstay, hlistening])
    · rw [stationBoundary, if_pos ⟨hlistening, hrun⟩]
      have hdecided : ∀ l : Link, (decideLink l).attempt = l.attempt ∧ (decideLink l).tracking = l.tracking := fun l => by
        unfold decideLink
        split <;> exact ⟨rfl, rfl⟩
      refine driverSafe_of_listenOnly hs hlisten ((hdecided _).1.trans (by rw [hlink])) ((hdecided _).2.trans (by rw [hlink])) fun k => ?_
      have hrun' : (passJoin cfg (boundaryDecision cfg s)).supervisor.station = .running := hrun
      rw [hrun'] at k
      exact nomatch k
  case neg =>
    rw [stationBoundary, if_neg (fun k => hlistening k.1)]
    refine hs.congr hlink ?_
    by_cases hsettled : settledState s.supervisor.station = true
    · rw [boundaryDecision_settled cfg hsettled, hsettled]
    · have hjoined : joinedState s.supervisor.station = false := by
        revert hlistening hsettled
        cases s.supervisor.station <;> decide
      rw [boundaryDecision_notJoined cfg s hjoined]

theorem driverSafe_blocksClosed (cfg : Settings) : BlocksClosed cfg DriverSafe where
  served _ _ h hs := h.driverSafe hs
  timeBase _ _ hs := hs.congr rfl rfl
  placement _ _ hs := hs.congr rfl rfl
  station _ _ := stationBoundary_driverSafe cfg
  peers _ _ hs := hs.congr rfl rfl
  permits _ hs := hs.congr rfl rfl
  drive _ _ hs := hs.congr rfl rfl
  arm _ _ _ hs := hs.congr rfl rfl
  sources _ hs := hs.congr rfl rfl
  demands _ _ hs := hs.congr rfl rfl
  curtailment _ _ hs := hs.congr rfl rfl
  statusSent _ _ _ hs := hs.congr rfl rfl
  refusal _ hs := hs.congr rfl rfl

theorem setMainsLost_link (s : State) :
    (setMainsLost s).link = s.link ∧ settledState (setMainsLost s).supervisor.station = settledState s.supervisor.station := by
  have henter : ∀ t : State, (enterMainsLost t).link = t.link ∧ settledState (enterMainsLost t).supervisor.station = true := fun t =>
    ⟨setStation_link (allGatesOff t) _, congrArg settledState (setStation_station (allGatesOff t) .mainsLost)⟩
  unfold setMainsLost
  split
  case h_1 => exact ⟨rfl, rfl⟩
  case h_2 h | h_3 h => rw [h]; exact henter _
  all_goals exact ⟨rfl, rfl⟩

theorem driverSafe_timingClosed : TimingClosed DriverSafe where
  event cfg := (driverSafe_blocksClosed cfg).eventClosed
  timeBase _ _ hs := hs.congr rfl rfl
  flowPin _ _ hs := hs.congr rfl rfl
  scanner _ _ hs := hs.congr rfl rfl
  report _ hs := hs.congr rfl rfl
  loss s hs := hs.congr (setMainsLost_link s).1 (setMainsLost_link s).2

theorem TestKept.driverSafe {s t : State} (h : TestKept s t) (hs : DriverSafe s) : DriverSafe t :=
  hs.congr (by rw [← h.rest]) (by rw [h.station])

/-! ### Receiving (R140 to R143) -/

/-- An evaluation of the link state leaves LISTEN_ONLY as it is, and the engines as they stand. -/
theorem evalLink_kept (l : Link) : (evalLink l).attempt = l.attempt ∧ (evalLink l).tracking = l.tracking ∧
    (evalLink l).reception = l.reception ∧ (l.state = .listenOnly → (evalLink l).state = .listenOnly) := by
  unfold evalLink
  split
  · rename_i h
    have hne : l.state ≠ .listenOnly := fun e => by rw [e] at h; exact nomatch h
    split_ifs <;> exact ⟨rfl, rfl, rfl, fun e => absurd e hne⟩
  · exact ⟨rfl, rfl, rfl, id⟩

theorem Calm.evalLink {l : Link} (h : Calm l) : Calm (evalLink l) where
  attempt := (evalLink_kept l).1.trans h.attempt
  tracking left := (evalLink_kept l).2.1 ▸ h.tracking left

theorem recUp_calm {l : Link} (h : Calm l) : Calm (recUp l) ∧ (l.state = .listenOnly → (recUp l).state = .listenOnly) := by
  unfold recUp
  split
  · exact ⟨Calm.evalLink ⟨h.attempt, h.tracking⟩, fun e => (evalLink_kept _).2.2.2 e⟩
  · exact ⟨h.evalLink, fun e => (evalLink_kept l).2.2.2 e⟩

theorem recDown_calm {l : Link} (h : Calm l) : Calm (recDown l) ∧ (l.state = .listenOnly → (recDown l).state = .listenOnly) := by
  unfold recDown
  split
  · exact ⟨Calm.evalLink ⟨h.attempt, h.tracking⟩, fun e => (evalLink_kept _).2.2.2 e⟩
  · exact ⟨h.evalLink, fun e => (evalLink_kept l).2.2.2 e⟩

/-- The end of a frame leaves nothing on the line but, while ACTIVE, a reject burst of seven bits. -/
theorem leaveFrame_driverSafe (ack reject : Bool) {s : State} (hreject : reject = true → s.link.state = .active)
    (hjoin : settledState s.supervisor.station = false → s.link.state = .listenOnly) : DriverSafe (leaveFrame ack reject s) := by
  refine (driverSafe_iff _).mpr ⟨fun k => absurd k Bool.false_ne_true, fun left k => ?_, hjoin⟩
  simp only [leaveFrame, setLink_link] at k
  split at k
  · obtain rfl := Tracking.rejecting.inj k
    exact ⟨hreject ‹_›, rfl, rfl, by decide, by decide⟩
  · exact nomatch k

theorem quietBits_driverSafe (bits : List Bool) {s : State} (h : DriverSafe s) : DriverSafe (quietBits bits s) :=
  (driverSafe_iff _).mpr (quietBits_linkSafe bits ((driverSafe_iff s).mp h))

theorem quietBits_engines (bits : List Bool) (l : Link) :
    (bits.foldl quietBit l).reception = l.reception ∧ (bits.foldl quietBit l).tracking = l.tracking := by
  induction bits generalizing l with
  | nil => exact ⟨rfl, rfl⟩
  | cons b bits ih =>
    have hbit : (quietBit l b).reception = l.reception ∧ (quietBit l b).tracking = l.tracking := by
      unfold quietBit
      split_ifs <;> exact ⟨rfl, rfl⟩
    exact ⟨(ih _).1.trans hbit.1, (ih _).2.trans hbit.2⟩

theorem receptionError_driverSafe {s : State} {rx : Reception} (h : DriverSafe s) (hrx : s.link.reception = some rx) :
    DriverSafe (receptionError s) := by
  have hl := (driverSafe_iff s).mp h
  have hup := recUp_calm (hl.calm_of_reception hrx)
  have hjoin : settledState s.supervisor.station = false → (recUp s.link).state = .listenOnly := fun e => hup.2 (hl.joining e)
  simp only [receptionError]
  split
  · exact leaveFrame_driverSafe _ _ (fun k => of_decide_eq_true k) hjoin
  · exact leaveFrame_driverSafe _ _ (fun k => of_decide_eq_true k) hjoin

theorem takeFrame_driverSafe (cfg : Settings) (f : Frame) {s : State} (hcfg : s.loader.settled = some cfg) (h : DriverSafe s)
    (hcalm : Calm s.link) : DriverSafe (takeFrame cfg f s) := by
  have hgiven : DriverSafe (giveAddress cfg f.source s) ∧ Calm (giveAddress cfg f.source s).link := by
    simp only [giveAddress]
    split <;> exact ⟨h.congr rfl rfl, hcalm⟩
  have hclash : DriverSafe (clashTest cfg f (giveAddress cfg f.source s)) := by
    unfold clashTest
    split
    · refine (serviceHead_served cfg _).driverSafe ((driverSafe_iff _).mpr (Calm.linkSafe ⟨hgiven.2.attempt, hgiven.2.tracking⟩ ?_))
      exact fun _ => rfl
    · exact hgiven.1
  have hnumbered : DriverSafe (numberFrame f (clashTest cfg f (giveAddress cfg f.source s))) := by
    unfold numberFrame
    split
    · exact hclash.congr rfl rfl
    · exact hclash
  unfold takeFrame
  split
  · simp only [handOn, filterFrame]
    split
    · have hkept := ((giveAddress_lineKept cfg f.source s).trans (clashTest_lineKept cfg f _)).trans (numberFrame_lineKept f _)
      exact takeTime_keeps (driverSafe_timingClosed.event cfg) _ _ ((congrArg Loader.settled hkept.loader).trans hcfg) hnumbered
    · split
      · simp only [arrive]
        split
        · split <;> exact hnumbered.congr rfl rfl
        · exact hnumbered.congr rfl rfl
      · exact hnumbered
  · exact h.congr rfl rfl

theorem receptionEnd_driverSafe (cfg : Settings) (rx : Reception) (bits : List Bool) {s : State} (hcfg : s.loader.settled = some cfg)
    (h : DriverSafe s) (hrx : s.link.reception = some rx) : DriverSafe (receptionEnd cfg rx bits s) := by
  have hcalm := ((driverSafe_iff s).mp h).calm_of_reception hrx
  have hquiet : ∀ q : List Bool, DriverSafe (quietBits q s) ∧ (quietBits q s).link.reception = some rx := fun q =>
    ⟨quietBits_driverSafe q h, (quietBits_engines q _).1.trans hrx⟩
  simp only [receptionEnd]
  split
  case h_1 =>
    refine quietBits_driverSafe bits ((driverSafe_iff _).mpr (Calm.linkSafe ⟨hcalm.attempt, fun _ => Tracking.noConfusion⟩ ?_))
    exact ((driverSafe_iff s).mp h).joining
  case h_2 | h_3 => exact sampleBits_driverSafe _ (receptionError_driverSafe (hquiet _).1 (hquiet _).2)
  case h_4 => exact sampleBits_driverSafe _ (leaveFrame_driverSafe _ false (fun k => nomatch k) (hquiet _).1.joining)
  case h_5 f rest _ =>
    obtain ⟨hq, hqrx⟩ := hquiet (bits.take (bits.length - rest.length))
    have hdown := recDown_calm (((driverSafe_iff _).mp hq).calm_of_reception hqrx)
    have htaken : ∀ l : Link, Calm l → (settledState (quietBits (bits.take (bits.length - rest.length)) s).supervisor.station = false →
        l.state = .listenOnly) → DriverSafe (takeFrame cfg f ((quietBits (bits.take (bits.length - rest.length)) s).setLink l)) :=
      fun l hl hjoin => takeFrame_driverSafe (s := (quietBits _ s).setLink l) cfg f hcfg ((driverSafe_iff _).mpr (hl.linkSafe hjoin)) hl
    refine sampleBits_driverSafe _ (setTimeBase_driverSafe (htaken _ ?_ ?_) _)
    · exact ⟨hdown.1.attempt, fun _ => Tracking.noConfusion⟩
    · exact fun e => hdown.2 (hq.joining e)

/-! ### Sending (R136 to R139, R145) -/

theorem completeInHand_link (reason : Option FailReason) (s : State) :
    (completeInHand reason s).link = { s.link with inHand := none, attempt := none } := by
  simp only [completeInHand]
  split <;> rfl

theorem completeInHand_station (reason : Option FailReason) (s : State) : (completeInHand reason s).supervisor = s.supervisor := by
  simp only [completeInHand]
  split <;> rfl

/-- The end of a frame in hand takes the attempt off the line. -/
theorem completeInHand_driverSafe (cfg : Settings) (reason : Option FailReason) {s : State}
    (h : DriverSafe (s.setLink { s.link with attempt := none })) : DriverSafe (serviceHead cfg (completeInHand reason s)) := by
  have hlink := completeInHand_link reason s
  refine (serviceHead_served cfg _).driverSafe (h.of_link (congrArg Supervisor.station (completeInHand_station reason s)) ?_ ?_ ?_ ?_)
  all_goals
    rw [hlink]
    rfl

theorem setTries_link (t : Tries) (l : Link) :
    (setTries t l).state = l.state ∧ (setTries t l).tracking = l.tracking ∧ (setTries t l).reception = l.reception ∧
      { setTries t l with ringTries := l.ringTries, timeTries := l.timeTries } = l := by
  unfold setTries
  split <;> exact ⟨rfl, rfl, rfl, rfl⟩

/-- A failed attempt is off the line, whatever becomes of its frame. -/
theorem settleFailure_driverSafe (cfg : Settings) (ackError : Bool) {s : State}
    (h : DriverSafe (s.setLink { s.link with attempt := none })) : DriverSafe (settleFailure cfg ackError s) := by
  obtain ⟨hstate, htracking, hreception, -⟩ := setTries_link (countFailure ackError (triesInHand s.link)) s.link
  have htried : ∀ l : Link, l.state = s.link.state → l.tracking = s.link.tracking → l.reception = s.link.reception →
      DriverSafe ((s.setLink l).setLink { l with attempt := none }) := fun l h1 h2 h3 =>
    h.of_link rfl h1 h2 rfl h3
  have hset := htried _ hstate htracking hreception
  simp only [settleFailure]
  split
  · exact (serviceHead_served cfg _).driverSafe (hset.of_link rfl rfl rfl rfl rfl)
  · split
    · exact completeInHand_driverSafe cfg _ hset
    · split
      · exact completeInHand_driverSafe cfg _ hset
      · exact hset

theorem tecUp_kept (l : Link) : (tecUp l).tracking = l.tracking ∧ (tecUp l).attempt = l.attempt ∧ (tecUp l).reception = l.reception := by
  unfold tecUp
  split
  · exact ⟨(evalLink_kept _).2.1, (evalLink_kept _).1, (evalLink_kept _).2.2.1⟩
  · exact ⟨(evalLink_kept _).2.1, (evalLink_kept _).1, (evalLink_kept _).2.2.1⟩

theorem loseArbitration_driverSafe (cfg : Settings) (samples : List Bool) {s : State} (hsettled : settledState s.supervisor.station = true) :
    DriverSafe (loseArbitration cfg samples s) := by
  have hlost : ∀ l : Link, DriverSafe (s.setLink { l with
      tracking := .inFrame samples.length, attempt := none, reception := some (takeRxBits s.link samples Reception.opened) }) := fun l =>
    (driverSafe_iff _).mpr (Calm.linkSafe ⟨rfl, fun _ => Tracking.noConfusion⟩ fun e => absurd (hsettled.symm.trans e) Bool.noConfusion)
  simp only [loseArbitration]
  split
  · exact completeInHand_driverSafe cfg _ (hlost _)
  · exact hlost _

section Attempt

variable {s : State} (hsettled : settledState s.supervisor.station = true)
include hsettled

theorem leaveFrame_settled (ack reject : Bool) (l : Link) (hreject : reject = true → l.state = .active) :
    DriverSafe (leaveFrame ack reject (s.setLink l)) :=
  leaveFrame_driverSafe ack reject hreject fun e => absurd (hsettled.symm.trans e) Bool.noConfusion

theorem bitErrorEnd_driverSafe (cfg : Settings) (samples rest : List Bool) : DriverSafe (bitErrorEnd cfg samples rest s) := by
  simp only [bitErrorEnd]
  split
  · rename_i hactive
    refine sampleBits_driverSafe _ (settleFailure_driverSafe cfg _ ?_)
    exact (leaveFrame_settled hsettled false true (tecUp s.link) fun _ => hactive).congr rfl rfl
  · refine sampleBits_driverSafe _ (settleFailure_driverSafe cfg _ ((driverSafe_iff _).mpr (Calm.linkSafe ?_ ?_)))
    · exact ⟨rfl, fun _ => Tracking.noConfusion⟩
    · exact fun e => absurd (hsettled.symm.trans e) Bool.noConfusion

theorem ackErrorEnd_driverSafe (cfg : Settings) (rest : List Bool) : DriverSafe (ackErrorEnd cfg rest s) := by
  simp only [ackErrorEnd]
  refine sampleBits_driverSafe _ (settleFailure_driverSafe cfg _ ?_)
  split
  · exact (leaveFrame_settled hsettled false _ (tecUp s.link) fun k => of_decide_eq_true k).congr rfl rfl
  · exact (leaveFrame_settled hsettled false _ s.link fun k => of_decide_eq_true k).congr rfl rfl

theorem endRejectEnd_driverSafe (cfg : Settings) (rest : List Bool) : DriverSafe (endRejectEnd cfg rest s) := by
  refine sampleBits_driverSafe _ (settleFailure_driverSafe cfg _ ?_)
  exact (leaveFrame_settled hsettled false false (tecUp s.link) fun k => nomatch k).congr rfl rfl

theorem successEnd_driverSafe (cfg : Settings) (rest : List Bool) : DriverSafe (successEnd cfg rest s) := by
  refine sampleBits_driverSafe _ (completeInHand_driverSafe cfg _ ((driverSafe_iff _).mpr (Calm.linkSafe ?_ ?_)))
  · exact ⟨rfl, fun _ => Tracking.noConfusion⟩
  · exact fun e => absurd (hsettled.symm.trans e) Bool.noConfusion

end Attempt

theorem keepSamples_driverSafe (a : Attempt) (samples : List Bool) {s : State} (h : DriverSafe s) (ha : s.link.attempt.isSome = true) :
    DriverSafe (keepSamples a samples s) := by
  obtain ⟨hsends, -, hreception⟩ := h.sends ha
  exact (driverSafe_iff _).mpr ⟨fun _ => ⟨hsends, rfl, hreception⟩, fun _ k => (nomatch k), h.joining⟩

theorem attempt_settled {s : State} (h : DriverSafe s) (ha : s.link.attempt.isSome = true) : settledState s.supervisor.station = true :=
  ((driverSafe_iff s).mp h).settled fun e => by
    have hsends := (h.sends ha).1
    rw [e] at hsends
    exact nomatch hsends

theorem attemptBits_driverSafe (cfg : Settings) (bits : List Bool) {a : Attempt} {s : State} (h : DriverSafe s)
    (ha : s.link.attempt = some a) : DriverSafe (attemptBits cfg bits a s) := by
  have hsome : s.link.attempt.isSome = true := by rw [ha]; rfl
  have hsettled := attempt_settled h hsome
  simp only [attemptBits]
  split
  · exact keepSamples_driverSafe a _ h hsome
  · exact loseArbitration_driverSafe cfg _ hsettled
  · exact bitErrorEnd_driverSafe hsettled cfg _ _
  · exact ackErrorEnd_driverSafe hsettled cfg _
  · exact endRejectEnd_driverSafe hsettled cfg _
  · exact successEnd_driverSafe hsettled cfg _

theorem firstBits_driverSafe (cfg : Settings) (bits : List Bool) {s : State} (h : DriverSafe s) : DriverSafe (firstBits cfg bits s) := by
  unfold firstBits
  split
  · exact h
  · rename_i a ha
    have hsome : s.link.attempt.isSome = true := by rw [ha]; rfl
    split
    · exact loseArbitration_driverSafe cfg _ (attempt_settled h hsome)
    · exact keepSamples_driverSafe a _ h hsome

theorem atChance_iff (l : Link) : atChance l = true →
    (∃ count, l.tracking = .idle count) ∧ (l.state = .active ∨ l.state = .passive) := by
  unfold atChance
  split
  · rename_i count wait ht hw
    intro _
    refine ⟨⟨count, ht⟩, ?_⟩
    revert hw
    cases l.state <;> simp [waitBefore]
  · exact fun h => nomatch h

/-- A Start bit of its own puts an attempt on the line of a station that may send. -/
theorem startAttempt_driverSafe (source : InHand) (sent : List SentBit) {s : State} (hsends : linkSends s.link.state = true)
    (hjoin : settledState s.supervisor.station = false → s.link.state = .listenOnly) : DriverSafe (startAttempt source sent s) :=
  (driverSafe_iff _).mpr ⟨fun _ => ⟨hsends, rfl, rfl⟩, fun _ k => (nomatch k), hjoin⟩

theorem takeInHand_driverSafe (cfg : Settings) {s : State} (h : DriverSafe s) (hsends : linkSends s.link.state = true) :
    DriverSafe (takeInHand cfg s) := by
  simp only [takeInHand]
  split
  · split
    · exact h
    · split
      · exact startAttempt_driverSafe _ _ hsends h.joining
      · exact h
  · exact startAttempt_driverSafe _ _ hsends h.joining

theorem countRecessive_driverSafe (n : Nat) {s : State} (h : DriverSafe s) : DriverSafe (countRecessive n s) := by
  unfold countRecessive
  split
  case h_2 count ht =>
    have hcalm := ((driverSafe_iff s).mp h).calm_of_outside (by rw [inFrame, ht])
    have hcounted : DriverSafe (s.setLink { s.link with tracking := .idle (count + n) }) :=
      (driverSafe_iff _).mpr (Calm.linkSafe ⟨hcalm.attempt, fun _ => Tracking.noConfusion⟩ h.joining)
    simp only
    split
    · exact quietBits_driverSafe _ hcounted
    · exact hcounted
  all_goals exact h

theorem takeBits_driverSafe {cfg : Settings} {f : List Bool → State → State} {s : State} (h : ∀ bits, DriverSafe (f bits s))
    (line : Line) : DriverSafe (takeBits cfg f line s) := by
  obtain ⟨bits, e⟩ | ⟨bits, clock, e⟩ := takeBits_cases cfg f line s
  · exact e ▸ h bits
  · rw [e]
    exact (h bits).of_link rfl rfl rfl rfl rfl

theorem chanceStep_driverSafe (cfg : Settings) (recessive : Nat) (line : Line) {s : State} (h : DriverSafe s) :
    DriverSafe (chanceStep cfg recessive line s) := by
  have hcounted := countRecessive_driverSafe recessive h
  simp only [chanceStep]
  split
  · rename_i hchance
    have hsends : linkSends (countRecessive recessive s).link.state = true := by
      obtain e | e := (atChance_iff _ hchance).2 <;> rw [e] <;> rfl
    have htaken := takeInHand_driverSafe cfg hcounted hsends
    split
    · exact takeBits_driverSafe (fun bits => firstBits_driverSafe cfg bits htaken) line
    · exact htaken
  · exact hcounted

theorem dispatchHead_driverSafe (cfg : Settings) {s : State} (h : DriverSafe s) : DriverSafe (dispatchHead cfg s) := by
  have hboundary : ∀ (q : ReceiveQueue) (p : PeerTable), DriverSafe ((s.setQueue q).setPeers p) := fun _ _ => h.congr rfl rfl
  unfold dispatchHead
  split
  · exact h
  · split
    · exact h
    · split
      · simp only [dispatchPlace]
        split
        · exact h.congr rfl rfl
        · split
          · simp only [deliverPlacement]
            split
            · exact hboundary _ _
            · exact (yieldTest_served cfg _).driverSafe (h.congr rfl rfl)
          · exact hboundary _ _
      · exact hboundary _ _

/-! ### Every move -/

/-- A station that starts up is in LISTEN_ONLY, and start-up leaves it there. -/
theorem Move.driverSafe {c : Instr} {s t : State} (h : Move c s t) (hstart : ResetInStarting s) (hs : DriverSafe s) : DriverSafe t := by
  have hlisten : s.supervisor.station = .starting → s.link.state = .listenOnly := fun e => hs.joining (by rw [e]; rfl)
  have hloader : ∀ t : State, LoaderKept s t → s.supervisor.station = .starting → DriverSafe t := fun t ht e => by
    refine driverSafe_of_listenOnly hs (hlisten e) (by rw [← ht.link]) (by rw [← ht.link]) fun _ => ?_
    exact Eq.trans (by rw [← ht.link]) (hlisten e)
  have hflow : ∀ flow : Bool, DriverSafe (s.setFlowPin flow) := fun _ => hs.congr rfl rfl
  cases h
  case idle => exact hs
  case reset => exact (driverSafe_iff _).mpr (Calm.linkSafe ⟨rfl, fun _ => Tracking.noConfusion⟩ fun _ => rfl)
  case resetEnd h =>
    have hkept := endReset_loaderKept s
    have hlink : { (endReset s).link with loopback := s.link.loopback } = s.link := hkept.link
    refine driverSafe_of_listenOnly hs (hlisten (hstart h)) (by rw [← hlink]) (by rw [← hlink]) fun _ => ?_
    exact Eq.trans (by rw [← hlink]) (hlisten (hstart h))
  case hold b =>
    obtain ⟨-, e⟩ | ⟨-, -, e⟩ | ⟨-, -, e⟩ := holdStep_cases b s
    all_goals
      rw [e]
      exact hs.congr rfl rfl
  case read bits h => exact hloader _ (takeMisoBits_loaderKept bits s) (starting_of_startingUp h).2
  case loopSamples cfg line _ =>
    exact takeBits_driverSafe (fun _ => hs.of_link rfl rfl rfl rfl rfl) line
  case endLoopback cfg r h =>
    have hstarting := (starting_of_startingSettings h).2.1
    have hcalm := ((driverSafe_iff s).mp hs).calm_of_silent (by rw [hlisten hstarting]; rfl)
    have hlink : (setStation (s.setLink { s.link with loopResult := some r }) .listening).link = { s.link with loopResult := some r } :=
      setStation_link _ _
    refine (driverSafe_iff _).mpr (Calm.linkSafe ⟨?_, fun _ => Tracking.noConfusion⟩ fun _ => ?_)
    · exact (congrArg Link.attempt hlink).trans hcalm.attempt
    · exact (congrArg Link.state hlink).trans (hlisten hstarting)
  case crossing interval flow _ => exact acceptCrossing_keeps driverSafe_timingClosed interval (hflow flow)
  case loss flow _ => exact declareLoss_keeps driverSafe_timingClosed (hflow flow)
  case oscillator flow _ => exact mainsCycleEnd_keeps driverSafe_timingClosed (hflow flow)
  case frame cfg rx line flow hactive hrx =>
    exact takeBits_driverSafe (fun bits => receptionEnd_driverSafe (s := s.setFlowPin flow) cfg rx bits (resetInProgress_of_active hactive).2.2 (hflow flow) hrx)
      line
  case complete cfg _ => exact (completeComputation_served cfg s).driverSafe hs
  case scan control limiter cfg _ =>
    unfold scanStep
    split
    · exact foldl_keeps (P := DriverSafe) (fun t z ht => (tripTest_testKept cfg t z).driverSafe ht) indexes (hs.congr rfl rfl)
    · exact hs
  case window currents voltage cfg _ =>
    unfold windowStep
    split
    · exact hs
    · rename_i w _
      have hsag : ∀ u : State, DriverSafe u → DriverSafe (sagReport cfg w u) := fun u hu => by
        unfold sagReport
        split
        · exact hu.congr rfl rfl
        · exact hu
      have htests := foldl_keeps (P := DriverSafe) (fun t z ht => (heaterTests_testKept cfg t z).driverSafe ht) indexes
        (hsag (s.setScanner (applyWindow cfg w currents voltage s.scanner)) (hs.congr rfl rfl))
      unfold collapseReport
      split
      · exact driverSafe_timingClosed.loss _ htests
      · exact htests
  case tripClear cfg _ => exact foldl_keeps (P := DriverSafe) (fun t z ht => (clearZone_testKept cfg t z).driverSafe ht) indexes hs
  case dispatch cfg _ => exact dispatchHead_driverSafe cfg hs
  case bits cfg line _ => exact takeBits_driverSafe (fun bits => sampleBits_driverSafe bits hs) line
  case startBit hidle =>
    have hquiet := quietBits_driverSafe [false] hs
    have hcalm : Calm (quietBits [false] s).link := by
      refine LinkSafe.calm_of_outside ((driverSafe_iff _).mp hquiet) ?_
      have htracking : (quietBits [false] s).link.tracking = s.link.tracking := (quietBits_engines [false] s.link).2
      rw [inFrame, htracking, hidle]
    exact (driverSafe_iff _).mpr (Calm.linkSafe ⟨hcalm.attempt, fun _ => Tracking.noConfusion⟩ hquiet.joining)
  case chance cfg recessive line _ => exact chanceStep_driverSafe cfg recessive line hs
  case attempt cfg a line _ ha => exact takeBits_driverSafe (fun bits => attemptBits_driverSafe cfg bits hs ha) line

end Sys2Proof.Machine

namespace Sys2Proof.Proofs.Driver
open Sys2Proof.Machine

/-- Settles O56: an attempt or a burst ends with the operation that takes its last bit, the link state leaves the states that send only
at such an end, and before the end of the join it is LISTEN_ONLY, so that nothing of either is there. -/
theorem stepKeepsTheDriverSafe : Obligations.StepKeepsTheDriverSafe := by
  intro s t hstart hs h
  exact step_keeps (P := fun s => ResetInStarting s ∧ DriverSafe s)
    (fun _ _ hs => ⟨hs.1, hs.2.congr rfl rfl⟩)
    (fun _ _ _ hs h => ⟨hs.1.exec h, (move_of_exec h).driverSafe hs.1 hs.2⟩) ⟨hstart, hs⟩ h

end Sys2Proof.Proofs.Driver

/-! PROOFS. The ring's occupied span, its head and the requests (R158 to R163): what each ring operation does to them, and that every
exchange between the producers and the ring keeps them. -/

namespace Sys2Proof.Machine

/-! ### The ring alone -/

/-- The occupied span of a ring (R158). -/
structure SpanSound (r : Ring) : Prop where
  bound : r.occupancy ≤ 6
  fill : r.fill.val = (r.head.val + r.occupancy) % 6
  free : ∀ i : Index, (r.descriptors.get i).state = .free ↔ occupied r i = false

/-- A ring with the request that the placement unit has at it (R159, R162). -/
structure WaitsSound (r : Ring) (q : Request) : Prop where
  full : r.waiting ≠ [] → r.occupancy = 6
  waits : (∃ w ∈ r.waiting, w.producer = .place) → q = .waiting
  once : (r.waiting.filter fun w => decide (w.producer = .place)).length ≤ 1
  stands : ∀ i : Index, requestOn i q = true → (r.descriptors.get i).producer = some .place ∧ (r.descriptors.get i).state ≠ .free

theorem requestOn_iff (i : Index) (q : Request) : requestOn i q = true ↔ q = .queued i ∨ q = .cancelRecorded i := by
  cases q <;> simp [requestOn]

theorem ringSound_iff (s : State) :
    RingSound s ↔ SpanSound s.ring ∧ (s.link.inHand = some .ring → (headDescriptor s.ring).state = .sending) := by
  constructor
  · intro h
    refine ⟨⟨h.bound, h.fill, fun i => ⟨fun hfree => ?_, h.outside i⟩⟩, h.inHand⟩
    exact Bool.eq_false_iff.mpr fun hin => h.inside i hin hfree
  · rintro ⟨h, hhand⟩
    refine ⟨h.bound, h.fill, fun i hin hfree => ?_, fun i hout => (h.free i).mpr hout, hhand⟩
    exact Bool.false_ne_true (((h.free i).mp hfree).symm.trans hin)

theorem requestsSound_iff (s : State) : RequestsSound s ↔ WaitsSound s.ring s.placement.request := by
  constructor
  · exact fun h => ⟨h.full, h.waits, h.once, fun i hi => h.stands i ((requestOn_iff i _).mp hi)⟩
  · exact fun h => ⟨h.full, h.waits, h.once, fun i hi => h.stands i ((requestOn_iff i _).mpr hi)⟩

theorem occupied_iff (r : Ring) (i : Index) : occupied r i = true ↔ (i.val + 6 - r.head.val) % 6 < r.occupancy := by
  simp [occupied]

theorem occupied_false_iff (r : Ring) (i : Index) : occupied r i = false ↔ r.occupancy ≤ (i.val + 6 - r.head.val) % 6 := by
  simp [occupied]

theorem nextIndex_val (i : Index) : (nextIndex i).val = (i.val + 1) % 6 := by
  revert i
  decide

/-- The head is the first descriptor of the span. -/
theorem SpanSound.occupancy_pos {r : Ring} (h : SpanSound r) (hstate : (headDescriptor r).state ≠ .free) : 0 < r.occupancy := by
  refine Nat.pos_of_ne_zero fun h0 => hstate ((h.free r.head).mpr ((occupied_false_iff r r.head).mpr ?_))
  rw [h0]
  exact Nat.zero_le _

/-- The descriptor at the fill position of a ring that is not full is FREE. -/
theorem SpanSound.fill_free {r : Ring} (h : SpanSound r) (hroom : r.occupancy < 6) : (r.descriptors.get r.fill).state = .free := by
  refine (h.free r.fill).mpr ((occupied_false_iff r r.fill).mpr ?_)
  rw [h.fill]
  have := r.head.isLt
  omega

theorem SpanSound.fillRing {r : Ring} (h : SpanSound r) (hroom : r.occupancy < 6) (p : Producer) (payload : List Byte) :
    SpanSound (fillRing p payload r) where
  bound := hroom
  fill := by
    have hf := h.fill
    have hn := nextIndex_val r.fill
    simp only [Machine.fillRing]
    omega
  free i := by
    have hf := h.fill
    have hi := i.isLt
    have hh := r.head.isLt
    rw [occupied_false_iff]
    simp only [Machine.fillRing, Six.get_set]
    by_cases e : i = r.fill
    · rw [if_pos e]
      have hv : i.val = r.fill.val := congrArg Fin.val e
      refine iff_of_false (fun k => nomatch k) ?_
      omega
    · rw [if_neg e, h.free i, occupied_false_iff]
      have hv : i.val ≠ r.fill.val := fun k => e (Fin.ext k)
      omega

theorem SpanSound.freeHead {r : Ring} (h : SpanSound r) (hpos : 0 < r.occupancy) : SpanSound (freeHead r) where
  bound := Nat.le_trans (Nat.sub_le _ _) h.bound
  fill := by
    have hf := h.fill
    have hn := nextIndex_val r.head
    simp only [Machine.freeHead]
    omega
  free i := by
    have hi := i.isLt
    have hh := r.head.isLt
    have hb := h.bound
    have hn := nextIndex_val r.head
    rw [occupied_false_iff]
    simp only [Machine.freeHead, Six.get_set]
    by_cases e : i = r.head
    · rw [if_pos e]
      have hv : i.val = r.head.val := congrArg Fin.val e
      refine iff_of_true rfl ?_
      omega
    · rw [if_neg e, h.free i, occupied_false_iff]
      have hv : i.val ≠ r.head.val := fun k => e (Fin.ext k)
      omega

/-- Descriptors that change their course in their places: none becomes FREE or occupied, and each keeps its producer. -/
structure Restated (r t : Ring) : Prop where
  head : t.head = r.head
  fill : t.fill = r.fill
  occupancy : t.occupancy = r.occupancy
  waiting : t.waiting = r.waiting
  free : ∀ i : Index, (t.descriptors.get i).state = .free ↔ (r.descriptors.get i).state = .free
  producer : ∀ i : Index, (t.descriptors.get i).producer = (r.descriptors.get i).producer

theorem Restated.refl (r : Ring) : Restated r r := ⟨rfl, rfl, rfl, rfl, fun _ => Iff.rfl, fun _ => rfl⟩

theorem Restated.spanSound {r t : Ring} (h : Restated r t) (hr : SpanSound r) : SpanSound t where
  bound := h.occupancy ▸ hr.bound
  fill := by rw [h.fill, h.head, h.occupancy]; exact hr.fill
  free i := by rw [h.free i, hr.free i]; unfold occupied; rw [h.head, h.occupancy]

theorem Restated.waitsSound {r t : Ring} {q q' : Request} (h : Restated r t) (hr : WaitsSound r q)
    (hwaiting : q = .waiting → q' = .waiting) (hstands : ∀ i, requestOn i q' = true → requestOn i q = true) : WaitsSound t q' where
  full := by rw [h.waiting, h.occupancy]; exact hr.full
  waits := by rw [h.waiting]; exact fun k => hwaiting (hr.waits k)
  once := by rw [h.waiting]; exact hr.once
  stands i hi := by rw [h.producer i, Ne, h.free i]; exact hr.stands i (hstands i hi)

/-- One descriptor restated. -/
theorem setDescriptor_restated (r : Ring) (i : Index) (d : Descriptor) (hfree : d.state = .free ↔ (r.descriptors.get i).state = .free)
    (hproducer : d.producer = (r.descriptors.get i).producer) : Restated r (setDescriptor r i d) where
  head := rfl
  fill := rfl
  occupancy := rfl
  waiting := rfl
  free j := by
    simp only [setDescriptor, Six.get_set]
    split
    · rename_i e; rw [e]; exact hfree
    · rfl
  producer j := by
    simp only [setDescriptor, Six.get_set]
    split
    · rename_i e; rw [e]; exact hproducer
    · rfl

theorem detachRing_restated (r : Ring) : Restated r (detachRing r) := by
  have hdetach : ∀ d : Descriptor, ((detachDescriptor d).state = .free ↔ d.state = .free) ∧ (detachDescriptor d).producer = d.producer := by
    intro d
    unfold detachDescriptor
    split
    case h_1 h | h_2 h => exact ⟨by rw [h]; exact iff_of_false (fun k => nomatch k) (fun k => nomatch k), rfl⟩
    all_goals exact ⟨Iff.rfl, rfl⟩
  refine ⟨rfl, rfl, rfl, rfl, fun i => ?_, fun i => ?_⟩
  · simp only [detachRing, Six.get_map]; exact (hdetach _).1
  · simp only [detachRing, Six.get_map]; exact (hdetach _).2

/-- A cancel restates its descriptor (R162). -/
theorem cancelDescriptor_restated (i : Index) (onLine : Bool) (r : Ring) : Restated r (cancelDescriptor i onLine r).1 := by
  simp only [cancelDescriptor]
  split
  case h_1 h =>
    exact setDescriptor_restated r i _ (by rw [h]; exact iff_of_false (fun k => nomatch k) (fun k => nomatch k)) rfl
  case h_2 h =>
    split
    · exact setDescriptor_restated r i _ Iff.rfl rfl
    · exact setDescriptor_restated r i _ (by rw [h]; exact iff_of_false (fun k => nomatch k) (fun k => nomatch k)) rfl
  case h_3 | h_4 => exact Restated.refl r
  case h_5 | h_6 => exact setDescriptor_restated r i _ Iff.rfl rfl

/-- While an attempt is on the line, or where the cancel voids, a head that is SENDING stays so. -/
theorem cancelDescriptor_sending (i : Index) (onLine : Bool) (r : Ring)
    (h : onLine = true ∨ (cancelDescriptor i onLine r).2 = .voided) (hsending : (headDescriptor r).state = .sending) :
    (headDescriptor (cancelDescriptor i onLine r).1).state = .sending := by
  have hset : ∀ d : Descriptor, (r.head = i → d.state = .sending) → (headDescriptor (setDescriptor r i d)).state = .sending := by
    intro d hd
    simp only [headDescriptor, setDescriptor, Six.get_set]
    split
    · exact hd ‹_›
    · exact hsending
  revert h
  simp only [cancelDescriptor]
  split
  case h_1 k =>
    intro _
    refine hset _ fun e => ?_
    rw [headDescriptor, e, k] at hsending
    exact nomatch hsending
  case h_2 k =>
    split
    · exact fun _ => hset _ fun _ => k
    · rename_i hoff
      rintro (h | h)
      · exact absurd h hoff
      · exact nomatch h
  case h_3 | h_4 => exact fun _ => hsending
  case h_5 k | h_6 k =>
    intro _
    refine hset _ fun e => ?_
    rw [headDescriptor, e, k] at hsending
    exact nomatch hsending

/-! ### Requests at the ring -/

theorem WaitsSound.no_place {r : Ring} {q : Request} (h : WaitsSound r q) (hq : q ≠ .waiting) : ∀ w ∈ r.waiting, w.producer ≠ .place :=
  fun w hw e => hq (h.waits ⟨w, hw, e⟩)

/-- A ring that is not full has no request waiting. -/
theorem WaitsSound.none_waiting {r : Ring} {q : Request} (h : WaitsSound r q) (hroom : r.occupancy < 6) : r.waiting = [] :=
  by_contra fun k => absurd (h.full k) (Nat.ne_of_lt hroom)

/-- A descriptor filled stands for the new request, and for the old one where there is none. -/
theorem fillRing_stands {r : Ring} {q : Request} (hr : SpanSound r) (hroom : r.occupancy < 6) (p : Producer) (payload : List Byte)
    (hstands : ∀ i, requestOn i q = true →
      (r.descriptors.get i).producer = some .place ∧ (r.descriptors.get i).state ≠ .free) (i : Index)
    (hi : requestOn i q = true ∨ (p = .place ∧ i = r.fill)) :
    ((fillRing p payload r).descriptors.get i).producer = some .place ∧ ((fillRing p payload r).descriptors.get i).state ≠ .free := by
  simp only [fillRing, Six.get_set]
  by_cases e : i = r.fill
  · rw [if_pos e]
    obtain hold | ⟨hp, -⟩ := hi
    · rw [e] at hold
      exact absurd (hr.fill_free hroom) (hstands _ hold).2
    · exact ⟨congrArg some hp, fun k => nomatch k⟩
  · rw [if_neg e]
    exact hi.elim (hstands i) fun k => absurd k.2 e

/-- A request given a descriptor of a ring that is not full: its producer learns of it when it is the placement unit. -/
theorem WaitsSound.fillRing {r : Ring} {q q' : Request} (h : WaitsSound r q) (hr : SpanSound r) (hroom : r.occupancy < 6) (p : Producer)
    (payload : List Byte) (hq : q' = q ∨ (p = .place ∧ q' = .queued r.fill)) : WaitsSound (fillRing p payload r) q' := by
  have hnone : (Machine.fillRing p payload r).waiting = [] := h.none_waiting hroom
  refine ⟨fun k => absurd hnone k, ?_, by rw [hnone]; exact Nat.zero_le _, fun i hi => ?_⟩
  · rintro ⟨w, hw, -⟩
    rw [hnone] at hw
    exact absurd hw List.not_mem_nil
  · refine fillRing_stands hr hroom p payload h.stands i ?_
    obtain rfl | ⟨hp, rfl⟩ := hq
    · exact .inl hi
    · exact .inr ⟨hp, (of_decide_eq_true hi).symm⟩

theorem WaitsSound.putWaiting {r : Ring} {q q' : Request} (h : WaitsSound r q) (hfull : r.occupancy = 6) (p : Producer) (payload : List Byte)
    (hq : (p ≠ .place ∧ q' = q) ∨ (q = .none ∧ q' = .waiting)) : WaitsSound (putWaiting p payload r) q' where
  full _ := hfull
  waits := by
    rintro ⟨w, hw, e⟩
    obtain ⟨hp, rfl⟩ | ⟨-, rfl⟩ := hq
    · obtain hold | hnew := List.mem_append.mp hw
      · exact h.waits ⟨w, hold, e⟩
      · rw [List.mem_singleton.mp hnew] at e
        exact absurd e hp
    · rfl
  once := by
    simp only [Machine.putWaiting, List.filter_append, List.length_append]
    obtain ⟨hp, -⟩ | ⟨rfl, -⟩ := hq
    · rw [List.filter_cons_of_neg (by simpa using hp)]
      simpa using h.once
    · have hnone : r.waiting.filter (fun w => decide (w.producer = .place)) = [] :=
        List.filter_eq_nil_iff.mpr fun w hw k => h.no_place (fun k => nomatch k) w hw (of_decide_eq_true k)
      rw [hnone, List.length_nil, Nat.zero_add]
      exact List.length_filter_le _ _
  stands i hi := by
    obtain ⟨-, rfl⟩ | ⟨-, rfl⟩ := hq
    · exact h.stands i hi
    · exact nomatch hi

theorem withdrawWaiting_waitsSound {r : Ring} {q q' : Request} (h : WaitsSound r q) (hq : ∀ i, requestOn i q' = true → requestOn i q = true) :
    WaitsSound (withdrawWaiting .place r) q' where
  full hne := h.full fun hnil => hne (by rw [withdrawWaiting, hnil]; rfl)
  waits := by
    rintro ⟨w, hw, e⟩
    exact absurd e (of_decide_eq_true (List.mem_filter.mp hw).2)
  once := by
    have hnone : (withdrawWaiting .place r).waiting.filter (fun w => decide (w.producer = .place)) = [] :=
      List.filter_eq_nil_iff.mpr fun w hw k => of_decide_eq_true (List.mem_filter.mp hw).2 (of_decide_eq_true k)
    rw [hnone]
    exact Nat.zero_le _
  stands i hi := h.stands i (hq i hi)

/-- A head that no request stands on is released (R161). -/
theorem freeHead_stands {r : Ring} {q : Request} (h : WaitsSound r q) (hoff : requestOn r.head q = false) (i : Index)
    (hi : requestOn i q = true) :
    ((freeHead r).descriptors.get i).producer = some .place ∧ ((freeHead r).descriptors.get i).state ≠ .free := by
  have hne : i ≠ r.head := fun e => Bool.false_ne_true (hoff.symm.trans (e ▸ hi))
  simp only [freeHead, Six.get_set, if_neg hne]
  exact h.stands i hi

theorem WaitsSound.freeHead {r : Ring} {q : Request} (h : WaitsSound r q) (hnil : r.waiting = []) (hoff : requestOn r.head q = false) :
    WaitsSound (freeHead r) q where
  full k := absurd hnil k
  waits := by
    rintro ⟨w, hw, -⟩
    exact absurd (hnil ▸ hw : w ∈ []) List.not_mem_nil
  once := h.once
  stands := freeHead_stands h hoff

/-- The first waiting request given the place of the head released (R159, R161). -/
theorem WaitsSound.serve {r : Ring} {q : Request} {w : WaitingRequest} {ws : List WaitingRequest} (h : WaitsSound r q) (hr : SpanSound r)
    (hpos : 0 < r.occupancy) (hcons : r.waiting = w :: ws) (hoff : requestOn r.head q = false) :
    WaitsSound (Machine.fillRing w.producer w.payload { Machine.freeHead r with waiting := ws })
      (if w.producer = .place then .queued r.fill else q) := by
  have hfull : r.occupancy = 6 := h.full (by rw [hcons]; exact List.cons_ne_nil _ _)
  have hfreed := hr.freeHead hpos
  have honce := h.once
  rw [hcons] at honce
  refine ⟨fun _ => (Nat.succ_pred_eq_of_pos hpos).trans hfull, ?_, ?_, fun i hi => ?_⟩
  · rintro ⟨x, hx, hxp⟩
    have hx' : x ∈ ws := hx
    have hw : w.producer ≠ .place := fun hp => by
      rw [List.filter_cons_of_pos (by simpa using hp), List.length_cons] at honce
      have hmem : x ∈ ws.filter fun w => decide (w.producer = .place) := List.mem_filter.mpr ⟨hx', by simpa using hxp⟩
      have := List.length_pos_of_mem hmem
      omega
    rw [if_neg hw]
    exact h.waits ⟨x, by rw [hcons]; exact List.mem_cons_of_mem _ hx', hxp⟩
  · exact Nat.le_trans (((List.sublist_cons_self w ws).filter _).length_le) honce
  · refine fillRing_stands (r := { Machine.freeHead r with waiting := ws }) (q := q) ⟨hfreed.bound, hfreed.fill, hfreed.free⟩ ?_ _ _
      (freeHead_stands h hoff) i ?_
    · exact Nat.lt_of_lt_of_le (Nat.sub_lt hpos Nat.one_pos) hr.bound
    · by_cases hp : w.producer = .place
      · rw [if_pos hp] at hi
        exact .inr ⟨hp, (of_decide_eq_true hi).symm⟩
      · rw [if_neg hp] at hi
        exact .inl hi

/-! ### What an exchange keeps -/

/-- The ring stays sound, and with it the requests. -/
def RingKept (s t : State) : Prop := RingSound s → RingSound t ∧ (RequestsSound s → RequestsSound t)

theorem RingKept.refl (s : State) : RingKept s s := fun h => ⟨h, id⟩

theorem RingKept.trans {s t u : State} (h : RingKept s t) (k : RingKept t u) : RingKept s u := fun hs =>
  ⟨(k (h hs).1).1, fun hr => (k (h hs).1).2 ((h hs).2 hr)⟩

/-- An exchange between the producers and the ring: the ring and the requests stay sound, the ring's occupancy and the order counter stay
within their bounds, and the bit timing stands. -/
structure Exchanged (s t : State) : Prop where
  ring : RingKept s t
  occupancy : s.ring.occupancy ≤ 6 → t.ring.occupancy ≤ 6
  order : s.placement.orderCounter ≤ 255 → t.placement.orderCounter ≤ 255
  clock : t.link.clock = s.link.clock

theorem Exchanged.refl (s : State) : Exchanged s s := ⟨RingKept.refl s, id, id, rfl⟩

theorem Exchanged.trans {s t u : State} (h : Exchanged s t) (k : Exchanged t u) : Exchanged s u :=
  ⟨h.ring.trans k.ring, k.occupancy ∘ h.occupancy, k.order ∘ h.order, k.clock.trans h.clock⟩

/-- Descriptors restated, with a frame taken out of hand or the request ended. -/
theorem ringKept_of_restated {s t : State} (hring : Restated s.ring t.ring)
    (hhand : (s.link.inHand = some .ring → (headDescriptor s.ring).state = .sending) → t.link.inHand = some .ring →
      (headDescriptor t.ring).state = .sending)
    (hwaiting : s.placement.request = .waiting → t.placement.request = .waiting)
    (hstands : ∀ i, requestOn i t.placement.request = true → requestOn i s.placement.request = true) : RingKept s t := fun hs => by
  obtain ⟨hspan, hhand'⟩ := (ringSound_iff s).mp hs
  refine ⟨(ringSound_iff t).mpr ⟨hring.spanSound hspan, hhand hhand'⟩, fun hr => (requestsSound_iff t).mpr ?_⟩
  exact hring.waitsSound ((requestsSound_iff s).mp hr) hwaiting hstands

/-- What touches neither the ring, nor the frame in hand, nor the request keeps them sound. -/
theorem ringKept_of_same {s t : State} (hring : t.ring = s.ring) (hhand : t.link.inHand = s.link.inHand)
    (hrequest : t.placement.request = s.placement.request) : RingKept s t :=
  ringKept_of_restated (hring ▸ Restated.refl _) (by rw [hring, hhand]; exact id) (by rw [hrequest]; exact id)
    (by rw [hrequest]; exact fun _ => id)

theorem exchanged_of_same {s t : State} (hring : t.ring = s.ring) (hlink : t.link = s.link)
    (hrequest : t.placement.request = s.placement.request) (horder : t.placement.orderCounter = s.placement.orderCounter) :
    Exchanged s t :=
  ⟨ringKept_of_same hring (by rw [hlink]) hrequest, by rw [hring]; exact id, by rw [horder]; exact id, by rw [hlink]⟩

/-- Descriptors restated by an exchange. -/
theorem exchanged_of_restated {s t : State} (hring : Restated s.ring t.ring) (hlink : t.link = s.link)
    (hsending : (headDescriptor s.ring).state = .sending → (headDescriptor t.ring).state = .sending)
    (hwaiting : s.placement.request = .waiting → t.placement.request = .waiting)
    (hstands : ∀ i, requestOn i t.placement.request = true → requestOn i s.placement.request = true)
    (horder : s.placement.orderCounter ≤ 255 → t.placement.orderCounter ≤ 255) : Exchanged s t where
  ring := ringKept_of_restated hring (fun h k => hsending (h (by rw [← hlink]; exact k))) hwaiting hstands
  occupancy := by rw [hring.occupancy]; exact id
  order := horder
  clock := by rw [hlink]

/-! ### The placement unit's completions -/

theorem beginComputation_exchanged (cfg : Settings) (s : State) : Exchanged s (beginComputation cfg s) := by
  unfold beginComputation
  split
  · exact exchanged_of_same rfl rfl rfl rfl
  · exact Exchanged.refl s

theorem yieldUnrequested_exchanged (cfg : Settings) (s : State) : Exchanged s (yieldUnrequested cfg s) := by
  unfold yieldUnrequested
  split
  · exact beginComputation_exchanged cfg s
  · split
    · exact beginComputation_exchanged cfg s
    · exact Exchanged.refl s

theorem yieldIdle_exchanged (cfg : Settings) (s : State) : Exchanged s (yieldIdle cfg s) := by
  unfold yieldIdle
  split
  · exact yieldUnrequested_exchanged cfg s
  · exact Exchanged.refl s

theorem returnAnnounced_same (p : PlacementUnit) :
    (returnAnnounced p).request = p.request ∧ (returnAnnounced p).orderCounter = p.orderCounter := by
  unfold returnAnnounced
  split <;> exact ⟨rfl, rfl⟩

theorem setReturnAnnounced_exchanged (p : PlacementUnit) (s : State) : Exchanged (s.setPlacement p) (s.setPlacement (returnAnnounced p)) :=
  exchanged_of_same rfl rfl (returnAnnounced_same p).1 (returnAnnounced_same p).2

theorem beginComputation_same (cfg : Settings) (s : State) :
    (beginComputation cfg s).ring = s.ring ∧ (beginComputation cfg s).link = s.link ∧
      (beginComputation cfg s).placement.request = s.placement.request := by
  unfold beginComputation
  split <;> exact ⟨rfl, rfl, rfl⟩

theorem yieldIdle_same (cfg : Settings) (s : State) :
    (yieldIdle cfg s).ring = s.ring ∧ (yieldIdle cfg s).link = s.link ∧ (yieldIdle cfg s).placement.request = s.placement.request := by
  unfold yieldIdle yieldUnrequested
  split
  · split
    · exact beginComputation_same cfg s
    · split
      · exact beginComputation_same cfg s
      · exact ⟨rfl, rfl, rfl⟩
  · exact ⟨rfl, rfl, rfl⟩

/-- A request that stands on a descriptor ends; the descriptors and the frame in hand stand. -/
theorem endStanding_exchanged {s : State} {i : Index} (hon : requestOn i s.placement.request = true) {p : PlacementUnit}
    (hrequest : p.request = .none) (horder : s.placement.orderCounter ≤ 255 → p.orderCounter ≤ 255) : Exchanged s (s.setPlacement p) := by
  refine exchanged_of_restated (Restated.refl _) rfl id (fun k => ?_) (fun j hj => ?_) horder
  · rw [k] at hon
    exact nomatch hon
  · rw [setPlacement_placement, hrequest] at hj
    exact nomatch hj

theorem countSent_order (p : PlacementUnit) : (countSent p).orderCounter ≤ 255 := Nat.min_le_left _ _

/-- What a PLACE completion does: an exchange that leaves the ring and the link, and ends a request that stands on the descriptor. -/
theorem takePlace_exchanged (cfg : Settings) (i : Index) (d : Descriptor) (s : State) :
    Exchanged s (takePlace cfg i d s) ∧ (takePlace cfg i d s).ring = s.ring ∧ (takePlace cfg i d s).link = s.link ∧
      requestOn i (takePlace cfg i d s).placement.request = false := by
  unfold takePlace
  split
  case isFalse hon => exact ⟨Exchanged.refl s, rfl, rfl, Bool.eq_false_iff.mpr hon⟩
  case isTrue hon =>
    have hnone : ∀ {q : Request}, q = .none → requestOn i q = false := fun e => by rw [e]; rfl
    split
    · unfold takePlaceOk
      split
      · exact ⟨endStanding_exchanged hon rfl fun _ => countSent_order _, rfl, rfl, rfl⟩
      · obtain ⟨hring, hlink, hrequest⟩ := yieldIdle_same cfg (s.setPlacement (announce (countSent s.placement)))
        have hann := endStanding_exchanged (p := announce (countSent s.placement)) hon rfl fun _ => countSent_order _
        exact ⟨hann.trans (yieldIdle_exchanged cfg _), hring, hlink, hnone hrequest⟩
    · rename_i reason _
      have hend := endStanding_exchanged (p := endRequest reason s.placement) hon rfl id
      have hback := hend.trans (setReturnAnnounced_exchanged _ s)
      have hback' : (returnAnnounced (endRequest reason s.placement)).request = .none := (returnAnnounced_same _).1
      simp only [takePlaceFail]
      split
      · exact ⟨hend, rfl, rfl, rfl⟩
      · split
        · obtain ⟨hring, hlink, hrequest⟩ := beginComputation_same cfg (s.setPlacement (returnAnnounced (endRequest reason s.placement)))
          exact ⟨hback.trans (beginComputation_exchanged cfg _), hring, hlink, hnone (hrequest.trans hback')⟩
        · split
          · obtain ⟨hring, hlink, hrequest⟩ := yieldIdle_same cfg (s.setPlacement (returnAnnounced (endRequest reason s.placement)))
            exact ⟨hback.trans (yieldIdle_exchanged cfg _), hring, hlink, hnone (hrequest.trans hback')⟩
          · exact ⟨hback, rfl, rfl, hnone hback'⟩

/-! ### Releases and requests -/

/-- The head released: the waiting list is empty, or its first request takes a descriptor (R159, R161). -/
theorem releaseHead_cases (s : State) :
    (s.ring.waiting = [] ∧ releaseHead s = s.setRing (freeHead s.ring)) ∨
      ∃ (w : WaitingRequest) (ws : List WaitingRequest), s.ring.waiting = w :: ws ∧
        releaseHead s = noteQueued w.producer s.ring.fill
          (s.setRing (fillRing w.producer w.payload { freeHead s.ring with waiting := ws })) := by
  simp only [releaseHead, serveWaiting]
  split
  · exact .inl ⟨‹_›, rfl⟩
  · rename_i w ws h
    exact .inr ⟨w, ws, h, rfl⟩

/-- What a producer learns: the request of the placement unit, and nothing else of the ring, the link and the order. -/
theorem noteQueued_same (p : Producer) (i : Index) (s : State) :
    (noteQueued p i s).ring = s.ring ∧ (noteQueued p i s).link = s.link ∧
      (noteQueued p i s).placement.orderCounter = s.placement.orderCounter ∧
      (noteQueued p i s).placement.request = if p = .place then .queued i else s.placement.request := by
  cases p <;> exact ⟨rfl, rfl, rfl, rfl⟩

/-- A done head, with no request and no frame in hand on it, is released, and a waiting request is served (R161). -/
theorem releaseHead_exchanged {s : State} (hstate : (headDescriptor s.ring).state ≠ .free) (hsending : (headDescriptor s.ring).state ≠ .sending)
    (hoff : RequestsSound s → requestOn s.ring.head s.placement.request = false) : Exchanged s (releaseHead s) := by
  obtain ⟨hnil, e⟩ | ⟨w, ws, hcons, e⟩ := releaseHead_cases s
  · rw [e]
    refine ⟨fun hs => ?_, fun hocc => Nat.le_trans (Nat.sub_le _ _) hocc, id, rfl⟩
    obtain ⟨hspan, hhand⟩ := (ringSound_iff s).mp hs
    refine ⟨(ringSound_iff _).mpr ⟨hspan.freeHead (hspan.occupancy_pos hstate), fun k => absurd (hhand k) hsending⟩, fun hr => ?_⟩
    exact (requestsSound_iff _).mpr (((requestsSound_iff s).mp hr).freeHead hnil (hoff hr))
  · obtain ⟨hring, hlink, horder, hrequest⟩ := noteQueued_same w.producer s.ring.fill
      (s.setRing (fillRing w.producer w.payload { freeHead s.ring with waiting := ws }))
    rw [e]
    refine ⟨fun hs => ?_, fun hocc => ?_, by rw [horder]; exact id, by rw [hlink]; rfl⟩
    · obtain ⟨hspan, hhand⟩ := (ringSound_iff s).mp hs
      have hpos := hspan.occupancy_pos hstate
      have hfreed := hspan.freeHead hpos
      have hroom : (freeHead s.ring).occupancy < 6 := Nat.lt_of_lt_of_le (Nat.sub_lt hpos Nat.one_pos) hspan.bound
      rw [ringSound_iff, requestsSound_iff, requestsSound_iff, hring, hlink, hrequest]
      refine ⟨⟨?_, fun k => absurd (hhand k) hsending⟩, fun hr => ?_⟩
      · exact SpanSound.fillRing (r := { freeHead s.ring with waiting := ws }) ⟨hfreed.bound, hfreed.fill, hfreed.free⟩ hroom _ _
      · exact hr.serve hspan hpos hcons (hoff ((requestsSound_iff s).mpr hr))
    · rw [hring]
      change s.ring.occupancy - 1 + 1 ≤ 6
      omega

theorem ringFull_false_iff (r : Ring) : ringFull r = false ↔ r.occupancy < 6 := decide_eq_false_iff_not.trans Nat.not_le

/-- A request given a descriptor: no other exchange fills one (R158). -/
theorem fill_exchanged {s t : State} {p : Producer} {payload : List Byte} (hroom : ringFull s.ring = false)
    (hring : t.ring = fillRing p payload s.ring) (hlink : t.link = s.link)
    (hrequest : t.placement.request = s.placement.request ∨ (p = .place ∧ t.placement.request = .queued s.ring.fill))
    (horder : t.placement.orderCounter = s.placement.orderCounter) : Exchanged s t where
  ring hs := by
    obtain ⟨hspan, hhand⟩ := (ringSound_iff s).mp hs
    have hlt := (ringFull_false_iff _).mp hroom
    rw [ringSound_iff, requestsSound_iff, requestsSound_iff, hring, hlink]
    refine ⟨⟨hspan.fillRing hlt p payload, fun k => ?_⟩, fun hr => hr.fillRing hspan hlt p payload hrequest⟩
    have hsending := hhand k
    simp only [headDescriptor, fillRing, Six.get_set]
    split
    · rename_i e
      have hfree := hspan.fill_free hlt
      rw [← e, ← headDescriptor, hsending] at hfree
      exact nomatch hfree
    · exact hsending
  occupancy _ := by rw [hring]; exact (ringFull_false_iff _).mp hroom
  order := by rw [horder]; exact id
  clock := by rw [hlink]

/-- A request put on the waiting list (R159). -/
theorem wait_exchanged {s t : State} {p : Producer} {payload : List Byte} (hfull : ringFull s.ring = true)
    (hring : t.ring = putWaiting p payload s.ring) (hlink : t.link = s.link)
    (hrequest : (p ≠ .place ∧ t.placement.request = s.placement.request) ∨ (s.placement.request = .none ∧ t.placement.request = .waiting))
    (horder : t.placement.orderCounter = s.placement.orderCounter) : Exchanged s t where
  ring hs := by
    obtain ⟨hspan, hhand⟩ := (ringSound_iff s).mp hs
    have hocc : s.ring.occupancy = 6 := Nat.le_antisymm hspan.bound (of_decide_eq_true hfull)
    rw [ringSound_iff, requestsSound_iff, requestsSound_iff, hring, hlink]
    exact ⟨⟨⟨hspan.bound, hspan.fill, hspan.free⟩, hhand⟩, fun hr => hr.putWaiting hocc p payload hrequest⟩
  occupancy := by rw [hring]; exact id
  order := by rw [horder]; exact id
  clock := by rw [hlink]

theorem putLine_exchanged (change : Bool) (level : FlowLevel) (s : State) : Exchanged s (putLine change level s) := by
  simp only [putLine]
  split
  · rename_i h
    exact wait_exchanged h rfl rfl (.inl ⟨fun k => (nomatch k), rfl⟩) rfl
  · rename_i h
    exact fill_exchanged (Bool.eq_false_iff.mpr h) rfl rfl (.inl rfl) rfl

theorem lineRequest_exchanged (cfg : Settings) (change : Bool) (s : State) : Exchanged s (lineRequest cfg change s) := by
  unfold lineRequest
  split
  · exact Exchanged.refl s
  · split
    · split
      · exact putLine_exchanged change _ s
      · exact exchanged_of_same rfl rfl rfl rfl
    · exact Exchanged.refl s

theorem clearLine_same (cfg : Settings) (d : Descriptor) (s : State) :
    (clearLine (adoptCompleted cfg d s)).ring = s.ring ∧ (clearLine (adoptCompleted cfg d s)).link = s.link ∧
      (clearLine (adoptCompleted cfg d s)).placement = s.placement := by
  simp only [clearLine, adoptCompleted]
  split <;> exact ⟨rfl, rfl, rfl⟩

theorem takeStatus_same (d : Descriptor) (s : State) :
    (takeStatus d s).ring = s.ring ∧ (takeStatus d s).link = s.link ∧ (takeStatus d s).placement = s.placement := by
  unfold takeStatus
  split <;> exact ⟨rfl, rfl, rfl⟩

/-! ### The service of the head (R160, R161) -/

/-- A head done, whose completion has been taken with the ring and the link as they were, is released. -/
theorem releaseTaken_exchanged {s t : State} (hst : Exchanged s t) (hring : t.ring = s.ring)
    (hdone : (headDescriptor s.ring).state ≠ .free ∧ (headDescriptor s.ring).state ≠ .sending)
    (hoff : RequestsSound t → requestOn t.ring.head t.placement.request = false) : Exchanged s (releaseHead t) :=
  hst.trans (releaseHead_exchanged (by rw [hring]; exact hdone.1) (by rw [hring]; exact hdone.2) hoff)

/-- No request stands on a descriptor of another producer. -/
theorem RequestsSound.off_head {s : State} (h : RequestsSound s) (hproducer : (headDescriptor s.ring).producer ≠ some .place) :
    requestOn s.ring.head s.placement.request = false :=
  Bool.eq_false_iff.mpr fun k => hproducer (((requestsSound_iff s).mp h).stands _ k).1

theorem takeHead_exchanged (cfg : Settings) {s t : State}
    (hdone : (headDescriptor s.ring).state ≠ .free ∧ (headDescriptor s.ring).state ≠ .sending)
    (h : takeHead cfg (headDescriptor s.ring) s = some t) : Exchanged s t := by
  have hother : ∀ u : State, u.ring = s.ring → u.link = s.link → u.placement = s.placement →
      (headDescriptor s.ring).producer ≠ some .place → Exchanged s (releaseHead u) := fun u hring hlink hplacement hproducer =>
    releaseTaken_exchanged (exchanged_of_same hring hlink (by rw [hplacement]) (by rw [hplacement])) hring hdone
      fun hr => hr.off_head (by rw [hring]; exact hproducer)
  unfold takeHead at h
  split at h
  case h_1 hp =>
    cases h
    exact hother s rfl rfl rfl (by rw [hp]; exact fun k => nomatch k)
  case h_2 =>
    split at h
    · cases h
    · cases h
      obtain ⟨hex, hring, -, hoff⟩ := takePlace_exchanged cfg s.ring.head (headDescriptor s.ring) s
      exact releaseTaken_exchanged hex hring hdone fun _ => by rw [hring]; exact hoff
  case h_3 hp =>
    cases h
    obtain ⟨hring, hlink, hplacement⟩ := clearLine_same cfg (headDescriptor s.ring) s
    have hreleased := hother _ hring hlink hplacement (by rw [hp]; exact fun k => nomatch k)
    simp only [takeLine]
    split
    · exact hreleased.trans (lineRequest_exchanged cfg true _)
    · exact hreleased
  case h_4 hp =>
    cases h
    obtain ⟨hring, hlink, hplacement⟩ := takeStatus_same (headDescriptor s.ring) s
    exact hother _ hring hlink hplacement (by rw [hp]; exact fun k => nomatch k)

/-- A head that is neither FREE nor SENDING fails in its place (R160). -/
theorem failHead_exchanged (reason : FailReason) {s : State}
    (hstate : (headDescriptor s.ring).state ≠ .free ∧ (headDescriptor s.ring).state ≠ .sending) :
    Exchanged s (s.setRing (setDescriptor s.ring s.ring.head (failDescriptor reason (headDescriptor s.ring)))) :=
  exchanged_of_restated (setDescriptor_restated _ _ _ (iff_of_false (fun k => nomatch k) hstate.1) rfl) rfl
    (fun k => absurd k hstate.2) id (fun _ => id) id

theorem serviceOnce_exchanged (cfg : Settings) {s t : State} (h : serviceOnce cfg s = some t) : Exchanged s t := by
  have hne : ∀ {a : DescriptorState}, (headDescriptor s.ring).state = a → a ≠ .free → a ≠ .sending →
      (headDescriptor s.ring).state ≠ .free ∧ (headDescriptor s.ring).state ≠ .sending := fun e h1 h2 => by
    rw [e]
    exact ⟨h1, h2⟩
  simp only [serviceOnce] at h
  split at h
  case h_1 | h_2 => cases h
  case h_3 e =>
    split at h
    · cases h
    · cases h
      exact failHead_exchanged _ (hne e (fun k => nomatch k) fun k => nomatch k)
  case h_4 e =>
    cases h
    exact failHead_exchanged _ (hne e (fun k => nomatch k) fun k => nomatch k)
  case h_5 e | h_6 e => exact takeHead_exchanged cfg (hne e (fun k => nomatch k) fun k => nomatch k) h

theorem serviceSteps_exchanged (cfg : Settings) (fuel : Nat) (s : State) : Exchanged s (serviceSteps cfg fuel s) := by
  induction fuel generalizing s with
  | zero => exact Exchanged.refl s
  | succ n ih =>
    simp only [serviceSteps]
    split
    · exact Exchanged.refl s
    · exact (serviceOnce_exchanged cfg ‹_›).trans (ih _)

/-- The service of the head is an exchange. -/
theorem serviceHead_exchanged (cfg : Settings) (s : State) : Exchanged s (serviceHead cfg s) := serviceSteps_exchanged cfg 24 s

theorem serviceIfHead_exchanged (cfg : Settings) (i : Index) (s : State) : Exchanged s (serviceIfHead cfg i s) := by
  unfold serviceIfHead
  split
  · exact serviceHead_exchanged cfg s
  · exact Exchanged.refl s

/-! ### Cancels and yields (R82, R83, R162) -/

/-- A ring frame that is not on the line is dropped from the engine with its cancel, so that the frame in hand is SENDING (R136, R162). -/
theorem cancelDropped_exchanged (i : Index) {s : State} {q : Request} (hq : s.placement.request = .queued i)
    (hq' : q = .queued i ∨ q = .cancelRecorded i ∨ q = .none) :
    Exchanged s (dropRingFrame ((s.setRing (cancelDescriptor i (ringOnLine s) s.ring).1).setPlacement { s.placement with request := q })) := by
  have hrestated := cancelDescriptor_restated i (ringOnLine s) s.ring
  have hwaiting : s.placement.request = .waiting → q = .waiting := fun k => nomatch hq.symm.trans k
  have hstands : ∀ j, requestOn j q = true → requestOn j s.placement.request = true := fun j hj => by
    rw [hq]
    obtain rfl | rfl | rfl := hq'
    · exact hj
    · exact hj
    · exact nomatch hj
  unfold dropRingFrame
  split
  · exact ⟨ringKept_of_restated hrestated (fun _ k => nomatch k) hwaiting hstands, by exact hrestated.occupancy ▸ id, id, rfl⟩
  · rename_i hkeep
    refine ⟨ringKept_of_restated hrestated (fun hs k => ?_) hwaiting hstands, by exact hrestated.occupancy ▸ id, id, rfl⟩
    by_cases honline : ringOnLine s = true
    · exact cancelDescriptor_sending i _ s.ring (.inl honline) (hs k)
    · by_contra hne
      refine hkeep ?_
      have hoff : ringOnLine ((s.setRing (cancelDescriptor i (ringOnLine s) s.ring).1).setPlacement
        { s.placement with request := q }) = false := Bool.eq_false_iff.mpr honline
      rw [hoff]
      simp only [Bool.not_false, Bool.and_true, Bool.and_eq_true, decide_eq_true_eq]
      exact ⟨k, hne⟩

theorem cancelRequest_exchanged (cfg : Settings) {i : Index} {s : State} (hq : s.placement.request = .queued i) :
    Exchanged s (cancelRequest cfg i s).1 := by
  unfold cancelRequest
  split
  · rename_i r hvoid
    have hring : (cancelDescriptor i (ringOnLine s) s.ring).1 = r := congrArg Prod.fst hvoid
    have hended : Exchanged s ((s.setRing r).setPlacement { s.placement with request := .none }) := by
      refine exchanged_of_restated ?_ rfl (fun k => ?_) (fun k => ?_) (fun _ k => ?_) id
      · exact hring ▸ cancelDescriptor_restated i (ringOnLine s) s.ring
      · exact hring ▸ cancelDescriptor_sending i _ s.ring (.inr (congrArg Prod.snd hvoid)) k
      · exact nomatch hq.symm.trans k
      · exact nomatch k
    exact hended.trans (serviceIfHead_exchanged cfg i _)
  · rename_i r hrecorded
    have hring : (cancelDescriptor i (ringOnLine s) s.ring).1 = r := congrArg Prod.fst hrecorded
    exact hring ▸ (cancelDropped_exchanged i hq (.inr (.inl rfl))).trans (serviceIfHead_exchanged cfg i _)

/-- A WAITING request withdrawn, whatever the placement unit's record of it becomes (R163). -/
theorem withdraw_exchanged {s t : State} (hring : t.ring = withdrawWaiting .place s.ring)
    (hlink : t.link = s.link) (hrequest : t.placement.request = .waiting ∨ t.placement.request = .none)
    (horder : t.placement.orderCounter = s.placement.orderCounter) : Exchanged s t where
  ring hs := by
    obtain ⟨hspan, hhand⟩ := (ringSound_iff s).mp hs
    rw [ringSound_iff, requestsSound_iff, requestsSound_iff, hring, hlink]
    refine ⟨⟨⟨hspan.bound, hspan.fill, hspan.free⟩, hhand⟩, fun hr => withdrawWaiting_waitsSound hr fun i hi => ?_⟩
    obtain e | e := hrequest <;> rw [e] at hi <;> exact nomatch hi
  occupancy := by rw [hring]; exact id
  order := by rw [horder]; exact id
  clock := by rw [hlink]

theorem yieldBy_exchanged (cfg : Settings) (s : State) : Exchanged s (yieldBy cfg s) := by
  unfold yieldBy
  split
  · exact yieldUnrequested_exchanged cfg s
  · rename_i hq
    have hback := returnAnnounced_same { s.placement with request := .none }
    have hwithdrawn : Exchanged s ((s.setRing (withdrawWaiting .place s.ring)).setPlacement
        (returnAnnounced { s.placement with request := .none })) := withdraw_exchanged rfl rfl (.inr hback.1) hback.2
    exact hwithdrawn.trans (beginComputation_exchanged cfg _)
  · rename_i i hq
    have h := cancelRequest_exchanged cfg hq
    split
    · rename_i s1 heq
      rw [heq] at h
      exact (h.trans (setReturnAnnounced_exchanged s1.placement s1)).trans (beginComputation_exchanged cfg _)
    · rename_i s1 heq
      rw [heq] at h
      exact h
  · exact Exchanged.refl s

theorem yieldTest_exchanged (cfg : Settings) (s : State) : Exchanged s (yieldTest cfg s) := by
  unfold yieldTest
  split
  · exact yieldBy_exchanged cfg s
  · exact Exchanged.refl s

/-! ### The completion of a computation (R81, R172) -/

theorem decideRequest_exchanged (cfg : Settings) (runs : List Run) (s : State) : Exchanged s (decideRequest cfg runs s) := by
  unfold decideRequest
  split
  · exact setReturnAnnounced_exchanged s.placement s
  · split
    · rename_i hsends
      have hnone : s.placement.request = .none := of_decide_eq_true (Bool.and_eq_true_iff.mp hsends).2
      simp only [putPlace]
      split
      · rename_i h
        exact wait_exchanged h rfl rfl (.inr ⟨hnone, rfl⟩) rfl
      · rename_i h
        exact fill_exchanged (Bool.eq_false_iff.mpr h) rfl rfl (.inr ⟨rfl, rfl⟩) rfl
    · exact Exchanged.refl s

theorem takeReported_exchanged (cfg : Settings) (s : State) : Exchanged s (takeReported cfg s) := by
  simp only [takeReported]
  split
  · rename_i h
    have hdone : (headDescriptor s.ring).state ≠ .free ∧ (headDescriptor s.ring).state ≠ .sending := by
      obtain e | e := Bool.or_eq_true_iff.mp (Bool.and_eq_true_iff.mp h).2 <;>
        rw [of_decide_eq_true e] <;> exact ⟨fun k => (nomatch k), fun k => nomatch k⟩
    obtain ⟨hex, hring, -, hoff⟩ := takePlace_exchanged cfg s.ring.head (headDescriptor s.ring) s
    exact releaseTaken_exchanged hex hring hdone fun _ => by rw [hring]; exact hoff
  · exact Exchanged.refl s

theorem completeComputation_exchanged (cfg : Settings) (s : State) : Exchanged s (completeComputation cfg s) := by
  unfold completeComputation
  split
  · exact Exchanged.refl s
  · rename_i c _
    have hresult : Exchanged s (s.setPlacement { s.placement with
        computation := none, working := some (computeResult cfg c),
        map := setOwn (computeResult cfg c).runs Config.ownOrder s.placement.map }) := exchanged_of_same rfl rfl rfl rfl
    exact (((hresult.trans (decideRequest_exchanged cfg _ _)).trans (yieldTest_exchanged cfg _)).trans
      (takeReported_exchanged cfg _)).trans (serviceHead_exchanged cfg _)

/-! ### The rollover and the freeze (R88, R96) -/

theorem abandonRequest_exchanged (s : State) : Exchanged s (abandonRequest s) := by
  unfold abandonRequest
  split
  · exact Exchanged.refl s
  · rename_i hq
    exact withdraw_exchanged rfl rfl (.inl hq) rfl
  · rename_i i hq
    have h := cancelDropped_exchanged (q := s.placement.request) i hq (.inl hq)
    exact h
  · exact Exchanged.refl s

/-- After the rollover has abandoned its request, no PLACE waits, and the unit keeps no request (R96). -/
theorem endAbandoned_exchanged {s : State} {p : PlacementUnit} (hq : p.request = .none) (horder : p.orderCounter ≤ 255)
    (hnone : RequestsSound s → ∀ w ∈ s.ring.waiting, w.producer ≠ .place) : Exchanged s (s.setPlacement p) where
  ring hs := by
    refine ⟨(ringSound_iff _).mpr ((ringSound_iff s).mp hs), fun hr => (requestsSound_iff _).mpr ?_⟩
    refine ⟨hr.full, ?_, hr.once, fun i hi => ?_⟩
    · rintro ⟨w, hw, e⟩
      exact absurd e (hnone hr w hw)
    · rw [setPlacement_placement, hq] at hi
      exact nomatch hi
  occupancy := id
  order _ := horder
  clock := rfl

theorem abandonRequest_waiting (s : State) (h : RequestsSound (abandonRequest s)) :
    ∀ w ∈ (abandonRequest s).ring.waiting, w.producer ≠ .place := by
  have hkept : (abandonRequest s).placement.request = s.placement.request := by
    unfold abandonRequest
    split
    case h_3 =>
      unfold dropRingFrame
      split <;> rfl
    all_goals rfl
  by_cases hq : s.placement.request = .waiting
  · intro w hw
    unfold abandonRequest at hw
    rw [hq] at hw
    exact of_decide_eq_true (List.mem_filter.mp hw).2
  · exact ((requestsSound_iff _).mp h).no_place (by rw [hkept]; exact hq)

theorem rollover_exchanged (cfg : Settings) (s : State) : Exchanged s (rollover cfg s) :=
  ((abandonRequest_exchanged s).trans (endAbandoned_exchanged rfl (Nat.zero_le _) (abandonRequest_waiting s))).trans
    (serviceHead_exchanged cfg _)

theorem closeWindow_exchanged (cfg : Settings) (s : State) : Exchanged s (closeWindow cfg s) := by
  have h : Exchanged s (s.setPlacement { s.placement with computation := none }) := exchanged_of_same rfl rfl rfl rfl
  simp only [closeWindow]
  split
  · exact h.trans (serviceHead_exchanged cfg _)
  · rename_i hq
    have hwithdrawn : Exchanged s (((s.setPlacement { s.placement with computation := none }).setRing
        (withdrawWaiting .place s.ring)).setPlacement { s.placement with computation := none, request := .none }) :=
      withdraw_exchanged rfl rfl (.inr rfl) rfl
    exact hwithdrawn.trans (serviceHead_exchanged cfg _)
  · rename_i i hq
    exact (h.trans (cancelRequest_exchanged cfg hq)).trans (serviceHead_exchanged cfg _)
  · exact h.trans (serviceHead_exchanged cfg _)

theorem flowBoundary_exchanged (cfg : Settings) (entered : Bool) (s : State) : Exchanged s (flowBoundary cfg entered s) := by
  have hcount : ∀ t : PeerTable, Exchanged s (s.setPeers t) := fun _ => exchanged_of_same rfl rfl rfl rfl
  simp only [flowBoundary]
  split
  · split
    · exact (hcount _).trans (lineRequest_exchanged cfg false _)
    · split
      · split
        · exact (hcount _).trans (lineRequest_exchanged cfg false _)
        · exact hcount _
      · exact hcount _
  · exact Exchanged.refl s

theorem samplePin_exchanged (cfg : Settings) (s : State) : Exchanged s (samplePin cfg s) := by
  have hcount : ∀ t : PeerTable, Exchanged s (s.setPeers t) := fun _ => exchanged_of_same rfl rfl rfl rfl
  simp only [samplePin]
  split
  · split
    · exact (hcount _).trans (lineRequest_exchanged cfg true _)
    · exact hcount _
  · exact Exchanged.refl s

theorem statusFill_exchanged {s : State} {payload : List Byte} (h : refusesStatus s.ring = false) :
    Exchanged s (s.setRing (fillRing .status payload s.ring)) :=
  fill_exchanged (Bool.or_eq_false_iff.mp h).1 rfl rfl (.inl rfl) rfl

end Sys2Proof.Machine

/-! PROOFS. Every step keeps the ring, its head and the requests sound (R158 to R163), and the counts, tables and bit timing within their
bounds (R72, R101, R134, R146, R147, R169, R170). -/

namespace Sys2Proof.Machine

/-- What a part of a step does to the bounds, and to the ring and the requests. -/
structure Accounted (s t : State) : Prop where
  bounds : Bounded s → Bounded t
  ring : RingKept s t

theorem Accounted.refl (s : State) : Accounted s s := ⟨id, RingKept.refl s⟩

theorem Accounted.trans {s t u : State} (h : Accounted s t) (k : Accounted t u) : Accounted s u :=
  ⟨k.bounds ∘ h.bounds, h.ring.trans k.ring⟩

/-- An exchange with the ring that leaves the counts and tables. -/
theorem Exchanged.accounted {s t : State} (h : Exchanged s t) (k : Served s t) : Accounted s t where
  ring := h.ring
  bounds hs :=
    { tec := k.linkTec ▸ hs.tec, recv := k.linkRecv ▸ hs.recv, queue := k.queueEntries ▸ hs.queue, overflow := k.queueOverflow ▸ hs.overflow
      entries := k.peersEntries ▸ hs.entries, occupancy := h.occupancy hs.occupancy, order := h.order hs.order
      quantum := h.clock ▸ hs.quantum, unit := h.clock ▸ hs.unit }

theorem serviceHead_accounted (cfg : Settings) (s : State) : Accounted s (serviceHead cfg s) :=
  (serviceHead_exchanged cfg s).accounted (serviceHead_served cfg s)

/-- The records that the bounds and the ring speak of stand, but for the tables of the queue and the peers. -/
structure Standing (s t : State) : Prop where
  ring : t.ring = s.ring
  link : t.link = s.link
  request : t.placement.request = s.placement.request
  order : t.placement.orderCounter = s.placement.orderCounter

/-- Where those records stand, only the tables have to be looked at. -/
theorem Standing.accounted_of_tables {s t : State} (h : Standing s t)
    (hqueue : s.queue.entries.length ≤ Config.queueSize → t.queue.entries.length ≤ Config.queueSize)
    (hoverflow : s.queue.overflow ≤ 255 → t.queue.overflow ≤ 255)
    (hentries : s.peers.entries.length ≤ Config.maxEntries → t.peers.entries.length ≤ Config.maxEntries) : Accounted s t where
  ring := ringKept_of_same h.ring (by rw [h.link]) h.request
  bounds hs :=
    { tec := h.link ▸ hs.tec, recv := h.link ▸ hs.recv, queue := hqueue hs.queue, overflow := hoverflow hs.overflow
      entries := hentries hs.entries, occupancy := h.ring ▸ hs.occupancy, order := h.order ▸ hs.order
      quantum := h.link ▸ hs.quantum, unit := h.link ▸ hs.unit }

theorem Standing.accounted {s t : State} (h : Standing s t) (hqueue : t.queue = s.queue) (hpeers : t.peers = s.peers) : Accounted s t :=
  h.accounted_of_tables (by rw [hqueue]; exact id) (by rw [hqueue]; exact id) (by rw [hpeers]; exact id)

/-! ### Slot-boundary events -/

theorem ageing_length (cfg : Settings) (now : Cycle) (t : PeerTable) :
    (rolloverPeers cfg now t).entries.length ≤ t.entries.length :=
  (List.length_filter_le _ _).trans_eq (List.length_map _)

/-- Two states that differ in the records of the supervisor and the scanner alone. -/
def SupervisorScannerAlone (s t : State) : Prop := ∃ (x : Supervisor) (sc : Scanner), t = (s.setScanner sc).setSupervisor x

theorem SupervisorScannerAlone.accounted {s t : State} (h : SupervisorScannerAlone s t) : Accounted s t := by
  obtain ⟨x, sc, rfl⟩ := h
  exact Standing.accounted ⟨rfl, rfl, rfl, rfl⟩ rfl rfl

theorem boundaryDecision_supervisorScannerAlone (cfg : Settings) (s : State) : SupervisorScannerAlone s (boundaryDecision cfg s) := by
  simp only [boundaryDecision, joinBoundary, setStation]
  repeat' split
  all_goals exact ⟨_, _, rfl⟩

theorem setMainsLost_supervisorScannerAlone (s : State) : SupervisorScannerAlone s (setMainsLost s) := by
  unfold setMainsLost
  split
  case h_2 | h_3 =>
    simp only [enterMainsLost, setStation]
    split <;> exact ⟨_, _, rfl⟩
  all_goals exact ⟨_, _, rfl⟩

/-- A link with its counts and bit timing within their bounds. -/
structure LinkCounted (l m : Link) : Prop where
  tec : l.tec ≤ 255 → m.tec ≤ 255
  recv : l.recv ≤ 255 → m.recv ≤ 255
  clock : l.clock.quantum < 20 ∧ l.clock.unit < 4 → m.clock.quantum < 20 ∧ m.clock.unit < 4

theorem LinkCounted.trans {l m n : Link} (h : LinkCounted l m) (k : LinkCounted m n) : LinkCounted l n :=
  ⟨k.tec ∘ h.tec, k.recv ∘ h.recv, k.clock ∘ h.clock⟩

theorem linkCounted_of_eq {l m : Link} (htec : m.tec = l.tec) (hrecv : m.recv = l.recv) (hclock : m.clock = l.clock) : LinkCounted l m :=
  ⟨by rw [htec]; exact id, by rw [hrecv]; exact id, by rw [hclock]; exact id⟩

/-- The counts and the ring of a change at the link. -/
theorem accounted_of_link {s t : State} (hlink : LinkCounted s.link t.link) (hring : RingKept s t)
    (hoccupancy : t.ring.occupancy = s.ring.occupancy) (horder : t.placement.orderCounter = s.placement.orderCounter)
    (hqueue : t.queue = s.queue) (hpeers : t.peers = s.peers) : Accounted s t where
  ring := hring
  bounds hs :=
    { tec := hlink.tec hs.tec, recv := hlink.recv hs.recv, queue := hqueue ▸ hs.queue, overflow := hqueue ▸ hs.overflow
      entries := hpeers ▸ hs.entries, occupancy := hoccupancy ▸ hs.occupancy, order := horder ▸ hs.order
      quantum := (hlink.clock ⟨hs.quantum, hs.unit⟩).1, unit := (hlink.clock ⟨hs.quantum, hs.unit⟩).2 }

theorem setLink_accounted {s : State} {l : Link} (h : LinkCounted s.link l) (hhand : l.inHand = s.link.inHand) : Accounted s (s.setLink l) :=
  accounted_of_link h (ringKept_of_same rfl hhand rfl) rfl rfl rfl rfl

theorem setTimeBase_accounted (s : State) (t : TimeBase) : Accounted s (s.setTimeBase t) :=
  Standing.accounted ⟨rfl, rfl, rfl, rfl⟩ rfl rfl

theorem stationBoundary_accounted (cfg : Settings) (s : State) : Accounted s (stationBoundary cfg s) := by
  have hdecision := (boundaryDecision_supervisorScannerAlone cfg s).accounted
  simp only [stationBoundary]
  split
  · have hlink : LinkCounted (boundaryDecision cfg s).link (decideLink (boundaryDecision cfg s).link) ∧
        (decideLink (boundaryDecision cfg s).link).inHand = (boundaryDecision cfg s).link.inHand := by
      unfold decideLink
      split <;> exact ⟨linkCounted_of_eq rfl rfl rfl, rfl⟩
    exact hdecision.trans ((setLink_accounted hlink.1 hlink.2).trans (Standing.accounted ⟨rfl, rfl, rfl, rfl⟩ rfl rfl))
  · exact hdecision

theorem mailbox_restated (r : Ring) : Restated r (expireMailbox r) ∧ Restated r (offerTime r) := by
  constructor
  · unfold expireMailbox
    split <;> exact ⟨rfl, rfl, rfl, rfl, fun _ => Iff.rfl, fun _ => rfl⟩
  · unfold offerTime
    split <;> exact ⟨rfl, rfl, rfl, rfl, fun _ => Iff.rfl, fun _ => rfl⟩

theorem mailbox_head (r : Ring) : headDescriptor (expireMailbox r) = headDescriptor r ∧ headDescriptor (offerTime r) = headDescriptor r := by
  constructor
  · unfold expireMailbox
    split <;> rfl
  · unfold offerTime
    split <;> rfl

/-- Descriptors and mailbox restated, with a head that is SENDING left so. -/
theorem setRing_accounted {s : State} {r : Ring} (h : Restated s.ring r)
    (hsending : (headDescriptor s.ring).state = .sending → (headDescriptor r).state = .sending) : Accounted s (s.setRing r) :=
  (exchanged_of_restated (t := s.setRing r) h rfl hsending id (fun _ => id) id).accounted (setRing_served s r)

theorem demandPoint_accounted (cfg : Settings) (s : State) : Accounted s (demandPoint cfg s) := by
  have hzones : ∀ (t : State) (z : Six Zone), Accounted t (t.setZones z) := fun _ _ => Standing.accounted ⟨rfl, rfl, rfl, rfl⟩ rfl rfl
  have hbegin : ∀ t : State, Accounted t (beginComputation cfg t) := fun t =>
    (beginComputation_exchanged cfg t).accounted (beginComputation_served cfg t)
  have hsources : Accounted s (selectSources s cfg) := hzones s _
  have hhanded : ∀ t : State, Accounted t (handOver t) := fun _ => Standing.accounted ⟨rfl, rfl, rfl, rfl⟩ rfl rfl
  simp only [demandPoint]
  split
  case h_1 | h_2 => exact Accounted.refl s
  case h_3 | h_6 => exact hsources
  case h_4 => exact ((hsources.trans (hzones _ _)).trans (hhanded _)).trans (hbegin _)
  case h_5 => exact hsources.trans (hbegin _)

theorem freeze_accounted (cfg : Settings) (s : State) : Accounted s (freeze cfg s) := by
  unfold freeze
  split
  · have hinstall : ∀ t : State, Accounted t (settleFreeze cfg t) := fun _ => Standing.accounted ⟨rfl, rfl, rfl, rfl⟩ rfl rfl
    exact ((closeWindow_exchanged cfg s).accounted (closeWindow_served cfg s)).trans (hinstall _)
  · exact Accounted.refl s

theorem putStatus_accounted {s : State} (h : refusesStatus s.ring = false) : Accounted s (putStatus s) :=
  ((statusFill_exchanged h).accounted (setRing_served _ _)).trans
    (Standing.accounted_of_tables (t := putStatus s) ⟨rfl, rfl, rfl, rfl⟩ id id id)

theorem statusPoint_accounted (cfg : Settings) (s : State) : Accounted s (statusPoint cfg s) := by
  have hcount : Accounted s (s.setSupervisor { s.supervisor with periodCount := saturate 255 (s.supervisor.periodCount + 1) }) :=
    SupervisorScannerAlone.accounted ⟨_, _, rfl⟩
  simp only [statusPoint]
  split
  · split
    · rename_i h
      have hroom := (Bool.not_eq_true' _).mp (Bool.and_eq_true_iff.mp h).2
      exact hcount.trans ((putStatus_accounted hroom).trans (serviceHead_accounted cfg _))
    · exact hcount
  · exact Accounted.refl s

/-- The rollover begins the order counter again, and is an exchange otherwise (R96). -/
theorem rollover_accounted (cfg : Settings) (s : State) : Accounted s (rollover cfg s) := by
  refine ((abandonRequest_exchanged s).accounted (abandonRequest_served s)).trans (Accounted.trans ?_ (serviceHead_accounted cfg _))
  have hended := endAbandoned_exchanged (p := rolloverRecord (dropReleased s (s.placement.frozen.getD [])) (abandonRequest s).placement)
    rfl (Nat.zero_le _) (abandonRequest_waiting s)
  exact ⟨fun hs => ⟨hs.tec, hs.recv, hs.queue, hs.overflow, hs.entries, hs.occupancy, hended.order hs.order, hs.quantum, hs.unit⟩, hended.ring⟩

theorem accounted_eventClosed (cfg : Settings) (s₀ : State) : EventClosed cfg (Accounted s₀) where
  timeBase s t h := h.trans (setTimeBase_accounted s t)
  complete s h := h.trans ((completeComputation_exchanged cfg s).accounted (completeComputation_served cfg s))
  mailbox s r hr h := by
    obtain rfl | rfl := hr
    · exact h.trans (setRing_accounted (mailbox_restated _).1 (by rw [(mailbox_head _).1]; exact id))
    · exact h.trans (setRing_accounted (mailbox_restated _).2 (by rw [(mailbox_head _).2]; exact id))
  station s _ h := h.trans (stationBoundary_accounted cfg s)
  rollover s h := h.trans (rollover_accounted cfg s)
  peers s now h := h.trans
    (Standing.accounted_of_tables ⟨rfl, rfl, rfl, rfl⟩ id id ((ageing_length cfg now s.peers).trans))
  permits _ h := h.trans (Standing.accounted ⟨rfl, rfl, rfl, rfl⟩ rfl rfl)
  flow entered s h := h.trans ((flowBoundary_exchanged cfg entered s).accounted (flowBoundary_served cfg entered s))
  drive _ _ h := h.trans (Standing.accounted ⟨rfl, rfl, rfl, rfl⟩ rfl rfl)
  arm _ _ _ h := h.trans (Standing.accounted ⟨rfl, rfl, rfl, rfl⟩ rfl rfl)
  sample s h := h.trans ((samplePin_exchanged cfg s).accounted (samplePin_served cfg s))
  demand s _ h := h.trans (demandPoint_accounted cfg s)
  freeze s h := h.trans (freeze_accounted cfg s)
  status s h := h.trans (statusPoint_accounted cfg s)

theorem accounted_timingClosed (s₀ : State) : TimingClosed (Accounted s₀) where
  event cfg := accounted_eventClosed cfg s₀
  timeBase s t h := h.trans (setTimeBase_accounted s t)
  flowPin _ _ h := h.trans (Standing.accounted ⟨rfl, rfl, rfl, rfl⟩ rfl rfl)
  scanner _ _ h := h.trans (Standing.accounted ⟨rfl, rfl, rfl, rfl⟩ rfl rfl)
  report _ h := h.trans (Standing.accounted ⟨rfl, rfl, rfl, rfl⟩ rfl rfl)
  loss s h := h.trans (setMainsLost_supervisorScannerAlone s).accounted

end Sys2Proof.Machine

/-! PROOFS. What the line does to the ring, the requests and the counts: receiving, sending and the bit timing (R134 to R156). -/

namespace Sys2Proof.Machine

/-! ### The counts of the link (R146 to R152) -/

/-- A change at the link that keeps its counts within bounds and leaves the frame in hand. -/
def LinkKept (l m : Link) : Prop := LinkCounted l m ∧ m.inHand = l.inHand

theorem LinkKept.trans {l m n : Link} (h : LinkKept l m) (k : LinkKept m n) : LinkKept l n := ⟨h.1.trans k.1, k.2.trans h.2⟩

theorem linkKept_of_eq {l m : Link} (htec : m.tec = l.tec) (hrecv : m.recv = l.recv) (hclock : m.clock = l.clock)
    (hhand : m.inHand = l.inHand) : LinkKept l m := ⟨linkCounted_of_eq htec hrecv hclock, hhand⟩

theorem LinkKept.accounted {s : State} {l : Link} (h : LinkKept s.link l) : Accounted s (s.setLink l) := setLink_accounted h.1 h.2

theorem evalLink_linkKept (l : Link) : LinkKept l (evalLink l) := by
  unfold evalLink
  repeat' split
  all_goals exact linkKept_of_eq rfl rfl rfl rfl

theorem tecUp_linkKept (l : Link) : LinkKept l (tecUp l) := by
  unfold tecUp
  split
  · refine LinkKept.trans (m := { l with tec := saturate 255 (l.tec + 4) }) ?_ (evalLink_linkKept _)
    exact ⟨⟨fun _ => Nat.min_le_left _ _, id, id⟩, rfl⟩
  · exact evalLink_linkKept l

theorem tecDown_linkKept (l : Link) : LinkKept l (tecDown l) := by
  unfold tecDown
  split
  · refine LinkKept.trans (m := { l with tec := l.tec - 1 }) ?_ (evalLink_linkKept _)
    exact ⟨⟨(Nat.sub_le _ _).trans, id, id⟩, rfl⟩
  · exact evalLink_linkKept l

theorem recUp_linkKept (l : Link) : LinkKept l (recUp l) := by
  unfold recUp
  split
  · refine LinkKept.trans (m := { l with recv := saturate 255 (l.recv + 2) }) ?_ (evalLink_linkKept _)
    exact ⟨⟨id, fun _ => Nat.min_le_left _ _, id⟩, rfl⟩
  · exact evalLink_linkKept l

theorem recDown_linkKept (l : Link) : LinkKept l (recDown l) := by
  unfold recDown
  split
  · refine LinkKept.trans (m := { l with recv := l.recv - 1 }) ?_ (evalLink_linkKept _)
    exact ⟨⟨id, (Nat.sub_le _ _).trans, id⟩, rfl⟩
  · exact evalLink_linkKept l

theorem quietBit_linkKept (l : Link) (b : Bool) : LinkKept l (quietBit l b) := by
  unfold quietBit
  split_ifs
  case neg => exact ⟨⟨fun _ => Nat.zero_le _, fun _ => Nat.zero_le _, id⟩, rfl⟩
  all_goals exact linkKept_of_eq rfl rfl rfl rfl

theorem quietBits_linkKept (bits : List Bool) (l : Link) : LinkKept l (bits.foldl quietBit l) := by
  induction bits generalizing l with
  | nil => exact linkKept_of_eq rfl rfl rfl rfl
  | cons b bits ih => exact (quietBit_linkKept l b).trans (ih _)

/-! ### Bits that no other operation takes (R135, R152) -/

theorem quietBits_accounted (bits : List Bool) (s : State) : Accounted s (quietBits bits s) := (quietBits_linkKept bits s.link).accounted

theorem startReception_accounted (s : State) : Accounted s (startReception s) :=
  (setTimeBase_accounted s _).trans (LinkKept.accounted (by exact linkKept_of_eq rfl rfl rfl rfl))

theorem trackBit_accounted (s : State) (b : Bool) : Accounted s (trackBit s b) := by
  have hset : ∀ l : Link, LinkKept s.link l → Accounted s (s.setLink l) := fun _ h => h.accounted
  unfold trackBit
  split
  · split_ifs <;> exact hset _ (linkKept_of_eq rfl rfl rfl rfl)
  · split
    · exact hset _ (linkKept_of_eq rfl rfl rfl rfl)
    · exact startReception_accounted s
  · split
    · exact Accounted.refl s
    · exact hset _ (linkKept_of_eq rfl rfl rfl rfl)
  · exact hset _ (linkKept_of_eq rfl rfl rfl rfl)

theorem sampleBits_accounted (bits : List Bool) (s : State) : Accounted s (sampleBits bits s) := by
  induction bits generalizing s with
  | nil => exact Accounted.refl s
  | cons b bits ih =>
    refine Accounted.trans ?_ (ih (sampleBit s b))
    unfold sampleBit
    split
    · exact trackBit_accounted s b
    · exact (trackBit_accounted s b).trans (quietBits_accounted [b] _)

theorem leaveFrame_accounted (ack reject : Bool) (s : State) : Accounted s (leaveFrame ack reject s) :=
  (setTimeBase_accounted s _).trans (LinkKept.accounted (by exact linkKept_of_eq rfl rfl rfl rfl))

/-! ### Receiving (R140 to R143, R155, R156, R169, R170) -/

theorem receptionError_accounted (s : State) : Accounted s (receptionError s) := by
  have hcount := (recUp_linkKept s.link).accounted
  have hview : ∀ t : State, Accounted t (markView t) := fun _ => Standing.accounted ⟨rfl, rfl, rfl, rfl⟩ rfl rfl
  simp only [receptionError]
  split
  · exact hcount.trans (leaveFrame_accounted _ _ _)
  · exact (hcount.trans (hview _)).trans (leaveFrame_accounted _ _ _)

/-- READY and SENDING descriptors fail with a frame taken out of hand (R151, R156, R164). -/
theorem detach_accounted {s : State} {l : Link} (hcounts : LinkCounted s.link l) (hhand : l.inHand = none) :
    Accounted s ((s.setRing (detachRing s.ring)).setLink l) := by
  refine accounted_of_link hcounts (ringKept_of_restated (detachRing_restated s.ring) (fun _ k => ?_) id fun _ => id) rfl rfl rfl rfl
  rw [setLink_link, hhand] at k
  exact nomatch k

theorem clashTest_accounted (cfg : Settings) (f : Frame) (s : State) : Accounted s (clashTest cfg f s) := by
  unfold clashTest
  split
  · have hdetached : Accounted s ((s.setRing (detachRing s.ring)).setLink
        { s.link with state := .listenOnly, clash := true, inHand := none }) :=
      detach_accounted (linkCounted_of_eq rfl rfl rfl) rfl
    exact hdetached.trans (serviceHead_accounted cfg _)
  · exact Accounted.refl s

theorem giveAddress_accounted (cfg : Settings) (a : Nat) (s : State) : Accounted s (giveAddress cfg a s) := by
  simp only [giveAddress]
  split <;> exact setTimeBase_accounted s _

theorem numberFrame_accounted (f : Frame) (s : State) : Accounted s (numberFrame f s) := by
  unfold numberFrame
  split
  · refine ⟨fun hs => ?_, ringKept_of_same rfl rfl rfl⟩
    exact ⟨hs.tec, hs.recv, hs.queue, hs.overflow, hs.entries, hs.occupancy, Nat.min_le_left _ _, hs.quantum, hs.unit⟩
  · exact Accounted.refl s

theorem arrive_accounted (f : Frame) (routes : Routes) (order : Nat) (s : State) : Accounted s (arrive f routes order s) := by
  simp only [arrive]
  split
  · have hcounted : Accounted s (s.setQueue { s.queue with overflow := saturate 255 (s.queue.overflow + 1) }) :=
      Standing.accounted_of_tables ⟨rfl, rfl, rfl, rfl⟩ id (fun _ => Nat.min_le_left _ _) id
    split
    · exact hcounted.trans (Standing.accounted ⟨rfl, rfl, rfl, rfl⟩ rfl rfl)
    · exact hcounted
  · rename_i hroom
    refine Standing.accounted_of_tables ⟨rfl, rfl, rfl, rfl⟩ (fun _ => ?_) id id
    have hlt : s.queue.entries.length < Config.queueSize := Nat.lt_of_not_le fun k => hroom (decide_eq_true k)
    simpa using hlt

theorem takeFrame_accounted (cfg : Settings) (f : Frame) {s : State} (hcfg : s.loader.settled = some cfg) :
    Accounted s (takeFrame cfg f s) := by
  unfold takeFrame
  split
  · have hnumbered := ((giveAddress_accounted cfg f.source s).trans (clashTest_accounted cfg f _)).trans (numberFrame_accounted f _)
    have hkept := ((giveAddress_lineKept cfg f.source s).trans (clashTest_lineKept cfg f _)).trans (numberFrame_lineKept f _)
    simp only [handOn, filterFrame]
    split
    · exact takeTime_keeps (accounted_eventClosed cfg s) _ _ ((congrArg Loader.settled hkept.loader).trans hcfg) hnumbered
    · split
      · exact hnumbered.trans (arrive_accounted _ _ _ _)
      · exact hnumbered
  · exact Standing.accounted_of_tables ⟨rfl, rfl, rfl, rfl⟩ id id id

theorem receptionEnd_accounted (cfg : Settings) (rx : Reception) (bits : List Bool) {s : State} (hcfg : s.loader.settled = some cfg) :
    Accounted s (receptionEnd cfg rx bits s) := by
  have hset : ∀ (t : State) (l : Link), LinkKept t.link l → Accounted t (t.setLink l) := fun _ _ h => h.accounted
  simp only [receptionEnd]
  split
  case h_1 => exact (hset s _ (by exact linkKept_of_eq rfl rfl rfl rfl)).trans (quietBits_accounted bits _)
  case h_2 | h_3 => exact ((quietBits_accounted _ s).trans (receptionError_accounted _)).trans (sampleBits_accounted _ _)
  case h_4 => exact ((quietBits_accounted _ s).trans (leaveFrame_accounted _ _ _)).trans (sampleBits_accounted _ _)
  case h_5 f rest _ =>
    have hquiet := quietBits_accounted (bits.take (bits.length - rest.length)) s
    have hdown := hset (quietBits (bits.take (bits.length - rest.length)) s)
      { recDown (quietBits (bits.take (bits.length - rest.length)) s).link with
        tracking := .idle 0, reception := none, ackDriven := (takeRxBits s.link bits rx).ack.getD false, rejectDriven := false }
      ((recDown_linkKept _).trans (linkKept_of_eq rfl rfl rfl rfl))
    have htaken := (hquiet.trans hdown).trans (takeFrame_accounted cfg f hcfg)
    exact (htaken.trans (setTimeBase_accounted _ _)).trans (sampleBits_accounted _ _)

/-! ### Sending (R136 to R139, R145, R160, R164) -/

/-- A change of the head in its place, together with the frame in hand. -/
theorem headSet_accounted {s : State} {d : Descriptor} {l : Link} (hcounts : LinkCounted s.link l)
    (hfree : RingSound s → (d.state = .free ↔ (headDescriptor s.ring).state = .free))
    (hproducer : d.producer = (headDescriptor s.ring).producer) (hhand : l.inHand = some .ring → d.state = .sending) :
    Accounted s ((s.setRing (setDescriptor s.ring s.ring.head d)).setLink l) := by
  refine accounted_of_link hcounts (fun hs => ?_) rfl rfl rfl rfl
  refine ringKept_of_restated (setDescriptor_restated _ _ _ (hfree hs) hproducer) (fun _ k => ?_) id (fun _ => id) hs
  have hhead : headDescriptor ((s.setRing (setDescriptor s.ring s.ring.head d)).setLink l).ring = d := by
    simp [headDescriptor, setDescriptor]
  rw [hhead]
  exact hhand k

/-- A change of the mailbox, together with the frame in hand. -/
theorem mailboxSet_accounted {s : State} {m : Mailbox} {l : Link} (hcounts : LinkCounted s.link l) (hhand : l.inHand ≠ some .ring) :
    Accounted s ((s.setRing { s.ring with mailbox := m }).setLink l) :=
  accounted_of_link hcounts
    (ringKept_of_restated ⟨rfl, rfl, rfl, rfl, fun _ => Iff.rfl, fun _ => rfl⟩ (fun _ k => absurd k hhand) id fun _ => id) rfl rfl rfl rfl

/-- The frame in hand taken away, with the ring as it is. -/
theorem dropInHand_accounted {s : State} {l : Link} (hcounts : LinkCounted s.link l) (hhand : l.inHand = none) : Accounted s (s.setLink l) :=
  accounted_of_link hcounts
    (ringKept_of_restated (Restated.refl _) (fun _ k => by rw [setLink_link, hhand] at k; exact nomatch k) id fun _ => id) rfl rfl rfl rfl

/-- The end of a frame in hand keeps the ring sound: a ring frame in hand is the head, and SENDING (R145, R160). -/
theorem completeInHand_accounted (reason : Option FailReason) (s : State) : Accounted s (completeInHand reason s) := by
  have hcounts : LinkCounted s.link { s.link with inHand := none, attempt := none } := linkCounted_of_eq rfl rfl rfl
  simp only [completeInHand]
  split
  case h_1 => exact dropInHand_accounted hcounts rfl
  case h_2 => exact mailboxSet_accounted hcounts fun k => nomatch k
  case h_3 hring =>
    refine headSet_accounted hcounts (fun hs => iff_of_false (fun k => ?_) fun k => ?_) rfl fun k => nomatch k
    · split at k <;> exact nomatch k
    · exact nomatch k.symm.trans (hs.inHand hring)

theorem serveCompleted_accounted (cfg : Settings) (reason : Option FailReason) (s : State) :
    Accounted s (serviceHead cfg (completeInHand reason s)) :=
  (completeInHand_accounted reason s).trans (serviceHead_accounted cfg _)

theorem loseArbitration_accounted (cfg : Settings) (samples : List Bool) (s : State) : Accounted s (loseArbitration cfg samples s) := by
  have hlost : Accounted s (s.setLink { s.link with
      tracking := .inFrame samples.length, attempt := none, reception := some (takeRxBits s.link samples Reception.opened) }) :=
    LinkKept.accounted (by exact linkKept_of_eq rfl rfl rfl rfl)
  simp only [loseArbitration]
  split
  · exact hlost.trans (serveCompleted_accounted cfg _ _)
  · exact hlost

theorem setTries_linkKept (t : Tries) (l : Link) : LinkKept l (setTries t l) := by
  unfold setTries
  split <;> exact linkKept_of_eq rfl rfl rfl rfl

theorem settleFailure_accounted (cfg : Settings) (ackError : Bool) (s : State) : Accounted s (settleFailure cfg ackError s) := by
  have htries := (setTries_linkKept (countFailure ackError (triesInHand s.link)) s.link).accounted
  have hset : ∀ (t : State) (l : Link), LinkKept t.link l → Accounted t (t.setLink l) := fun _ _ h => h.accounted
  have hdetach : ∀ t : State, Accounted t (enterDetached cfg t) := fun t => by
    have hdetached : Accounted t ((t.setRing (detachRing t.ring)).setLink { t.link with inHand := none, attempt := none }) :=
      detach_accounted (linkCounted_of_eq rfl rfl rfl) rfl
    exact hdetached.trans (serviceHead_accounted cfg _)
  simp only [settleFailure]
  split
  · exact htries.trans (hdetach _)
  · split
    · exact htries.trans (serveCompleted_accounted cfg _ _)
    · split
      · exact htries.trans (serveCompleted_accounted cfg _ _)
      · exact htries.trans (hset _ _ (by exact linkKept_of_eq rfl rfl rfl rfl))

theorem attemptBits_accounted (cfg : Settings) (bits : List Bool) (a : Attempt) (s : State) : Accounted s (attemptBits cfg bits a s) := by
  have hset : ∀ (t : State) (l : Link), LinkKept t.link l → Accounted t (t.setLink l) := fun _ _ h => h.accounted
  have hup := (tecUp_linkKept s.link).accounted
  have hfailed : ∀ (ackError : Bool) (rest : List Bool) (t : State), Accounted s t →
      Accounted s (sampleBits rest (settleFailure cfg ackError t)) := fun ackError rest t h =>
    (h.trans (settleFailure_accounted cfg ackError t)).trans (sampleBits_accounted rest _)
  simp only [attemptBits]
  split
  case h_1 => exact hset s _ (by exact linkKept_of_eq rfl rfl rfl rfl)
  case h_2 => exact loseArbitration_accounted cfg _ s
  case h_3 =>
    simp only [bitErrorEnd]
    split
    · exact hfailed _ _ _ (hup.trans (leaveFrame_accounted _ _ _))
    · exact hfailed _ _ _ (hup.trans (hset _ _ (by exact linkKept_of_eq rfl rfl rfl rfl)))
  case h_4 =>
    simp only [ackErrorEnd]
    refine hfailed _ _ _ ?_
    split
    · exact hup.trans (leaveFrame_accounted _ _ _)
    · exact leaveFrame_accounted _ _ s
  case h_5 => exact hfailed _ _ _ (hup.trans (leaveFrame_accounted _ _ _))
  case h_6 =>
    have hleft := (tecDown_linkKept s.link).accounted.trans (leaveFrame_accounted false false _)
    have hidle := hleft.trans (hset _ { (leaveFrame false false (s.setLink (tecDown s.link))).link with tracking := .idle 0 }
      (linkKept_of_eq rfl rfl rfl rfl))
    exact (hidle.trans (serveCompleted_accounted cfg none _)).trans (sampleBits_accounted _ _)

theorem firstBits_accounted (cfg : Settings) (bits : List Bool) (s : State) : Accounted s (firstBits cfg bits s) := by
  have hset : ∀ (t : State) (l : Link), LinkKept t.link l → Accounted t (t.setLink l) := fun _ _ h => h.accounted
  unfold firstBits
  split
  · exact Accounted.refl s
  · split
    · exact loseArbitration_accounted cfg _ s
    · exact hset s _ (by exact linkKept_of_eq rfl rfl rfl rfl)

/-- The bit timing after the own Start bit is within its bit (R134). -/
theorem started_counted (l m : Link) (driving : Bool) (htec : m.tec = l.tec) (hrecv : m.recv = l.recv)
    (hclock : m.clock = BitClock.started driving) : LinkCounted l m :=
  ⟨by rw [htec]; exact id, by rw [hrecv]; exact id, fun _ => by rw [hclock]; exact ⟨Nat.lt_add_of_pos_right (n := 14) (k := 6) (Nat.succ_pos 5), Nat.zero_lt_succ 3⟩⟩

/-- A frame taken in hand: the head is SENDING from its first Start bit on (R136, R160). -/
theorem takeInHand_accounted (cfg : Settings) (s : State) : Accounted s (takeInHand cfg s) := by
  have hbase : ∀ (t : State) (b : TimeBase) (l : Link) (r : Ring), Accounted s ((t.setRing r).setLink l) →
      Accounted s ((((t.setRing r).setLink l).setTimeBase b)) := fun t b l r h => h.trans (setTimeBase_accounted _ b)
  simp only [takeInHand]
  split
  · split
    · exact Accounted.refl s
    · rename_i p _
      split
      · rename_i hstate
        have hsent := headSet_accounted (s := s) (d := { headDescriptor s.ring with state := .sending })
          (l := (sendRing cfg p (headDescriptor s.ring) s).link) (started_counted _ _ true rfl rfl rfl)
          (fun _ => iff_of_false (fun k => nomatch k) fun k => by rw [k] at hstate; exact hstate.elim (fun k => nomatch k) fun k => nomatch k)
          rfl fun _ => rfl
        exact hbase s (stampStart s.timeBase) _ _ hsent
      · exact Accounted.refl s
  · have hsent := mailboxSet_accounted (s := s) (m := .started) (l := (sendTime cfg s).link) (started_counted _ _ true rfl rfl rfl)
      fun k => nomatch k
    exact hbase s (stampStart s.timeBase) _ _ hsent

theorem countRecessive_accounted (n : Nat) (s : State) : Accounted s (countRecessive n s) := by
  have hset : ∀ (t : State) (l : Link), LinkKept t.link l → Accounted t (t.setLink l) := fun _ _ h => h.accounted
  unfold countRecessive
  split
  case h_2 count _ =>
    have hcounted := hset s { s.link with tracking := .idle (count + n) } (linkKept_of_eq rfl rfl rfl rfl)
    simp only
    split
    · exact hcounted.trans (quietBits_accounted _ _)
    · exact hcounted
  all_goals exact Accounted.refl s

/-! ### The bit timing (R134) -/

theorem quantumUnits_le (code : Nat) : quantumUnits code ≤ 4 := by
  unfold quantumUnits bitTimeMicros
  split <;> decide

theorem takeEdge_unit (l : Link) (c : BitClock) : (takeEdge l c).unit = c.unit := by
  unfold takeEdge endBit beginBit
  split_ifs <;> rfl

theorem endQuantum_unit (view : List Bool → Link) (level : Bool) (p : Sampling) :
    (endQuantum view level p).clock.unit = p.clock.unit := by
  have hend : ∀ (l : Link) (c : BitClock), (endBit l c).unit = c.unit := fun l c => by
    unfold endBit beginBit
    split <;> rfl
  simp only [endQuantum, hend]
  split <;> simp only [sampleLevel] <;> split <;> simp only [takeEdge_unit]

/-- One level of a wave leaves the bit timing within its bit. -/
theorem takeLevel_bounded (units : Nat) (hunits : units ≤ 4) (view : List Bool → Link) (p : Sampling) (level : Bool)
    (h : p.clock.quantum < 20 ∧ p.clock.unit < 4) :
    (takeLevel units view p level).clock.quantum < 20 ∧ (takeLevel units view p level).clock.unit < 4 := by
  unfold takeLevel
  split
  · rename_i hlt
    exact ⟨h.1, Nat.lt_of_lt_of_le hlt hunits⟩
  · exact ⟨endQuantum_quantum view level _, by rw [endQuantum_unit]; exact Nat.zero_lt_succ 3⟩

theorem sampleWave_bounded (units : Nat) (hunits : units ≤ 4) (view : List Bool → Link) (clock : BitClock) (before : Bool)
    (levels : List Bool) (h : clock.quantum < 20 ∧ clock.unit < 4) :
    (sampleWave units view clock before levels).clock.quantum < 20 ∧ (sampleWave units view clock before levels).clock.unit < 4 := by
  refine List.foldlRecOn (motive := fun p : Sampling => p.clock.quantum < 20 ∧ p.clock.unit < 4) levels _ ?_
    fun p hp level _ => takeLevel_bounded units hunits view p level hp
  simp only [clockAtStart]
  split
  · exact ⟨Nat.zero_lt_succ 19, h.2⟩
  · exact h

/-- What the bits of a command do, its line does: the bit timing stays within its bit. -/
theorem takeBits_accounted {cfg : Settings} {f : List Bool → State → State} {s : State} (h : ∀ bits, Accounted s (f bits s)) (line : Line) :
    Accounted s (takeBits cfg f line s) := by
  cases line with
  | sampled bits => exact h bits
  | wave before levels =>
    obtain ⟨hbounds, hring⟩ := h (sampleWave (quantumUnits cfg.bitRate) (fun bits => onLine cfg (f bits s)) s.link.clock before levels).bits
    refine ⟨fun hs => ?_, hring.trans (ringKept_of_same rfl rfl rfl)⟩
    have hclock := sampleWave_bounded (quantumUnits cfg.bitRate) (quantumUnits_le _) (fun bits => onLine cfg (f bits s)) s.link.clock before
      levels ⟨hs.quantum, hs.unit⟩
    have ht := hbounds hs
    exact ⟨ht.tec, ht.recv, ht.queue, ht.overflow, ht.entries, ht.occupancy, ht.order, hclock.1, hclock.2⟩

theorem chanceStep_accounted (cfg : Settings) (recessive : Nat) (line : Line) (s : State) : Accounted s (chanceStep cfg recessive line s) := by
  have htaken := (countRecessive_accounted recessive s).trans (takeInHand_accounted cfg _)
  simp only [chanceStep]
  split
  · split
    · exact htaken.trans (takeBits_accounted (fun bits => firstBits_accounted cfg bits _) line)
    · exact htaken
  · exact countRecessive_accounted recessive s

/-! ### The dispatcher (R101 to R103, R171) -/

theorem recordPlacement_length (address : Nat) (runs : List Run) (order : Nat) (target : Byte) {t : PeerTable}
    (h : t.entries.length ≤ Config.maxEntries) : (recordPlacement address runs order target t).entries.length ≤ Config.maxEntries := by
  unfold recordPlacement
  split
  · exact (List.length_map _).trans_le h
  · split
    · exact h
    · rename_i hroom
      have hlt : t.entries.length < Config.maxEntries := by
        refine Nat.lt_of_not_le fun k => hroom ?_
        rw [decide_eq_true k, Bool.or_true]
      simpa using hlt

theorem deliverBoundaries_length (e : QueueEntry) (t : PeerTable) : (deliverBoundaries e t).entries.length ≤ t.entries.length := by
  simp only [deliverBoundaries, groupChange]
  split
  · exact Nat.le_refl _
  · split
    · exact Nat.le_refl _
    · exact List.length_filter_le _ _

theorem dispatchHead_accounted (cfg : Settings) (s : State) : Accounted s (dispatchHead cfg s) := by
  unfold dispatchHead
  split
  · exact Accounted.refl s
  · split
    · exact Accounted.refl s
    · rename_i e es hentries
      have hhead : Accounted s (s.setQueue { s.queue with entries := es }) := by
        refine Standing.accounted_of_tables ⟨rfl, rfl, rfl, rfl⟩ (fun h => Nat.le_trans ?_ h) id id
        rw [hentries]
        exact Nat.le_succ _
      have hpeers : ∀ (t : State) (x : PeerTable),
          (t.peers.entries.length ≤ Config.maxEntries → x.entries.length ≤ Config.maxEntries) → Accounted t (t.setPeers x) := fun _ _ h =>
        Standing.accounted_of_tables ⟨rfl, rfl, rfl, rfl⟩ id id h
      have hplacement : ∀ (t : State) (m : List Contribution), Accounted t (t.setPlacement { t.placement with map := m }) := fun _ _ =>
        Standing.accounted ⟨rfl, rfl, rfl, rfl⟩ rfl rfl
      have hyield : ∀ t : State, Accounted t (yieldTest cfg t) := fun t => (yieldTest_exchanged cfg t).accounted (yieldTest_served cfg t)
      split
      · simp only [dispatchPlace]
        split
        · exact hhead.trans (Standing.accounted_of_tables ⟨rfl, rfl, rfl, rfl⟩ id id id)
        · have hboundary := hhead.trans (hpeers _ (deliverBoundaries e s.peers) (deliverBoundaries_length e _).trans)
          split
          · simp only [deliverPlacement]
            split
            · exact hboundary
            · exact ((hboundary.trans (hpeers _ _ (recordPlacement_length _ _ _ _))).trans (hplacement _ _)).trans (hyield _)
          · exact hboundary
      · exact hhead.trans (hpeers _ _ id)

end Sys2Proof.Machine

/-! PROOFS. Every step keeps the ring and the requests sound and the counts within their bounds; reset meets the invariants. -/

namespace Sys2Proof.Machine

/-! ### The reset values -/

theorem reset_spanSound : SpanSound Ring.reset where
  bound := Nat.zero_le _
  fill := by decide
  free i := iff_of_true (by rw [Ring.reset, Six.get_fill]; rfl) ((occupied_false_iff _ _).mpr (Nat.zero_le _))

theorem reset_waitsSound : WaitsSound Ring.reset .none where
  full h := absurd rfl h
  waits := by
    rintro ⟨w, hw, -⟩
    exact absurd hw List.not_mem_nil
  once := Nat.zero_le _
  stands _ h := nomatch h

/-- Every reset gives the ring, the requests, the counts and the tables their reset values (R98, R115, R157, R174). -/
theorem accounted_of_reset {t : State} (hring : t.ring = Ring.reset) (hlink : t.link = Link.reset)
    (hplacement : t.placement = PlacementUnit.reset) (hqueue : t.queue = ReceiveQueue.reset) (hpeers : t.peers = PeerTable.reset) :
    RingSound t ∧ RequestsSound t ∧ Bounded t := by
  refine ⟨(ringSound_iff t).mpr ⟨hring ▸ reset_spanSound, fun k => ?_⟩, (requestsSound_iff t).mpr ?_, ?_⟩
  · rw [hlink] at k
    exact nomatch k
  · rw [hring, hplacement]
    exact reset_waitsSound
  · constructor
    case tec | recv | quantum | unit => rw [hlink]; decide
    case queue | overflow => rw [hqueue]; decide
    case entries => rw [hpeers]; decide
    case occupancy => rw [hring]; decide
    case order => rw [hplacement]; decide

/-! ### Every move -/

theorem TestKept.accounted {s t : State} (h : TestKept s t) : Accounted s t :=
  Standing.accounted ⟨by rw [← h.rest], by rw [← h.rest], by rw [← h.rest], by rw [← h.rest]⟩ (by rw [← h.rest]) (by rw [← h.rest])

theorem LoaderKept.accounted {s t : State} (h : LoaderKept s t) : Accounted s t := by
  have hlink : { t.link with loopback := s.link.loopback } = s.link := h.link
  refine accounted_of_link (linkCounted_of_eq ?_ ?_ ?_) (ringKept_of_same h.ring ?_ (by rw [h.placement])) (by rw [h.ring])
    (by rw [h.placement]) h.queue h.peers
  all_goals rw [← hlink]

theorem setStation_supervisorScannerAlone (s : State) (x : StationState) : SupervisorScannerAlone s (setStation s x) := by
  unfold setStation
  split <;> exact ⟨_, _, rfl⟩

/-- A part of the window or the scan that changes one record alone. -/
theorem scanner_accounted (s : State) (sc : Scanner) : Accounted s (s.setScanner sc) := Standing.accounted ⟨rfl, rfl, rfl, rfl⟩ rfl rfl

theorem windowStep_accounted (cfg : Settings) (currents : Six Nat) (voltage : Nat) (s : State) :
    Accounted s (windowStep cfg currents voltage s) := by
  unfold windowStep
  split
  · exact scanner_accounted s _
  · rename_i w _
    have hsag : ∀ u : State, Accounted u (sagReport cfg w u) := fun u => by
      unfold sagReport
      split
      · exact Standing.accounted ⟨rfl, rfl, rfl, rfl⟩ rfl rfl
      · exact Accounted.refl u
    have htests := foldl_keeps (P := Accounted s) (fun t z ht => ht.trans (heaterTests_testKept cfg t z).accounted) indexes
      ((scanner_accounted s (applyWindow cfg w currents voltage s.scanner)).trans (hsag _))
    unfold collapseReport
    split
    · exact htests.trans (setMainsLost_supervisorScannerAlone _).accounted
    · exact htests

theorem Move.accounted {c : Instr} {s t : State} (h : Move c s t) : Accounted s t := by
  have hflow : ∀ flow : Bool, Accounted s (s.setFlowPin flow) := fun _ => Standing.accounted ⟨rfl, rfl, rfl, rfl⟩ rfl rfl
  have hset : ∀ (t : State) (l : Link), LinkKept t.link l → Accounted t (t.setLink l) := fun _ _ h => h.accounted
  cases h
  case idle => exact Accounted.refl s
  case reset =>
    obtain ⟨hring, hrequests, hbounds⟩ := accounted_of_reset (t := beginReset _ _ s) rfl rfl rfl rfl rfl
    exact ⟨fun _ => hbounds, fun _ => ⟨hring, fun _ => hrequests⟩⟩
  case resetEnd =>
    have hbegun : Accounted s ((s.setSupervisor { s.supervisor with cause := causeOf s.resets }).setResets ResetKinds.clear) :=
      Standing.accounted ⟨rfl, rfl, rfl, rfl⟩ rfl rfl
    exact hbegun.trans (endReset_loaderKept s).accounted
  case hold b =>
    obtain ⟨-, e⟩ | ⟨-, -, e⟩ | ⟨-, -, e⟩ := holdStep_cases b s
    all_goals
      rw [e]
      exact Standing.accounted ⟨rfl, rfl, rfl, rfl⟩ rfl rfl
  case read bits _ => exact (takeMisoBits_loaderKept bits s).accounted
  case loopSamples cfg line _ =>
    exact takeBits_accounted (fun _ => hset s _ (by exact linkKept_of_eq rfl rfl rfl rfl)) line
  case endLoopback cfg r _ =>
    have hbase : ∀ (u : State) (x : Supervisor) (b : TimeBase), Accounted u ((u.setSupervisor x).setTimeBase b) := fun _ _ _ =>
      Standing.accounted ⟨rfl, rfl, rfl, rfl⟩ rfl rfl
    have hlink : ∀ u : State, Accounted u (u.setLink { u.link with tracking := .waitingIdle 0, loopback := .notRunning }) := fun u =>
      hset u _ (by exact linkKept_of_eq rfl rfl rfl rfl)
    have hentered : ∀ u : State, Accounted u (enterListening cfg u) := fun u =>
      (setStation_supervisorScannerAlone u .listening).accounted.trans ((hbase _ _ _).trans (hlink _))
    exact (hset s _ (by exact linkKept_of_eq rfl rfl rfl rfl)).trans (hentered _)
  case crossing interval flow _ => exact acceptCrossing_keeps (accounted_timingClosed s) interval (hflow flow)
  case loss flow _ => exact declareLoss_keeps (accounted_timingClosed s) (hflow flow)
  case oscillator flow _ => exact mainsCycleEnd_keeps (accounted_timingClosed s) (hflow flow)
  case frame cfg rx line flow hactive _ =>
    have hcfg := (resetInProgress_of_active hactive).2.2
    exact (hflow flow).trans (takeBits_accounted (fun bits => receptionEnd_accounted (s := s.setFlowPin flow) cfg rx bits hcfg) line)
  case complete cfg _ => exact (completeComputation_exchanged cfg s).accounted (completeComputation_served cfg s)
  case scan control limiter cfg _ =>
    unfold scanStep
    split
    · exact foldl_keeps (P := Accounted s) (fun t z ht => ht.trans (tripTest_testKept cfg t z).accounted) indexes (scanner_accounted s _)
    · exact Accounted.refl s
  case window currents voltage cfg _ => exact windowStep_accounted cfg currents voltage s
  case tripClear cfg _ =>
    exact foldl_keeps (P := Accounted s) (fun t z ht => ht.trans (clearZone_testKept cfg t z).accounted) indexes (Accounted.refl s)
  case dispatch cfg _ => exact dispatchHead_accounted cfg s
  case bits cfg line _ => exact takeBits_accounted (fun bits => sampleBits_accounted bits s) line
  case startBit =>
    refine ((quietBits_accounted [false] s).trans (startReception_accounted _)).trans ?_
    exact accounted_of_link (started_counted _ _ false rfl rfl rfl) (ringKept_of_same rfl rfl rfl) rfl rfl rfl rfl
  case chance cfg recessive line _ => exact chanceStep_accounted cfg recessive line s
  case attempt cfg a line _ _ => exact takeBits_accounted (fun bits => attemptBits_accounted cfg bits a s) line

end Sys2Proof.Machine

namespace Sys2Proof.Proofs.Accounts
open Sys2Proof.Machine

/-- Settles O55: no exchange frees or fills a descriptor but at the head and the fill position, each ends its own request with its
descriptor, and the frame in hand leaves the ring with its descriptor's SENDING. -/
theorem stepKeepsTheRingSound : Obligations.StepKeepsTheRingSound := by
  intro s t hs h
  exact step_keeps (P := fun t => RingSound t ∧ (RequestsSound s → RequestsSound t))
    (fun _ _ ht => ⟨⟨ht.1.bound, ht.1.fill, ht.1.inside, ht.1.outside, ht.1.inHand⟩, fun hr => by
      obtain ⟨hfull, hwaits, honce, hstands⟩ := ht.2 hr
      exact ⟨hfull, hwaits, honce, hstands⟩⟩)
    (fun _ _ _ ht h => by
      obtain ⟨hring, hrequests⟩ := (move_of_exec h).accounted.ring ht.1
      exact ⟨hring, fun hr => hrequests (ht.2 hr)⟩) ⟨hs, id⟩ h

/-- Settles O57: every count saturates or is taken back, every table is filled only while it has room, and the bit timing turns over at
the end of its bit. -/
theorem stepKeepsTheBounds : Obligations.StepKeepsTheBounds := by
  intro s t hs h
  exact step_keeps (P := Bounded)
    (fun _ _ ht => ⟨ht.tec, ht.recv, ht.queue, ht.overflow, ht.entries, ht.occupancy, ht.order, ht.quantum, ht.unit⟩)
    (fun _ _ _ ht h => (move_of_exec h).accounted.bounds ht) hs h

/-- Settles O60. -/
theorem resetMeetsTheInvariants : Obligations.ResetMeetsTheInvariants := by
  obtain ⟨hring, hrequests, hbounds⟩ := accounted_of_reset (t := State.reset) rfl rfl rfl rfl rfl
  have hchannel : ∀ z : Index, ChannelInRange ((Six.fill Channel.reset).get z) := fun z =>
    channelInRange_of_none (congrArg Channel.filtered (Six.get_fill Channel.reset z))
  refine ⟨fun _ => rfl, fun z h => ?_, hring, hrequests, ?_, hbounds, ?_, ?_⟩
  · exact absurd ((Six.get_fill false z).symm.trans h) Bool.false_ne_true
  · exact (driverSafe_iff _).mpr (Calm.linkSafe ⟨rfl, fun _ => Tracking.noConfusion⟩ fun _ => rfl)
  · refine (valuesInRange_iff _).mpr ⟨fun _ h => (nomatch h), hchannel, hchannel, fun z => ?_⟩
    rw [State.reset, Six.get_fill]
    exact resetIn_inRange _
  · exact ⟨List.nodup_nil, List.nodup_nil, fun _ h => (nomatch h), fun _ h => (nomatch h), fun _ => ⟨rfl, rfl⟩⟩

end Sys2Proof.Proofs.Accounts

/-! PROOFS. The channels, the sources and the demands of the zones (R23 to R26, R50 to R64). -/

namespace Sys2Proof.Proofs.Zones
open Sys2Proof.Machine

/-- Settles O18, by the states of a channel and the classes of a sample. -/
theorem channelFollowsItsSamples : Obligations.ChannelFollowsItsSamples := by
  intro cfg c t
  have hsame : decide (c.fault ≠ c.fault) = false := decide_eq_false fun k => k rfl
  refine ⟨⟨rfl, rfl, rfl, rfl, rfl, rfl⟩, ⟨rfl, rfl, rfl⟩, fun hstate => ?_, fun f hstate hf hnear => ?_, fun f hstate hf hfar hrej => ?_,
    fun f hstate hf hfar hrej => ?_, fun hstate hseed => ?_, fun f hstate hseed hfar => ?_, fun f hstate hseed hnear => ?_⟩
  case refine_1 => simp only [channelStep, hstate, hsame]
  case refine_2 => simp only [channelStep, hstate, trackSample, hf, apart, if_pos hnear, hsame]
  case refine_3 =>
    have hthird : c.rejections + 1 ≠ 3 := fun k => hrej (Nat.succ.inj k)
    simp only [channelStep, hstate, trackSample, hf, apart, if_neg (Nat.not_le.mpr hfar), if_neg hthird, hsame]
  case refine_4 =>
    have hstep : trackSample cfg t c = faultChannel .rate c := by
      simp only [trackSample, hf, apart, if_neg (Nat.not_le.mpr hfar), hrej]
      rfl
    simp only [channelStep, hstate, hstep, faultChannel, and_self]
  case refine_5 => simp only [channelStep, hstate, recoverSample, hseed, hsame]
  case refine_6 => simp only [channelStep, hstate, recoverSample, hseed, apart, if_neg (Nat.not_le.mpr hfar), hsame]
  case refine_7 => simp only [channelStep, hstate, recoverSample, hseed, apart, if_pos hnear, and_self]

end Sys2Proof.Proofs.Zones

namespace Sys2Proof.Machine

/-! ### Neighbours and ends of the enabled zones (R51, R52) -/

theorem enabledZones_pairwise (cfg : Settings) : (enabledZones cfg).Pairwise (· < ·) :=
  List.Pairwise.filter _ (by decide)

theorem mem_enabledZones {cfg : Settings} {y : Index} : y ∈ enabledZones cfg ↔ (cfg.zone y).enabled = true := by
  rw [enabledZones, List.mem_filter]
  exact and_iff_right (mem_indexes y)

/-- The last of a rising list is its greatest. -/
theorem getLast?_rising {l : List Index} (h : l.Pairwise (· < ·)) {y : Index} :
    l.getLast? = some y ↔ y ∈ l ∧ ∀ x ∈ l, x ≤ y := by
  constructor
  · intro e
    obtain ⟨ys, rfl⟩ := List.getLast?_eq_some_iff.mp e
    refine ⟨by simp, fun x hx => ?_⟩
    obtain hx | hx := List.mem_append.mp hx
    · exact le_of_lt ((List.pairwise_append.mp h).2.2 x hx y (List.mem_singleton_self y))
    · exact (List.mem_singleton.mp hx).le
  · rintro ⟨hy, hmax⟩
    obtain ⟨w, hw⟩ := Option.isSome_iff_exists.mp (List.getLast?_isSome.mpr (List.ne_nil_of_mem hy))
    obtain ⟨ys, rfl⟩ := List.getLast?_eq_some_iff.mp hw
    have hle : w ≤ y := hmax w (by simp)
    obtain hx | hx := List.mem_append.mp hy
    · exact absurd ((List.pairwise_append.mp h).2.2 y hx w (List.mem_singleton_self w)) (not_lt.mpr hle)
    · rw [hw, List.mem_singleton.mp hx]

/-- The first of a rising list is its least. -/
theorem head?_rising {l : List Index} (h : l.Pairwise (· < ·)) {y : Index} : l.head? = some y ↔ y ∈ l ∧ ∀ x ∈ l, y ≤ x := by
  cases l with
  | nil => exact ⟨fun k => (nomatch k), fun k => absurd k.1 List.not_mem_nil⟩
  | cons w l =>
    have hw : ∀ x ∈ l, w < x := (List.pairwise_cons.mp h).1
    rw [List.head?_cons, Option.some.injEq]
    constructor
    · rintro rfl
      refine ⟨List.mem_cons_self, fun x hx => ?_⟩
      obtain rfl | hx := List.mem_cons.mp hx
      · exact le_refl _
      · exact le_of_lt (hw x hx)
    · rintro ⟨hy, hmin⟩
      obtain rfl | hy := List.mem_cons.mp hy
      · rfl
      · exact absurd (hw y hy) (not_lt.mpr (hmin w List.mem_cons_self))

theorem upstreamAdjacent_iff (cfg : Settings) {y z : Index} :
    upstreamAdjacent cfg z = some y ↔ (cfg.zone y).enabled = true ∧ y < z ∧ ∀ x, (cfg.zone x).enabled = true → x < z → x ≤ y := by
  rw [upstreamAdjacent, getLast?_rising ((enabledZones_pairwise cfg).filter _)]
  simp only [List.mem_filter, mem_enabledZones, decide_eq_true_eq]
  exact ⟨fun h => ⟨h.1.1, h.1.2, fun x hx hz => h.2 x ⟨hx, hz⟩⟩, fun h => ⟨⟨h.1, h.2.1⟩, fun x hx => h.2.2 x hx.1 hx.2⟩⟩

theorem downstreamAdjacent_iff (cfg : Settings) {y z : Index} :
    downstreamAdjacent cfg z = some y ↔ (cfg.zone y).enabled = true ∧ z < y ∧ ∀ x, (cfg.zone x).enabled = true → z < x → y ≤ x := by
  rw [downstreamAdjacent, head?_rising ((enabledZones_pairwise cfg).filter _)]
  simp only [List.mem_filter, mem_enabledZones, decide_eq_true_eq]
  exact ⟨fun h => ⟨h.1.1, h.1.2, fun x hx hz => h.2 x ⟨hx, hz⟩⟩, fun h => ⟨⟨h.1, h.2.1⟩, fun x hx => h.2.2 x hx.1 hx.2⟩⟩

theorem upstreamAdjacent_eq {cfg : Settings} {y z : Index} (h : Adjacent cfg y z) : upstreamAdjacent cfg z = some y := by
  refine (upstreamAdjacent_iff cfg).mpr ⟨h.first, h.order, fun x hx hz => le_of_not_gt fun hyx => ?_⟩
  exact Bool.false_ne_true ((h.between x hyx hz).symm.trans hx)

theorem downstreamAdjacent_eq {cfg : Settings} {y z : Index} (h : Adjacent cfg z y) : downstreamAdjacent cfg z = some y := by
  refine (downstreamAdjacent_iff cfg).mpr ⟨h.second, h.order, fun x hx hz => le_of_not_gt fun hxy => ?_⟩
  exact Bool.false_ne_true ((h.between x hz hxy).symm.trans hx)

/-- Where no upstream neighbour lends its own temperature none comes from there (R51). -/
theorem lentBy_upstream_none {cfg : Settings} {sc : Scanner} {z : Index} (hz : (cfg.zone z).enabled = true)
    (h : ∀ y : Index, Adjacent cfg y z → ownTemperature cfg sc y = none) : lentBy cfg sc (upstreamAdjacent cfg z) = none := by
  unfold lentBy
  split
  · rfl
  · rename_i y hy
    obtain ⟨henabled, horder, hlast⟩ := (upstreamAdjacent_iff cfg).mp hy
    exact h y ⟨horder, henabled, hz, fun x hyx hxz => Bool.eq_false_iff.mpr fun hx => absurd hyx (not_lt.mpr (hlast x hx hxz))⟩

theorem lentBy_downstream_none {cfg : Settings} {sc : Scanner} {z : Index} (hz : (cfg.zone z).enabled = true)
    (h : ∀ y : Index, Adjacent cfg z y → ownTemperature cfg sc y = none) : lentBy cfg sc (downstreamAdjacent cfg z) = none := by
  unfold lentBy
  split
  · rfl
  · rename_i y hy
    obtain ⟨henabled, horder, hfirst⟩ := (downstreamAdjacent_iff cfg).mp hy
    exact h y ⟨horder, hz, henabled, fun x hzx hxy => Bool.eq_false_iff.mpr fun hx => absurd hxy (not_lt.mpr (hfirst x hx hzx))⟩

/-- The first enabled zone has none before it, the last none after it. -/
theorem firstEnabled_iff {cfg : Settings} {z : Index} (hz : (cfg.zone z).enabled = true) :
    (enabledZones cfg).head? = some z ↔ ∀ y : Index, y < z → (cfg.zone y).enabled = false := by
  rw [head?_rising (enabledZones_pairwise cfg), mem_enabledZones, and_iff_right hz]
  simp only [mem_enabledZones]
  exact ⟨fun h y hy => Bool.eq_false_iff.mpr fun k => absurd hy (not_lt.mpr (h y k)),
    fun h y hy => le_of_not_gt fun k => Bool.false_ne_true ((h y k).symm.trans hy)⟩

theorem lastEnabled_iff {cfg : Settings} {z : Index} (hz : (cfg.zone z).enabled = true) :
    (enabledZones cfg).getLast? = some z ↔ ∀ y : Index, z < y → (cfg.zone y).enabled = false := by
  rw [getLast?_rising (enabledZones_pairwise cfg), mem_enabledZones, and_iff_right hz]
  simp only [mem_enabledZones]
  exact ⟨fun h y hy => Bool.eq_false_iff.mpr fun k => absurd hy (not_lt.mpr (h y k)),
    fun h y hy => le_of_not_gt fun k => Bool.false_ne_true ((h y k).symm.trans hy)⟩

/-- A record that is not valid by its age lends nothing, and one without a temperature has none to lend (R52, R109). -/
theorem lentByRecord_eq (r : BoundaryRecord) : lentByRecord r = if r.age ≤ 2 then r.temperature else none := by
  unfold lentByRecord BoundaryRecord.valid
  cases r.temperature <;> simp

/-- The origin where neither neighbour lends a temperature (R52). -/
theorem originTemperature_of_ends {cfg : Settings} {sc : Scanner} {z : Index} (up down : BoundaryRecord)
    (hz : (cfg.zone z).enabled = true) (hup : lentBy cfg sc (upstreamAdjacent cfg z) = none)
    (hdown : lentBy cfg sc (downstreamAdjacent cfg z) = none) :
    originTemperature cfg sc up down z =
      if (∀ y : Index, y < z → (cfg.zone y).enabled = false) ∧ up.age ≤ 2 ∧ up.temperature ≠ none then up.temperature
      else if (∀ y : Index, z < y → (cfg.zone y).enabled = false) ∧ down.age ≤ 2 then down.temperature
      else none := by
  have hends : originTemperature cfg sc up down z =
      ((if (enabledZones cfg).head? = some z then lentByRecord up else none) <|>
        (if (enabledZones cfg).getLast? = some z then lentByRecord down else none)) := by
    simp only [originTemperature, hup, hdown]
    rfl
  rw [hends, lentByRecord_eq, lentByRecord_eq]
  simp only [firstEnabled_iff hz, lastEnabled_iff hz]
  by_cases hfirst : ∀ y : Index, y < z → (cfg.zone y).enabled = false
  · by_cases hage : up.age ≤ 2
    · cases htemp : up.temperature
      · simp [ite_and]
      · simp [eq_true hfirst, hage]
    · simp [hage, ite_and]
  · simp [eq_false hfirst, ite_and]

/-! ### The zone that finds no temperature (R53) -/

theorem selectSource_none {cfg : Settings} {sc : Scanner} {up down : BoundaryRecord} {z : Index} {x : Zone}
    (hz : (cfg.zone z).enabled = true) (hown : ownTemperature cfg sc z = none)
    (horigin : originTemperature cfg sc up down z = none) : selectSource cfg sc up down z x = holdZone cfg x := by
  simp only [selectSource, if_pos hz, hown, horigin]

theorem holdZone_tc (cfg : Settings) (x : Zone) : (holdZone cfg x).tc = none := by
  unfold holdZone
  split
  · split <;> rfl
  · rfl
  · rfl

end Sys2Proof.Machine

namespace Sys2Proof.Proofs.Zones
open Sys2Proof.Machine

/-- Settles O24: the neighbours are the last enabled zone before and the first after, and a boundary record lends where it is valid. -/
theorem sourceIsSelectedInOrder : Obligations.SourceIsSelectedInOrder := by
  refine ⟨fun cfg sc up down z x hz => ⟨fun t hstate ht => ?_, fun hown t ht => ?_, fun hown horigin => ?_⟩,
    fun cfg sc up down z hz => ⟨fun y => ?_, fun y t hy ht => ?_, fun hup => ⟨fun y t hy ht => ?_, fun hdown => ?_⟩⟩⟩
  · simp [selectSource, ownTemperature, hz, hstate, ht]
  · simp only [selectSource, if_pos hz, hown, ht, clampTemperature, clampInt]
  · rw [selectSource_none hz hown horigin]
    refine ⟨holdZone_tc cfg x, fun hne hne' => ?_, fun hholding hlt => ?_, fun hholding heq => ?_, fun hfallback => ?_⟩
    · unfold holdZone
      split
      · exact absurd ‹_› hne
      · exact absurd ‹_› hne'
      · refine ⟨congrArg some ?_, rfl⟩
        by_cases h0 : cfg.holdCycles = 0
        · simp [h0]
        · rw [if_neg h0, if_pos (Nat.one_le_iff_ne_zero.mpr h0)]
    · simp only [holdZone, hholding, if_pos hlt, and_self]
    · simp only [holdZone, hholding, heq, Nat.lt_irrefl, if_false, and_self]
    · simp only [holdZone, hfallback, and_self]
  · simp [ownTemperature]
  · have hlent : lentBy cfg sc (upstreamAdjacent cfg z) = some t := by rw [upstreamAdjacent_eq hy]; exact ht
    simp only [originTemperature, hlent]
    rfl
  · have hlent : lentBy cfg sc (downstreamAdjacent cfg z) = some t := by rw [downstreamAdjacent_eq hy]; exact ht
    simp only [originTemperature, lentBy_upstream_none hz hup, hlent]
    rfl
  · exact originTemperature_of_ends up down hz (lentBy_upstream_none hz hup) (lentBy_downstream_none hz hdown)

/-- The demand of a REGULATING zone with a temperature, with the integral step and the rounding of R61 to R63 written out. -/
theorem computeDemand_regulating {cfg : Settings} (line : LineState) {z : Index} {x : Zone} (hz : (cfg.zone z).enabled = true)
    (hcondition : x.condition = .normal) (hmode : x.mode = some .regulating) (hsource : x.source = some .own ∨ x.source = some .substitute) :
    computeDemand cfg line z x =
      { regulate cfg (applyingBank cfg line z) (deficitOf (applyingBank cfg line z) x) x with
        deficit := deficitOf (applyingBank cfg line z) x, curtailed := false } := by
  simp only [computeDemand, if_pos hz, if_pos hcondition]
  obtain hsource | hsource := hsource <;> simp only [normalDemand, hsource, hmode]

theorem deficitOf_of_temperature {b : Bank} {x : Zone} {tc : Int} (hsource : x.source = some .own ∨ x.source = some .substitute)
    (htc : x.tc = some tc) : deficitOf b x = max (-1000) (min 1000 (b.target - tc)) := by
  have hhas : hasTemperature x = true := by
    obtain hsource | hsource := hsource <;> simp [hasTemperature, hsource]
  simp only [deficitOf, if_pos hhas, htc, clampInt]

theorem stepAccumulator_eq (delta : Int) (lastDemand : Nat) (curtailed : Bool) (acc : Nat) :
    (stepAccumulator delta lastDemand curtailed acc : Int) =
      if (0 < delta ∧ (lastDemand = 32 ∨ curtailed = true)) ∨ (delta < 0 ∧ lastDemand = 0) then (acc : Int)
      else max 0 (min 8192 (acc + delta)) := by
  unfold stepAccumulator
  simp only [Bool.or_eq_true, Bool.and_eq_true, decide_eq_true_eq]
  split
  · rfl
  · exact Int.toNat_of_nonneg (le_max_left _ _)

/-- The whole slots of a sum, and the raise or drop below `min_run` (R63). -/
theorem demandOf_eq (cfg : Settings) (e : Int) (kp acc d : Nat) (hd : (clampInt 0 32 ((e * kp + acc + 128) / 256)).toNat = d) :
    demandOf cfg e kp acc = if 1 ≤ d ∧ d < cfg.minRun then (if 0 < e then cfg.minRun else 0) else d := by
  simp only [demandOf, hd, Bool.and_eq_true, decide_eq_true_eq]

/-- Settles O25, by the zone's condition, mode and source. -/
theorem demandFollowsModeAndSource : Obligations.DemandFollowsModeAndSource := by
  refine ⟨fun cfg line z x tc hz hcondition hmode hsource htc => ?_, fun cfg line z x hz => ⟨fun hne => ?_, fun hcondition hsource => ?_,
    fun hcondition hsource => ?_, fun tc hcondition hmode hsource htc hcold => ?_, fun tc hcondition hmode hsource htc hwarm => ?_⟩⟩
  · have he := deficitOf_of_temperature (b := applyingBank cfg line z) hsource htc
    refine ⟨applyingBank cfg line z, deficitOf (applyingBank cfg line z) x,
      stepAccumulator (integralStep (deficitOf (applyingBank cfg line z) x) (applyingBank cfg line z).ki) x.lastDemand x.curtailed x.acc,
      _, rfl, he, stepAccumulator_eq _ _ _ _, Int.toNat_of_nonneg (le_max_left _ _), ?_⟩
    rw [computeDemand_regulating line hz hcondition hmode hsource, regulate, demandOf_eq cfg _ _ _ _ rfl]
    rfl
  · simp only [computeDemand, if_pos hz, if_neg hne, and_self]
  · simp only [computeDemand, if_pos hz, if_pos hcondition, normalDemand, hsource, and_self]
  · simp only [computeDemand, if_pos hz, if_pos hcondition, normalDemand, hsource, and_self]
  · have hstay : ¬ cfg.coldFloor + 20 ≤ tc := not_le.mpr hcold
    obtain hsource | hsource := hsource <;>
      simp only [computeDemand, if_pos hz, if_pos hcondition, normalDemand, hsource, hmode, coldStartStep, htc, if_neg hstay, and_self]
  · have hwarmed : computeDemand cfg line z x =
        { regulate cfg (applyingBank cfg line z) (deficitOf (applyingBank cfg line z) x)
            { x with mode := some .regulating, acc := cfg.warmPreset } with
          deficit := deficitOf (applyingBank cfg line z) x, curtailed := false } := by
      simp only [computeDemand, if_pos hz, if_pos hcondition]
      obtain hsource | hsource := hsource <;> simp only [normalDemand, hsource, hmode, coldStartStep, htc, if_pos hwarm]
    exact hwarmed.trans
      (computeDemand_regulating (x := { x with mode := some .regulating, acc := cfg.warmPreset }) line hz hcondition rfl hsource).symm

end Sys2Proof.Proofs.Zones

/-! PROOFS. The search for a placement (R77 to R79): the working copy and its totals, the order of the zones, and the first candidate that
fits. -/

namespace Sys2Proof.Machine

theorem mem_slots {k : Nat} : k ∈ slots ↔ k < 32 := List.mem_range

theorem zoneNumber_inj {y z : Index} : zoneNumber y = zoneNumber z ↔ y = z :=
  ⟨fun h => Fin.ext (Nat.succ.inj h), fun h => congrArg zoneNumber h⟩

/-! ### Runs in a slot (R68) -/

theorem loadIn_of_not_covers {r : Run} {k : Nat} (h : r.covers k = false) : r.loadIn k = 0 := by
  rw [Run.loadIn, if_neg (Bool.eq_false_iff.mp h)]

/-- A run fits the totals where it covers a slot (R78). -/
theorem fits_iff {budget : Nat} {totals : List Nat} {r : Run} :
    fits budget totals r = true ↔ ∀ k : Nat, k < 32 → r.covers k = true → totals.getD k 0 + r.loadIn k ≤ budget := by
  simp only [fits, List.all_eq_true, mem_slots, Bool.or_eq_true, Bool.not_eq_true', decide_eq_true_eq]
  exact forall₂_congr fun k _ => by cases r.covers k <;> simp

/-! ### The working copy (R77, R78) -/

/-- The total of a cell with the runs placed so far. -/
def workingTotal (others : List Contribution) (runs : List Run) (k : Nat) : Nat :=
  min 65535 ((others.map fun c => c.loadIn k).sum + (runs.map fun r => r.loadIn k).sum)

/-- The totals of the working copy with the runs placed so far. -/
def workingTotals (others : List Contribution) (runs : List Run) : List Nat := slots.map (workingTotal others runs)

theorem othersOf_eq_self {m : List Contribution} (h : ∀ x ∈ m, x.source ≠ .own) : othersOf m = m :=
  List.filter_eq_self.mpr fun x hx => decide_eq_true (h x hx)

theorem cellTotal_setOwn {others : List Contribution} (h : ∀ x ∈ others, x.source ≠ .own) (runs : List Run) (order k : Nat) :
    cellTotal (setOwn runs order others) k = workingTotal others runs k := by
  simp only [cellTotal, setOwn, workingTotal, othersOf_eq_self h, List.map_cons, List.sum_cons, Contribution.loadIn]
  rw [Nat.add_comm]

theorem getD_workingTotals (others : List Contribution) (runs : List Run) {k : Nat} (hk : k < 32) :
    (workingTotals others runs).getD k 0 = workingTotal others runs k := by
  simp [workingTotals, slots, hk]

theorem workingTotal_append (others : List Contribution) (runs : List Run) (r : Run) (k : Nat) :
    workingTotal others (runs ++ [r]) k = min 65535 (workingTotal others runs k + r.loadIn k) := by
  simp only [workingTotal, List.map_append, List.map_singleton, List.sum_append, List.sum_singleton]
  omega

theorem addRun_workingTotals (others : List Contribution) (runs : List Run) (r : Run) :
    addRun (workingTotals others runs) r = workingTotals others (runs ++ [r]) := by
  refine List.map_congr_left fun k hk => ?_
  rw [getD_workingTotals others runs (mem_slots.mp hk), workingTotal_append]

theorem foldl_addRun_workingTotals (others : List Contribution) (more runs : List Run) :
    more.foldl addRun (workingTotals others runs) = workingTotals others (runs ++ more) := by
  induction more generalizing runs with
  | nil => rw [List.append_nil, List.foldl_nil]
  | cons r more ih => rw [List.foldl_cons, addRun_workingTotals, ih, List.append_assoc, List.singleton_append]

/-- The runs of the STUCK_ON zones, which a computation places first (R78). -/
def stuckRuns (c : Computation) : List Run := (indexes.filter fun z => (c.zones.get z).stuck).map fun z => stuckRun z (c.zones.get z).stuckLoad

/-- One zone placed, with the totals of the runs before it (R77 to R79). -/
def placeOne (cfg : Settings) (c : Computation) (w : Working) (z : Index) : Working :=
  match searchRun cfg c.budget (workingTotals c.others w.runs) z (c.zones.get z) with
  | none => { w with curtailed := w.curtailed ++ [zoneNumber z] }
  | some r =>
    { runs := w.runs ++ [r]
      curtailed := if r.length < (c.zones.get z).demand then w.curtailed ++ [zoneNumber z] else w.curtailed }

theorem placeZone_eq (cfg : Settings) (c : Computation) (w : Working) (z : Index) :
    placeZone cfg c (workingTotals c.others w.runs, w) z =
      (workingTotals c.others (placeOne cfg c w z).runs, placeOne cfg c w z) := by
  cases hsearch : searchRun cfg c.budget (workingTotals c.others w.runs) z (c.zones.get z) with
  | none => simp only [placeZone, placeOne, hsearch]
  | some r => simp only [placeZone, placeOne, hsearch, addRun_workingTotals]

theorem foldl_placeZone_eq (cfg : Settings) (c : Computation) (zones : List Index) (w : Working) :
    zones.foldl (placeZone cfg c) (workingTotals c.others w.runs, w) =
      (workingTotals c.others (zones.foldl (placeOne cfg c) w).runs, zones.foldl (placeOne cfg c) w) := by
  induction zones generalizing w with
  | nil => rfl
  | cons z zones ih => rw [List.foldl_cons, placeZone_eq, ih, List.foldl_cons]

/-- A computation places its zones in turn, with the totals that follow from the runs placed so far. -/
theorem computeResult_eq (cfg : Settings) (c : Computation) :
    computeResult cfg c = (placingOrder c).foldl (placeOne cfg c) { runs := stuckRuns c, curtailed := [] } := by
  have htotals : (slots.map fun k => cellTotal c.others k) = workingTotals c.others [] :=
    List.map_congr_left fun k _ => by simp [cellTotal, workingTotal]
  have hstuck := foldl_addRun_workingTotals c.others (stuckRuns c) []
  rw [List.nil_append] at hstuck
  simp only [computeResult, htotals]
  exact congrArg Prod.snd ((congrArg (fun t => (placingOrder c).foldl (placeZone cfg c) (t, { runs := stuckRuns c, curtailed := [] })) hstuck).trans
    (foldl_placeZone_eq cfg c (placingOrder c) { runs := stuckRuns c, curtailed := [] }))

/-! ### The order of the zones (R77) -/

/-- A zone is placed before another: its deficit is greater, or equal with a lower number. -/
def PlacedFirst (c : Computation) (y z : Index) : Prop :=
  (c.zones.get z).deficit < (c.zones.get y).deficit ∨ ((c.zones.get z).deficit = (c.zones.get y).deficit ∧ y < z)

theorem PlacedFirst.asymm {c : Computation} {y z : Index} (h : PlacedFirst c y z) : ¬PlacedFirst c z y := by
  unfold PlacedFirst at h ⊢
  rintro (k | ⟨k, hlt⟩)
  · omega
  · obtain h | ⟨-, h⟩ := h
    · omega
    · exact absurd h (lt_asymm hlt)

theorem PlacedFirst.ne {c : Computation} {y z : Index} (h : PlacedFirst c y z) : y ≠ z := fun e => (e ▸ h).asymm (e ▸ h)

theorem mem_insertByDeficit {c : Computation} {x z : Index} {l : List Index} : x ∈ insertByDeficit c z l ↔ x = z ∨ x ∈ l := by
  induction l with
  | nil => simp [insertByDeficit]
  | cons y l ih =>
    unfold insertByDeficit
    split
    · exact List.mem_cons
    · rw [List.mem_cons, ih, List.mem_cons]
      tauto

/-- A zone of a higher number is inserted in its place (R77). -/
theorem insertByDeficit_pairwise {c : Computation} {z : Index} {l : List Index} (hl : l.Pairwise (PlacedFirst c)) (hz : ∀ y ∈ l, y < z) :
    (insertByDeficit c z l).Pairwise (PlacedFirst c) := by
  induction l with
  | nil => exact List.pairwise_singleton _ _
  | cons y l ih =>
    obtain ⟨hy, hl'⟩ := List.pairwise_cons.mp hl
    unfold insertByDeficit
    split
    · rename_i hlt
      refine List.pairwise_cons.mpr ⟨fun x hx => .inl ?_, hl⟩
      obtain rfl | hx := List.mem_cons.mp hx
      · exact hlt
      · obtain h | ⟨h, -⟩ := hy x hx
        · omega
        · omega
    · rename_i hle
      refine List.pairwise_cons.mpr ⟨fun x hx => ?_, ih hl' fun x hx => hz x (List.mem_cons_of_mem _ hx)⟩
      obtain rfl | hx := mem_insertByDeficit.mp hx
      · obtain h | h := lt_or_eq_of_le (not_lt.mp hle)
        · exact .inl h
        · exact .inr ⟨h, hz y List.mem_cons_self⟩
      · exact hy x hx

theorem foldl_insertByDeficit {c : Computation} (zones l : List Index) (hl : l.Pairwise (PlacedFirst c)) (hzones : zones.Pairwise (· < ·))
    (hlt : ∀ z ∈ zones, ∀ y ∈ l, y < z) :
    (zones.foldl (fun l z => insertByDeficit c z l) l).Pairwise (PlacedFirst c) ∧
      ∀ x, x ∈ zones.foldl (fun l z => insertByDeficit c z l) l ↔ x ∈ zones ∨ x ∈ l := by
  induction zones generalizing l with
  | nil => exact ⟨hl, fun x => by simp⟩
  | cons z zones ih =>
    obtain ⟨hz, hzones'⟩ := List.pairwise_cons.mp hzones
    obtain ⟨hpair, hmem⟩ := ih (insertByDeficit c z l) (insertByDeficit_pairwise hl (hlt z List.mem_cons_self)) hzones' fun x hx y hy => by
      obtain rfl | hy := mem_insertByDeficit.mp hy
      · exact hz x hx
      · exact hlt x (List.mem_cons_of_mem _ hx) y hy
    refine ⟨hpair, fun x => ?_⟩
    rw [List.foldl_cons, hmem, mem_insertByDeficit, List.mem_cons]
    tauto

theorem placingOrder_pairwise (c : Computation) : (placingOrder c).Pairwise (PlacedFirst c) :=
  (foldl_insertByDeficit _ [] List.Pairwise.nil (List.Pairwise.filter _ (by decide)) fun _ _ _ h => absurd h List.not_mem_nil).1

theorem mem_placingOrder {c : Computation} {z : Index} :
    z ∈ placingOrder c ↔ (c.zones.get z).placed = true ∧ (c.zones.get z).stuck = false := by
  have h := (foldl_insertByDeficit (c := c) (indexes.filter fun z => (c.zones.get z).placed && !(c.zones.get z).stuck) [] List.Pairwise.nil
    (List.Pairwise.filter _ (by decide)) fun _ _ _ h => absurd h List.not_mem_nil).2 z
  rw [placingOrder, h, List.mem_filter]
  simp [mem_indexes]

/-! ### The candidates (R78, R79) -/

theorem mem_lengthsTried {minRun demand length : Nat} :
    length ∈ lengthsTried minRun demand ↔ length = demand ∨ (minRun ≤ length ∧ length ≤ demand) := by
  unfold lengthsTried
  split
  · rw [List.mem_singleton]
    omega
  · simp only [List.mem_map, List.mem_range]
    constructor
    · rintro ⟨j, hj, rfl⟩
      omega
    · intro h
      exact ⟨demand - length, by omega, by omega⟩

theorem lengthsTried_pairwise (minRun demand : Nat) : (lengthsTried minRun demand).Pairwise (· > ·) := by
  unfold lengthsTried
  split
  · exact List.pairwise_singleton _ _
  · refine List.pairwise_map.mpr (List.Pairwise.imp_of_mem (fun {i j} hi hj hij => ?_) List.pairwise_lt_range)
    have := List.mem_range.mp hi
    have := List.mem_range.mp hj
    show demand - j < demand - i
    omega

/-- The candidate of a start, with the surcharge it carries. -/
def candidateOf (c : Computation) (z : Index) (start : Nat) : Nat × Nat := (start, startSurcharge c z start)

theorem mem_candidates {cfg : Settings} {c : Computation} {z : Index} {p : Nat × Nat} :
    p ∈ candidates cfg z (c.zones.get z) ↔ p.1 < 32 ∧ p.2 = startSurcharge c z p.1 := by
  have hstart : ∀ n : Nat, n < 32 → ∃ j ∈ slots, (preferredStart cfg z + j) % 32 = n := fun n hn => by
    have hpref : preferredStart cfg z < 32 := Nat.mod_lt _ (by decide)
    exact ⟨(n + 32 - preferredStart cfg z) % 32, mem_slots.mpr (Nat.mod_lt _ (by decide)), by omega⟩
  obtain ⟨start, surcharge⟩ := p
  cases hcontinues : (c.zones.get z).continues
  · simp only [candidates, hcontinues, startSurcharge, Bool.false_eq_true, and_false, if_false, List.mem_map, Prod.mk.injEq]
    constructor
    · rintro ⟨j, -, rfl, rfl⟩
      exact ⟨Nat.mod_lt _ (by decide), rfl⟩
    · rintro ⟨hn, rfl⟩
      obtain ⟨j, hj, e⟩ := hstart _ hn
      exact ⟨j, hj, e, rfl⟩
  · simp only [candidates, hcontinues, startSurcharge, and_true, if_true, List.mem_cons, List.mem_filter, List.mem_map, Prod.mk.injEq,
      decide_eq_true_eq]
    constructor
    · rintro (⟨rfl, rfl⟩ | ⟨⟨j, -, rfl, rfl⟩, hne⟩)
      · exact ⟨by decide, rfl⟩
      · exact ⟨Nat.mod_lt _ (by decide), (if_neg hne).symm⟩
    · rintro ⟨hn, rfl⟩
      by_cases h0 : start = 0
      · exact .inl ⟨h0, if_pos h0⟩
      · obtain ⟨j, hj, e⟩ := hstart _ hn
        exact .inr ⟨⟨j, hj, e, (if_neg h0).symm⟩, h0⟩

/-- The candidates stand in the order of their starts' ranks. -/
theorem candidates_pairwise (cfg : Settings) (c : Computation) (z : Index) :
    (candidates cfg z (c.zones.get z)).Pairwise fun p q => startRank cfg c z p.1 < startRank cfg c z q.1 := by
  have hpref : preferredStart cfg z < 32 := Nat.mod_lt _ (by decide)
  have hrank : ∀ n : Nat, ¬(n = 0 ∧ (c.zones.get z).continues = true) →
      startRank cfg c z n = 1 + (n + 32 - preferredStart cfg z) % 32 := fun n h => if_neg h
  have hstarts : (slots.map fun j => ((preferredStart cfg z + j) % 32, (c.zones.get z).surcharge)).Pairwise fun p q =>
      (p.1 + 32 - preferredStart cfg z) % 32 < (q.1 + 32 - preferredStart cfg z) % 32 := by
    refine List.pairwise_map.mpr (List.Pairwise.imp_of_mem (fun {i j} hi hj hij => ?_) List.pairwise_lt_range)
    have := mem_slots.mp hi
    have := mem_slots.mp hj
    show ((preferredStart cfg z + i) % 32 + 32 - preferredStart cfg z) % 32 <
      ((preferredStart cfg z + j) % 32 + 32 - preferredStart cfg z) % 32
    omega
  unfold candidates
  split
  · refine List.pairwise_cons.mpr ⟨fun q hq => ?_, (hstarts.filter _).imp_of_mem fun {p q} hp hq hpq => ?_⟩
    · have hne : q.1 ≠ 0 := of_decide_eq_true (List.mem_filter.mp hq).2
      rw [hrank q.1 fun k => hne k.1, startRank, if_pos ⟨rfl, ‹_›⟩]
      omega
    · have hp0 : p.1 ≠ 0 := of_decide_eq_true (List.mem_filter.mp hp).2
      have hq0 : q.1 ≠ 0 := of_decide_eq_true (List.mem_filter.mp hq).2
      rw [hrank p.1 fun k => hp0 k.1, hrank q.1 fun k => hq0 k.1]
      omega
  · rename_i hcontinues
    refine hstarts.imp fun {p q} hpq => ?_
    rw [hrank p.1 fun k => hcontinues k.2, hrank q.1 fun k => hcontinues k.2]
    omega

/-- A search finds none where no candidate fits. -/
theorem searchRun_eq_none {cfg : Settings} {budget : Nat} {totals : List Nat} {c : Computation} {z : Index} :
    searchRun cfg budget totals z (c.zones.get z) = none ↔
      ∀ length : Nat, length = (c.zones.get z).demand ∨ (cfg.minRun ≤ length ∧ length ≤ (c.zones.get z).demand) →
        ∀ start : Nat, start < 32 → fits budget totals (candidateRun z (c.zones.get z) length (candidateOf c z start)) = false := by
  simp only [searchRun, List.findSome?_eq_none_iff, List.find?_eq_none, List.mem_map, mem_lengthsTried, forall_exists_index, and_imp,
    forall_apply_eq_imp_iff₂, Bool.not_eq_true]
  refine forall₂_congr fun length _ => ⟨fun h start hn => h _ (mem_candidates.mpr ⟨hn, rfl⟩), fun h p hp => ?_⟩
  obtain ⟨hn, e⟩ := mem_candidates.mp hp
  have hp' : candidateOf c z p.1 = p := Prod.ext rfl e.symm
  exact hp' ▸ h p.1 hn

/-- A search finds the first candidate that fits: of the greatest length, and of its starts the one tried first. -/
theorem searchRun_eq_some {cfg : Settings} {budget : Nat} {totals : List Nat} {c : Computation} {z : Index} {r : Run}
    (h : searchRun cfg budget totals z (c.zones.get z) = some r) :
    r.start < 32 ∧ (r.length = (c.zones.get z).demand ∨ (cfg.minRun ≤ r.length ∧ r.length ≤ (c.zones.get z).demand)) ∧
      r = candidateRun z (c.zones.get z) r.length (candidateOf c z r.start) ∧ fits budget totals r = true ∧
      ∀ length start : Nat, start < 32 → length ≤ (c.zones.get z).demand →
        r.length < length ∨ (length = r.length ∧ startRank cfg c z start < startRank cfg c z r.start) →
        fits budget totals (candidateRun z (c.zones.get z) length (candidateOf c z start)) = false := by
  obtain ⟨longer, length, shorter, hlengths, hfind, hlonger⟩ := List.findSome?_eq_some_iff.mp h
  obtain ⟨hfits, earlier, later, hcandidates, hearlier⟩ := List.find?_eq_some_iff_append.mp hfind
  obtain ⟨ps, qs, hpq, rfl, hqs⟩ := List.map_eq_append_iff.mp hcandidates
  obtain ⟨p, qs, rfl, rfl, rfl⟩ := List.map_eq_cons_iff.mp hqs
  have hp : p ∈ candidates cfg z (c.zones.get z) := by rw [hpq]; simp
  have hlen : length ∈ lengthsTried cfg.minRun (c.zones.get z).demand := by rw [hlengths]; simp
  obtain ⟨hstart, hsurcharge⟩ := mem_candidates.mp hp
  have hpc : candidateOf c z p.1 = p := Prod.ext rfl hsurcharge.symm
  have hpairs := candidates_pairwise cfg c z
  have hfalls := lengthsTried_pairwise cfg.minRun (c.zones.get z).demand
  rw [hpq] at hpairs
  rw [hlengths] at hfalls
  refine ⟨hstart, mem_lengthsTried.mp hlen, by rw [show (candidateRun z (c.zones.get z) length p).start = p.1 from rfl, hpc]; rfl, hfits, ?_⟩
  rintro longer' start hn hle (hlt | ⟨rfl, hlt⟩)
  · have hlt' : length < longer' := hlt
    have hmem : longer' ∈ longer := by
      have htried : longer' ∈ lengthsTried cfg.minRun (c.zones.get z).demand := by
        refine mem_lengthsTried.mpr ?_
        have := mem_lengthsTried.mp hlen
        omega
      rw [hlengths] at htried
      obtain hin | hin := List.mem_append.mp htried
      · exact hin
      · obtain rfl | hin := List.mem_cons.mp hin
        · exact absurd hlt' (lt_irrefl _)
        · have := (List.pairwise_cons.mp (List.pairwise_append.mp hfalls).2.1).1 _ hin
          omega
    have hnone := hlonger longer' hmem
    simp only [List.find?_eq_none, List.mem_map, forall_exists_index, and_imp, forall_apply_eq_imp_iff₂, Bool.not_eq_true] at hnone
    exact hnone _ (mem_candidates.mpr ⟨hn, rfl⟩)
  · have hcand : candidateOf c z start ∈ candidates cfg z (c.zones.get z) := mem_candidates.mpr ⟨hn, rfl⟩
    rw [hpq] at hcand
    have hlt' : startRank cfg c z (candidateOf c z start).1 < startRank cfg c z p.1 := hlt
    obtain hin | hin := List.mem_append.mp hcand
    · have := hearlier _ (List.mem_map_of_mem hin)
      exact (Bool.not_eq_true' _).mp this
    · obtain e | hin := List.mem_cons.mp hin
      · rw [e] at hlt'
        exact absurd hlt' (lt_irrefl _)
      · exact absurd hlt' (lt_asymm ((List.pairwise_cons.mp (List.pairwise_append.mp hpairs).2.1).1 _ hin))

/-! ### The runs placed (R77 to R79) -/

theorem mem_stuckRuns {c : Computation} {r : Run} (h : r ∈ stuckRuns c) :
    r.stuck = true ∧ ∃ z : Index, r.zone = zoneNumber z ∧ (c.zones.get z).stuck = true := by
  obtain ⟨z, hz, rfl⟩ := List.mem_map.mp h
  exact ⟨rfl, z, rfl, (List.mem_filter.mp hz).2⟩

/-- Which runs stand before a zone in the working copy. -/
theorem placedBefore_iff {c : Computation} {z : Index} {runs : List Run} {r : Run} :
    r ∈ placedBefore c z runs ↔ r ∈ runs ∧ (r.stuck = true ∨ ∃ y : Index, r.zone = zoneNumber y ∧ PlacedFirst c y z) := by
  simp only [placedBefore, List.mem_filter, Bool.or_eq_true, indexes_any_iff, Bool.and_eq_true, decide_eq_true_eq]
  rfl

theorem placedBefore_append_of_not {c : Computation} {y z : Index} {runs : List Run} {r : Run} (hstuck : r.stuck = false)
    (hzone : r.zone = zoneNumber y) (h : ¬PlacedFirst c y z) : placedBefore c z (runs ++ [r]) = placedBefore c z runs := by
  have hnone : placedBefore c z [r] = [] := List.eq_nil_iff_forall_not_mem.mpr fun q hq => by
    obtain ⟨hq, k | ⟨x, hx, hfirst⟩⟩ := placedBefore_iff.mp hq
    · rw [List.mem_singleton.mp hq, hstuck] at k
      exact Bool.false_ne_true k
    · rw [List.mem_singleton.mp hq, hzone] at hx
      exact h (zoneNumber_inj.mp hx ▸ hfirst)
  rw [placedBefore, List.filter_append]
  exact (congrArg (_ ++ ·) hnone).trans (List.append_nil _)

theorem placedBefore_eq_self {c : Computation} {z : Index} {runs : List Run}
    (h : ∀ r ∈ runs, r.stuck = true ∨ ∃ y : Index, r.zone = zoneNumber y ∧ PlacedFirst c y z) : placedBefore c z runs = runs :=
  List.filter_eq_self.mpr fun r hr => (List.mem_filter.mp (placedBefore_iff.mpr ⟨hr, h r hr⟩ : r ∈ placedBefore c z runs)).2

/-- The search of a zone against the runs before it. -/
def searchAt (cfg : Settings) (c : Computation) (z : Index) (runs : List Run) : Option Run :=
  searchRun cfg c.budget (workingTotals c.others (placedBefore c z runs)) z (c.zones.get z)

/-- The placement after some zones: the STUCK_ON runs, and for each zone the run its search found, or its curtailment. -/
structure Placing (cfg : Settings) (c : Computation) (done : List Index) (w : Working) : Prop where
  runs : ∃ rest : List Run, w.runs = stuckRuns c ++ rest ∧ (rest.map Run.zone).Sublist (done.map zoneNumber) ∧ ∀ r ∈ rest, r.stuck = false
  found : ∀ z ∈ done, ∀ r ∈ w.runs, r.zone = zoneNumber z →
    searchAt cfg c z w.runs = some r ∧ (r.length < (c.zones.get z).demand → zoneNumber z ∈ w.curtailed)
  missed : ∀ z ∈ done, (∀ r ∈ w.runs, r.zone ≠ zoneNumber z) → searchAt cfg c z w.runs = none ∧ zoneNumber z ∈ w.curtailed

theorem placing_start (cfg : Settings) (c : Computation) : Placing cfg c [] { runs := stuckRuns c, curtailed := [] } where
  runs := ⟨[], (List.append_nil _).symm, List.Sublist.refl _, fun _ h => absurd h List.not_mem_nil⟩
  found _ h := absurd h List.not_mem_nil
  missed _ h := absurd h List.not_mem_nil

/-- A run of a placement is STUCK_ON or of a zone placed. -/
theorem Placing.zone_of_mem {cfg : Settings} {c : Computation} {done : List Index} {w : Working} (h : Placing cfg c done w) {r : Run}
    (hr : r ∈ w.runs) : (r.stuck = true ∧ ∃ z : Index, r.zone = zoneNumber z ∧ (c.zones.get z).stuck = true) ∨
      ∃ z ∈ done, r.zone = zoneNumber z := by
  obtain ⟨rest, hruns, hsub, -⟩ := h.runs
  rw [hruns] at hr
  obtain hr | hr := List.mem_append.mp hr
  · exact .inl (mem_stuckRuns hr)
  · obtain ⟨z, hz, e⟩ := List.mem_map.mp (hsub.subset (List.mem_map_of_mem hr))
    exact .inr ⟨z, hz, e.symm⟩

theorem Placing.step {cfg : Settings} {c : Computation} {done : List Index} {w : Working} {z : Index} (h : Placing cfg c done w)
    (hfirst : ∀ y ∈ done, PlacedFirst c y z) (hstuck : (c.zones.get z).stuck = false) :
    Placing cfg c (done ++ [z]) (placeOne cfg c w z) := by
  have hnew : ∀ r ∈ w.runs, r.zone ≠ zoneNumber z := fun r hr e => by
    obtain ⟨-, y, hy, k⟩ | ⟨y, hy, hy'⟩ := h.zone_of_mem hr
    · rw [zoneNumber_inj.mp (hy.symm.trans e), hstuck] at k
      exact Bool.false_ne_true k
    · exact (hfirst y hy).ne (zoneNumber_inj.mp (hy'.symm.trans e))
  have hself : placedBefore c z w.runs = w.runs := placedBefore_eq_self fun r hr => by
    obtain ⟨k, -⟩ | ⟨y, hy, e⟩ := h.zone_of_mem hr
    · exact .inl k
    · exact .inr ⟨y, e, hfirst y hy⟩
  obtain ⟨rest, hruns, hsub, hrest⟩ := h.runs
  cases hsearch : searchRun cfg c.budget (workingTotals c.others w.runs) z (c.zones.get z) with
  | none =>
    have hw : placeOne cfg c w z = { w with curtailed := w.curtailed ++ [zoneNumber z] } := by simp only [placeOne, hsearch]
    rw [hw]
    refine ⟨⟨rest, hruns, ?_, hrest⟩, fun y hy r hr e => ?_, fun y hy hno => ?_⟩
    · rw [List.map_append]
      exact hsub.trans (List.sublist_append_left _ _)
    · obtain hy | hy := List.mem_append.mp hy
      · obtain ⟨hat, hcurtailed⟩ := h.found y hy r hr e
        exact ⟨hat, fun k => List.mem_append_left _ (hcurtailed k)⟩
      · rw [List.mem_singleton.mp hy] at e
        exact absurd e (hnew r hr)
    · obtain hy | hy := List.mem_append.mp hy
      · obtain ⟨hat, hcurtailed⟩ := h.missed y hy hno
        exact ⟨hat, List.mem_append_left _ hcurtailed⟩
      · rw [List.mem_singleton.mp hy]
        exact ⟨by rw [searchAt, hself]; exact hsearch, List.mem_append_right _ (List.mem_singleton_self _)⟩
  | some q =>
    have hw : placeOne cfg c w z =
        { runs := w.runs ++ [q]
          curtailed := if q.length < (c.zones.get z).demand then w.curtailed ++ [zoneNumber z] else w.curtailed } := by
      simp only [placeOne, hsearch]
    have hrun := (searchRun_eq_some hsearch).2.2.1
    have hqzone : q.zone = zoneNumber z := by rw [hrun]; rfl
    have hqstuck : q.stuck = false := by rw [hrun]; rfl
    have hmore : ∀ n : Nat, n ∈ w.curtailed →
        n ∈ if q.length < (c.zones.get z).demand then w.curtailed ++ [zoneNumber z] else w.curtailed := fun n hn => by
      split
      · exact List.mem_append_left _ hn
      · exact hn
    have hold : ∀ y ∈ done, searchAt cfg c y (w.runs ++ [q]) = searchAt cfg c y w.runs := fun y hy => by
      rw [searchAt, placedBefore_append_of_not hqstuck hqzone (hfirst y hy).asymm, searchAt]
    rw [hw]
    refine ⟨⟨rest ++ [q], by rw [hruns, List.append_assoc], ?_, fun r hr => ?_⟩, fun y hy r hr e => ?_, fun y hy hno => ?_⟩
    · rw [List.map_append, List.map_append, List.map_singleton, List.map_singleton, hqzone]
      exact hsub.append (List.Sublist.refl _)
    · obtain hr | hr := List.mem_append.mp hr
      · exact hrest r hr
      · rw [List.mem_singleton.mp hr, hqstuck]
    · obtain hy | hy := List.mem_append.mp hy <;> obtain hr | hr := List.mem_append.mp hr
      · obtain ⟨hat, hcurtailed⟩ := h.found y hy r hr e
        exact ⟨(hold y hy).trans hat, fun k => hmore _ (hcurtailed k)⟩
      · rw [List.mem_singleton.mp hr, hqzone] at e
        exact absurd (zoneNumber_inj.mp e).symm (hfirst y hy).ne
      · rw [List.mem_singleton.mp hy] at e
        exact absurd e (hnew r hr)
      · rw [List.mem_singleton.mp hy, List.mem_singleton.mp hr]
        refine ⟨?_, fun k => ?_⟩
        · rw [searchAt, placedBefore_append_of_not hqstuck hqzone fun k => k.ne rfl, hself]
          exact hsearch
        · rw [if_pos k]
          exact List.mem_append_right _ (List.mem_singleton_self _)
    · obtain hy | hy := List.mem_append.mp hy
      · obtain ⟨hat, hcurtailed⟩ := h.missed y hy fun r hr => hno r (List.mem_append_left _ hr)
        exact ⟨(hold y hy).trans hat, hmore _ hcurtailed⟩
      · rw [List.mem_singleton.mp hy] at hno
        exact absurd hqzone (hno q (List.mem_append_right _ (List.mem_singleton_self _)))

theorem foldl_placing {cfg : Settings} {c : Computation} (todo done : List Index) {w : Working} (h : Placing cfg c done w)
    (hpair : (done ++ todo).Pairwise (PlacedFirst c)) (hstuck : ∀ z ∈ todo, (c.zones.get z).stuck = false) :
    Placing cfg c (done ++ todo) (todo.foldl (placeOne cfg c) w) := by
  induction todo generalizing done w with
  | nil => rwa [List.append_nil]
  | cons z todo ih =>
    have hsplit : done ++ z :: todo = (done ++ [z]) ++ todo := by rw [List.append_assoc, List.singleton_append]
    have hstep := h.step (fun y hy => (List.pairwise_append.mp hpair).2.2 y hy z List.mem_cons_self) (hstuck z List.mem_cons_self)
    rw [hsplit] at hpair ⊢
    exact ih (done ++ [z]) hstep hpair fun y hy => hstuck y (List.mem_cons_of_mem _ hy)

/-- The result of a computation, by the zones in the order they are placed. -/
theorem computeResult_placing (cfg : Settings) (c : Computation) : Placing cfg c (placingOrder c) (computeResult cfg c) := by
  rw [computeResult_eq]
  exact foldl_placing (placingOrder c) [] (placing_start cfg c) (placingOrder_pairwise c) fun z hz => (mem_placingOrder.mp hz).2

/-- A candidate that fits the totals of the runs before its zone fits the working copy (R78). -/
theorem fits_iff_candidateFits {c : Computation} (hothers : ∀ x ∈ c.others, x.source ≠ .own) (z : Index) (runs : List Run)
    (length start : Nat) :
    fits c.budget (workingTotals c.others (placedBefore c z runs)) (candidateRun z (c.zones.get z) length (candidateOf c z start)) = true ↔
      CandidateFits c z runs length start := by
  rw [fits_iff]
  refine forall₂_congr fun k hk => ?_
  have hcovers : (candidateRun z (c.zones.get z) length (candidateOf c z start)).covers k = true ↔ (k + 32 - start) % 32 < length :=
    decide_eq_true_iff
  rw [hcovers, getD_workingTotals _ _ hk, cellTotal_setOwn hothers]
  refine forall_congr' fun hin => ?_
  rw [Run.loadIn, if_pos (hcovers.mpr hin), Nat.add_assoc]
  rfl

end Sys2Proof.Machine

namespace Sys2Proof.Proofs.Placement
open Sys2Proof.Machine

/-- Settles O26: the run that covers a cell is placed only where the total with it fits, and a later run that adds to the cell has to fit
there too. -/
theorem searchStaysWithinTheBudget : Obligations.SearchStaysWithinTheBudget := by
  intro cfg c k hk hothers hcovered
  rw [cellTotal_setOwn hothers]
  revert hcovered
  rw [computeResult_eq]
  refine List.foldlRecOn (motive := fun w : Working => (∃ r ∈ w.runs, r.stuck = false ∧ r.covers k = true) →
    workingTotal c.others w.runs k ≤ c.budget) _ _ ?_ fun w hw z _ => ?_
  · rintro ⟨r, hr, hstuck, -⟩
    exact absurd (hstuck.symm.trans (mem_stuckRuns hr).1) Bool.false_ne_true
  · cases hsearch : searchRun cfg c.budget (workingTotals c.others w.runs) z (c.zones.get z) with
    | none => simpa only [placeOne, hsearch] using hw
    | some q =>
      have hfits := fits_iff.mp (searchRun_eq_some hsearch).2.2.2.1 k hk
      rw [getD_workingTotals _ _ hk] at hfits
      simp only [placeOne, hsearch]
      rintro ⟨r, hr, hstuck, hr'⟩
      rw [workingTotal_append]
      refine Nat.le_trans (Nat.min_le_right _ _) ?_
      by_cases hq : q.covers k = true
      · exact hfits hq
      · rw [loadIn_of_not_covers (Bool.eq_false_iff.mpr hq), Nat.add_zero]
        obtain hr | hr := List.mem_append.mp hr
        · exact hw ⟨r, hr, hstuck, hr'⟩
        · exact absurd (List.mem_singleton.mp hr ▸ hr') hq

/-- The zones of a computed placement are different, the STUCK_ON ones first. -/
theorem computeResult_zones_nodup (cfg : Settings) (c : Computation) : ((computeResult cfg c).runs.map Run.zone).Nodup := by
  obtain ⟨rest, hruns, hsub, hrest⟩ := (computeResult_placing cfg c).runs
  have hinj : Function.Injective zoneNumber := fun _ _ => zoneNumber_inj.mp
  have hstuck : ((stuckRuns c).map Run.zone).Nodup := by
    rw [stuckRuns, List.map_map]
    exact (indexes_nodup.filter _).map hinj
  have horder : (placingOrder c).Nodup := (placingOrder_pairwise c).imp fun h => h.ne
  have hplaced : (rest.map Run.zone).Nodup := hsub.nodup (horder.map hinj)
  rw [hruns, List.map_append]
  refine hstuck.append hplaced fun n hn hn' => ?_
  obtain ⟨r, hr, rfl⟩ := List.mem_map.mp hn
  obtain ⟨-, y, hy, k⟩ := mem_stuckRuns hr
  obtain ⟨z, hz, e⟩ := List.mem_map.mp (hsub.subset hn')
  rw [← zoneNumber_inj.mp (e.trans hy)] at k
  exact Bool.false_ne_true ((mem_placingOrder.mp hz).2.symm.trans k)

/-- Settles O27: every zone's run is the outcome of its search against the runs of the zones before it. -/
theorem computedRunsKeepToTheirDemands : Obligations.ComputedRunsKeepToTheirDemands := by
  refine ⟨fun cfg c hmin hdemand => ⟨computeResult_zones_nodup cfg c, ?_, fun z hplaced hstuck hno => ?_⟩,
    fun cfg c z hothers hplaced hstuck => ⟨fun r hr hzone => ?_, fun hno length start hn hlength hfits => ?_⟩⟩
  · have h := computeResult_placing cfg c
    obtain ⟨rest, hruns, hsub, hrest⟩ := h.runs
    refine ⟨rest, hruns, fun r hr => ⟨hrest r hr, ?_⟩, ?_⟩
    · obtain ⟨z, hz, e⟩ := List.mem_map.mp (hsub.subset (List.mem_map_of_mem hr))
      obtain ⟨hplaced, hstuck⟩ := mem_placingOrder.mp hz
      obtain ⟨hsearch, hcurtailed⟩ := h.found z hz r (by rw [hruns]; exact List.mem_append_right _ hr) e.symm
      obtain ⟨hstart, hlength, hrun, -, -⟩ := searchRun_eq_some hsearch
      have hpos := hdemand z hplaced
      have hload : r.load = (c.zones.get z).load := by rw [hrun]; rfl
      have hsurcharge : r.surcharge = startSurcharge c z r.start := congrArg Run.surcharge hrun
      refine ⟨z, e.symm, hplaced, hstuck, by omega, by omega, hstart, hload, ?_, hcurtailed⟩
      rw [hsurcharge, startSurcharge]
      split
      · rename_i k
        exact .inr ⟨rfl, k⟩
      · exact .inl rfl
    · have hzones : ((placingOrder c).map zoneNumber).Pairwise fun m n =>
          ∀ y z : Index, m = zoneNumber y → n = zoneNumber z → PlacedFirst c y z :=
        List.pairwise_map.mpr ((placingOrder_pairwise c).imp fun h y z hy hz =>
          zoneNumber_inj.mp hy ▸ zoneNumber_inj.mp hz ▸ h)
      exact List.pairwise_map.mp (hzones.sublist hsub)
  · exact ((computeResult_placing cfg c).missed z (mem_placingOrder.mpr ⟨hplaced, hstuck⟩) hno).2
  · obtain ⟨hsearch, -⟩ := (computeResult_placing cfg c).found z (mem_placingOrder.mpr ⟨hplaced, hstuck⟩) r hr hzone
    obtain ⟨-, hlength, hrun, hfits, hfirst⟩ := searchRun_eq_some hsearch
    refine ⟨?_, congrArg Run.surcharge hrun, hlength.imp_right And.left, fun length start hn hle hbefore hfits' => ?_⟩
    · rw [hrun] at hfits
      exact (fits_iff_candidateFits hothers z _ _ _).mp hfits
    · have := (fits_iff_candidateFits hothers z _ _ _).mpr hfits'
      exact Bool.false_ne_true ((hfirst length start hn hle hbefore).symm.trans this)
  · obtain ⟨hsearch, -⟩ := (computeResult_placing cfg c).missed z (mem_placingOrder.mpr ⟨hplaced, hstuck⟩) hno
    have := (fits_iff_candidateFits hothers z _ _ _).mpr hfits
    exact Bool.false_ne_true ((searchRun_eq_none.mp hsearch length hlength start hn).symm.trans this)

end Sys2Proof.Proofs.Placement

/-! PROOFS. The freeze on the runs alone: shedding to the freeze limit, and the ration of an unannounced placement (R91, R92). -/

namespace Sys2Proof.Machine

/-! ### Where the own contribution is latest (R73) -/

/-- The own contribution is latest where it has a run and no other contributor is later. -/
theorem ownLatest_setOwn {runs : List Run} {order k : Nat} {others : List Contribution} :
    ownLatest (setOwn runs order others) k = true ↔
      (∃ r ∈ runs, r.covers k = true) ∧ ∀ c ∈ othersOf others, c.inCell k = false ∨ c.order ≤ order := by
  have hothers : othersOf (setOwn runs order others) = othersOf others := by
    have hown : othersOf (setOwn runs order others) = othersOf (othersOf others) := List.filter_cons_of_neg (by simp)
    exact hown.trans (othersOf_eq_self fun x hx => of_decide_eq_true (List.mem_filter.mp hx).2)
  have hof : ownOf (setOwn runs order others) = some { source := .own, order := order, runs := runs, ration := none } :=
    List.find?_cons_of_pos (by simp)
  simp only [ownLatest, hof, hothers, Contribution.inCell, Option.isSome_none, Bool.false_or, Bool.and_eq_true, List.any_eq_true,
    List.all_eq_true, Bool.or_eq_true, Bool.not_eq_true', decide_eq_true_eq]

/-- Loads that do not rise leave a cell within the limit. -/
theorem cellTotal_mono {runs rest : List Run} {order k : Nat} {others : List Contribution}
    (h : (rest.map fun r => r.loadIn k).sum ≤ (runs.map fun r => r.loadIn k).sum) :
    cellTotal (setOwn rest order others) k ≤ cellTotal (setOwn runs order others) k := by
  simp only [cellTotal, setOwn, List.map_cons, List.sum_cons, Contribution.loadIn]
  omega

/-! ### One cut (R91) -/

theorem cutRun_toList (k : Nat) (r : Run) : (cutRun k r).toList = leftOfRun k r := by
  unfold cutRun leftOfRun
  simp only
  split <;> rfl

/-- What is left of a run that covers the slot of the cut: the same run, shorter, and clear of that slot. -/
theorem mem_leftOfRun {k : Nat} {r q : Run} (hcovers : r.covers k = true) (hq : q ∈ leftOfRun k r) :
    q = { r with length := q.length } ∧ q.length ≤ r.length ∧ q.covers k = false ∧ ∀ j, q.covers j = true → r.covers j = true := by
  have hlt : (k + 32 - r.start) % 32 < r.length := of_decide_eq_true hcovers
  unfold leftOfRun at hq
  split at hq
  · exact absurd hq List.not_mem_nil
  · obtain rfl := List.mem_singleton.mp hq
    refine ⟨rfl, le_of_lt hlt, decide_eq_false (lt_irrefl _), fun j hj => decide_eq_true ?_⟩
    have hj' : (j + 32 - r.start) % 32 < (k + 32 - r.start) % 32 := of_decide_eq_true hj
    omega

theorem leftOfRun_load {k : Nat} {r : Run} (hcovers : r.covers k = true) (j : Nat) :
    ((leftOfRun k r).map fun q => q.loadIn j).sum ≤ r.loadIn j := by
  have hleft := fun q => mem_leftOfRun (q := q) hcovers
  unfold leftOfRun at hleft ⊢
  split
  · exact Nat.zero_le _
  · rename_i hne
    rw [if_neg hne] at hleft
    obtain ⟨-, -, -, hmono⟩ := hleft _ (List.mem_singleton_self _)
    rw [List.map_singleton, List.sum_singleton]
    unfold Run.loadIn
    split
    · rename_i hj
      rw [if_pos (hmono j hj)]
    · exact Nat.zero_le _

/-- A cut run of a placement, with what it leaves. -/
theorem cut_load {k : Nat} {r : Run} {before behind : List Run} (hcovers : r.covers k = true) (j : Nat) :
    ((before ++ leftOfRun k r ++ behind).map fun q => q.loadIn j).sum ≤ ((before ++ r :: behind).map fun q => q.loadIn j).sum := by
  have := leftOfRun_load hcovers j
  simp only [List.map_append, List.sum_append, List.map_cons, List.sum_cons]
  omega

/-- A run of a placement that shedding has shortened or left. -/
structure RunKept (q r : Run) : Prop where
  zone : r.zone = q.zone
  start : r.start = q.start
  length : r.length ≤ q.length
  load : r.load = q.load
  surcharge : r.surcharge = q.surcharge
  stuck : r.stuck = q.stuck
  whole : q.stuck = true → r = q
  covers : ∀ j, r.covers j = true → q.covers j = true

theorem RunKept.refl (r : Run) : RunKept r r := ⟨rfl, rfl, le_refl _, rfl, rfl, rfl, fun _ => rfl, fun _ => id⟩

theorem RunKept.trans {q r t : Run} (h : RunKept q r) (k : RunKept r t) : RunKept q t :=
  ⟨k.zone.trans h.zone, k.start.trans h.start, k.length.trans h.length, k.load.trans h.load, k.surcharge.trans h.surcharge,
    k.stuck.trans h.stuck, fun e => (k.whole (h.stuck.trans e)).trans (h.whole e), fun j => h.covers j ∘ k.covers j⟩

theorem runKept_of_left {k : Nat} {r q : Run} (hstuck : r.stuck = false) (hcovers : r.covers k = true) (hq : q ∈ leftOfRun k r) :
    RunKept r q := by
  obtain ⟨e, hlength, -, hmono⟩ := mem_leftOfRun hcovers hq
  exact ⟨by rw [e], by rw [e], hlength, by rw [e], by rw [e], by rw [e], fun k => absurd (hstuck.symm.trans k) Bool.false_ne_true, hmono⟩

/-- What one cut does to a placement. -/
theorem ShedCut.kept {limit order : Nat} {others : List Contribution} {runs rest : List Run} (h : ShedCut limit order others runs rest) :
    (∀ r ∈ rest, ∃ q ∈ runs, RunKept q r) ∧ (rest.map Run.zone).Sublist (runs.map Run.zone) ∧
      (∀ r ∈ runs, r.stuck = true → r ∈ rest) ∧ ∀ j, (rest.map fun r => r.loadIn j).sum ≤ (runs.map fun r => r.loadIn j).sum := by
  obtain ⟨k, before, behind, r, -, -, -, rfl, hstuck, hcovers, -, rfl⟩ := h
  refine ⟨fun q hq => ?_, ?_, fun q hq hq' => ?_, cut_load hcovers⟩
  · obtain hq | hq := List.mem_append.mp hq
    · obtain hq | hq := List.mem_append.mp hq
      · exact ⟨q, List.mem_append_left _ hq, RunKept.refl q⟩
      · exact ⟨r, by simp, runKept_of_left hstuck hcovers hq⟩
    · exact ⟨q, List.mem_append_right _ (List.mem_cons_of_mem _ hq), RunKept.refl q⟩
  · have hleft : ((leftOfRun k r).map Run.zone).Sublist [r.zone] := by
      unfold leftOfRun
      split
      · exact List.nil_sublist _
      · exact List.Sublist.refl _
    simp only [List.map_append, List.map_cons, List.append_assoc]
    exact (List.Sublist.refl _).append (hleft.append (List.Sublist.refl _))
  · obtain hq | hq := List.mem_append.mp hq
    · exact List.mem_append_left _ (List.mem_append_left _ hq)
    · obtain rfl | hq := List.mem_cons.mp hq
      · exact absurd (hstuck.symm.trans hq') Bool.false_ne_true
      · exact List.mem_append_right _ hq

/-- A cut makes no slot one that has to be shed. -/
theorem ShedCut.hasToShed {limit order : Nat} {others : List Contribution} {runs rest : List Run} (h : ShedCut limit order others runs rest)
    {j : Nat} (hj : HasToShed limit order others rest j) : HasToShed limit order others runs j := by
  obtain ⟨horigin, -, -, hload⟩ := h.kept
  obtain ⟨hlatest, hlimit, r, hr, hstuck, hcovers⟩ := hj
  obtain ⟨⟨p, hp, hp'⟩, hothers⟩ := ownLatest_setOwn.mp hlatest
  obtain ⟨q, hq, hkept⟩ := horigin r hr
  obtain ⟨p', hpq, hpkept⟩ := horigin p hp
  exact ⟨ownLatest_setOwn.mpr ⟨⟨p', hpq, hpkept.covers j hp'⟩, hothers⟩, lt_of_lt_of_le hlimit (cellTotal_mono (hload j)),
    q, hq, hkept.stuck ▸ hstuck, hkept.covers j hcovers⟩

/-- Cuts one after the other. -/
abbrev ShedCuts (limit order : Nat) (others : List Contribution) : List Run → List Run → Prop :=
  Relation.ReflTransGen (ShedCut limit order others)

theorem ShedCuts.hasToShed {limit order : Nat} {others : List Contribution} {runs rest : List Run} (h : ShedCuts limit order others runs rest)
    {j : Nat} (hj : HasToShed limit order others rest j) : HasToShed limit order others runs j := by
  induction h with
  | refl => exact hj
  | tail _ hcut ih => exact ih (hcut.hasToShed hj)

theorem ShedCuts.kept {limit order : Nat} {others : List Contribution} {runs rest : List Run} (h : ShedCuts limit order others runs rest) :
    (∀ r ∈ rest, ∃ q ∈ runs, RunKept q r) ∧ (rest.map Run.zone).Sublist (runs.map Run.zone) ∧ ∀ r ∈ runs, r.stuck = true → r ∈ rest := by
  induction h with
  | refl => exact ⟨fun r hr => ⟨r, hr, RunKept.refl r⟩, List.Sublist.refl _, fun _ hr _ => hr⟩
  | tail _ hcut ih =>
    obtain ⟨horigin, hzones, hstuck⟩ := ih
    obtain ⟨horigin', hzones', hstuck', -⟩ := hcut.kept
    refine ⟨fun r hr => ?_, hzones'.trans hzones, fun r hr k => hstuck' r (hstuck r hr k) k⟩
    obtain ⟨p, hp, hrp⟩ := horigin' r hr
    obtain ⟨q, hq, hpq⟩ := horigin p hp
    exact ⟨q, hq, hpq.trans hrp⟩

/-! ### Shedding in one cell (R91) -/

/-- The cut of a zone's only run. -/
theorem cutZone_split (k : Nat) {before behind : List Run} {r : Run} (h : ((before ++ r :: behind).map Run.zone).Nodup) :
    cutZone k r.zone (before ++ r :: behind) = before ++ leftOfRun k r ++ behind := by
  have hother : ∀ l : List Run, (∀ q ∈ l, q.zone ≠ r.zone) →
      (l.filterMap fun q => if q.zone = r.zone then cutRun k q else some q) = l := fun l hl => by
    refine (List.filterMap_congr (g := some) fun q hq => if_neg (hl q hq)).trans List.filterMap_some
  rw [List.map_append, List.map_cons, List.nodup_middle, List.nodup_cons, List.mem_append] at h
  have hbefore := hother before fun q hq e => h.1 (.inl (e ▸ List.mem_map_of_mem hq))
  have hbehind := hother behind fun q hq e => h.1 (.inr (e ▸ List.mem_map_of_mem hq))
  rw [cutZone, List.filterMap_append, hbefore, List.filterMap_cons, if_pos rfl, ← cutRun_toList]
  cases cutRun k r <;> simp [hbehind]

/-- Shedding in a cell makes single cuts, each of the last run that covers it, until the cell has not to be shed. The runs behind those still
to be tried do not cover the cell without the stuck mark, as long as the total exceeds the limit. -/
theorem shedCell_cuts {limit order k : Nat} {others : List Contribution} (hk : k < 32)
    (hothers : ∀ c ∈ othersOf others, c.inCell k = false ∨ c.order ≤ order) (todo done : List Run)
    (hzones : ((todo ++ done).map Run.zone).Nodup)
    (hlower : ∀ j : Nat, j < k → ¬HasToShed limit order others (todo ++ done) j)
    (hdone : limit < cellTotal (setOwn (todo ++ done) order others) k → ∀ q ∈ done, q.covers k = true → q.stuck = true) :
    ShedCuts limit order others (todo ++ done) (shedCell limit order k others (todo.reverse.map Run.zone) (todo ++ done)) ∧
      ¬HasToShed limit order others (shedCell limit order k others (todo.reverse.map Run.zone) (todo ++ done)) k := by
  induction todo using List.reverseRecOn generalizing done with
  | nil =>
    refine ⟨Relation.ReflTransGen.refl, fun h => ?_⟩
    obtain ⟨-, hlimit, r, hr, hstuck, hcovers⟩ := h
    exact Bool.false_ne_true (hstuck.symm.trans (hdone hlimit r hr hcovers))
  | append_singleton todo r ih =>
    rw [List.append_assoc, List.singleton_append] at hzones hlower hdone ⊢
    rw [List.reverse_append, List.reverse_singleton, List.singleton_append, List.map_cons, shedCell]
    split
    · rename_i hcut
      obtain ⟨hlimit, hany⟩ := Bool.and_eq_true_iff.mp hcut
      have hlimit := of_decide_eq_true hlimit
      obtain ⟨q, hq, hq'⟩ := List.any_eq_true.mp hany
      obtain ⟨hq', hstuck⟩ := Bool.and_eq_true_iff.mp hq'
      obtain ⟨hzone, hcovers⟩ := Bool.and_eq_true_iff.mp hq'
      have hqr : q = r := List.inj_on_of_nodup_map hzones hq (by simp) (of_decide_eq_true hzone)
      rw [hqr] at hcovers hstuck
      have hstuck := (Bool.not_eq_true' _).mp hstuck
      have hhas : HasToShed limit order others (todo ++ r :: done) k :=
        ⟨ownLatest_setOwn.mpr ⟨⟨r, by simp, hcovers⟩, hothers⟩, hlimit, r, by simp, hstuck, hcovers⟩
      have hsingle : ShedCut limit order others (todo ++ r :: done) (todo ++ (leftOfRun k r ++ done)) :=
        ⟨k, todo, done, r, hk, hhas, hlower, rfl, hstuck, hcovers, hdone hlimit, (List.append_assoc _ _ _).symm⟩
      obtain ⟨-, hsub, -, hload⟩ := hsingle.kept
      rw [cutZone_split k hzones, List.append_assoc]
      obtain ⟨hcuts, hnot⟩ := ih (leftOfRun k r ++ done) (hsub.nodup hzones) (fun j hj h => hlower j hj (hsingle.hasToShed h)) fun _ p hp hp' => by
        obtain hp | hp := List.mem_append.mp hp
        · exact absurd hp' (Bool.eq_false_iff.mp (mem_leftOfRun hcovers hp).2.2.1)
        · exact hdone hlimit p hp hp'
      exact ⟨Relation.ReflTransGen.head hsingle hcuts, hnot⟩
    · rename_i hcut
      refine ih (r :: done) hzones hlower fun hlimit p hp hp' => ?_
      obtain rfl | hp := List.mem_cons.mp hp
      · by_contra hstuck
        refine hcut (Bool.and_eq_true_iff.mpr ⟨decide_eq_true hlimit, List.any_eq_true.mpr ⟨p, by simp, ?_⟩⟩)
        simpa [hp'] using hstuck
      · exact hdone hlimit p hp hp'

/-- Shedding over the first cells. -/
theorem shedCells_cuts {limit order : Nat} {others : List Contribution} {runs : List Run} (hzones : (runs.map Run.zone).Nodup) (n : Nat)
    (hn : n ≤ 32) :
    let rest := (List.range n).foldl (fun rs k =>
      if ownLatest (setOwn rs order others) k then shedCell limit order k others (rs.reverse.map Run.zone) rs else rs) runs
    ShedCuts limit order others runs rest ∧ ∀ j : Nat, j < n → ¬HasToShed limit order others rest j := by
  induction n with
  | zero => exact ⟨Relation.ReflTransGen.refl, fun _ h => absurd h (Nat.not_lt_zero _)⟩
  | succ n ih =>
    obtain ⟨hcuts, hlower⟩ := ih (Nat.le_of_succ_le hn)
    simp only [List.range_succ, List.foldl_append, List.foldl_cons, List.foldl_nil]
    split
    · rename_i hlatest
      have hmore := shedCell_cuts (limit := limit) (Nat.lt_of_succ_le hn) (ownLatest_setOwn.mp hlatest).2 _ []
        (by rw [List.append_nil]; exact hcuts.kept.2.1.nodup hzones) (by rw [List.append_nil]; exact hlower)
        fun _ _ h => absurd h List.not_mem_nil
      rw [List.append_nil] at hmore
      refine ⟨hcuts.trans hmore.1, fun j hj => ?_⟩
      obtain hj | rfl := Nat.lt_succ_iff_lt_or_eq.mp hj
      · exact fun h => hlower j hj (ShedCuts.hasToShed hmore.1 h)
      · exact hmore.2
    · rename_i hlatest
      refine ⟨hcuts, fun j hj => ?_⟩
      obtain hj | rfl := Nat.lt_succ_iff_lt_or_eq.mp hj
      · exact hlower j hj
      · exact fun h => hlatest h.1

/-- Shedding makes single cuts until no slot has to be shed. -/
theorem shed_cuts {limit order : Nat} {others : List Contribution} {runs : List Run} (hzones : (runs.map Run.zone).Nodup) :
    ShedCuts limit order others runs (shed limit order others runs) ∧
      ∀ j : Nat, j < 32 → ¬HasToShed limit order others (shed limit order others runs) j :=
  shedCells_cuts hzones 32 (le_refl _)

/-! ### The ration (R92) -/

theorem withinRation_iff {cfg : Settings} {runs : List Run} :
    withinRation cfg.ration runs = true ↔ WithinRation cfg (runs.filter fun r => !r.stuck) := by
  simp only [withinRation, List.all_eq_true, mem_slots, decide_eq_true_eq]
  rfl

theorem rationRuns_of_within {cfg : Settings} {runs : List Run} (h : WithinRation cfg (runs.filter fun r => !r.stuck)) (zones : List Nat) :
    rationRuns cfg.ration zones runs = runs := by
  cases zones with
  | nil => rfl
  | cons z zones => rw [rationRuns, if_pos (withinRation_iff.mpr h)]

theorem rationRuns_sublist (ration : Nat) (zones : List Nat) (runs : List Run) : (rationRuns ration zones runs).Sublist runs := by
  induction zones generalizing runs with
  | nil => exact List.Sublist.refl _
  | cons z zones ih =>
    unfold rationRuns
    split
    · exact List.Sublist.refl _
    · exact (ih _).trans List.filter_sublist

/-- Where every run without the stuck mark can be removed, the rest is within the ration. -/
theorem rationRuns_within {cfg : Settings} (zones : List Nat) (runs : List Run) (h : ∀ r ∈ runs, r.stuck = false → r.zone ∈ zones) :
    WithinRation cfg ((rationRuns cfg.ration zones runs).filter fun r => !r.stuck) := by
  induction zones generalizing runs with
  | nil =>
    intro k _
    have hnone : (runs.filter fun r => !r.stuck) = [] := List.filter_eq_nil_iff.mpr fun r hr hstuck =>
      absurd (h r hr ((Bool.not_eq_true' _).mp hstuck)) List.not_mem_nil
    rw [rationRuns, hnone]
    exact Nat.zero_le _
  | cons z zones ih =>
    unfold rationRuns
    split
    · exact withinRation_iff.mp ‹_›
    · refine ih _ fun r hr hstuck => ?_
      obtain ⟨hr, hzone⟩ := List.mem_filter.mp hr
      rw [hstuck, Bool.false_or] at hzone
      obtain e | hmem := List.mem_cons.mp (h r hr hstuck)
      · exact absurd e (of_decide_eq_true hzone)
      · exact hmem

theorem rationRuns_stuck (ration : Nat) (zones : List Nat) (runs : List Run) :
    (rationRuns ration zones runs).filter Run.stuck = runs.filter Run.stuck := by
  induction zones generalizing runs with
  | nil => rfl
  | cons z zones ih =>
    unfold rationRuns
    split
    · rfl
    · rw [ih, List.filter_filter]
      exact List.filter_congr fun r _ => by cases r.stuck <;> simp

/-- The runs left are the first ones, as many as keep within the ration. -/
theorem rationRuns_take {cfg : Settings} {all : List Run} (hzones : (all.map Run.zone).Nodup) (kept rest runs : List Run)
    (hall : all = kept ++ rest) (hruns : (runs.filter fun r => !r.stuck) = kept)
    (hmore : ∀ more : Nat, kept.length < more → more ≤ all.length → ¬WithinRation cfg (all.take more)) :
    ∃ n : Nat, n ≤ all.length ∧
      ((rationRuns cfg.ration (kept.reverse.map Run.zone) runs).filter fun r => !r.stuck) = all.take n ∧
      ∀ more : Nat, n < more → more ≤ all.length → ¬WithinRation cfg (all.take more) := by
  have htake : all.take kept.length = kept := by rw [hall, List.take_left]
  have hlength : kept.length ≤ all.length := by rw [hall, List.length_append]; exact Nat.le_add_right _ _
  induction kept using List.reverseRecOn generalizing rest runs with
  | nil => exact ⟨0, Nat.zero_le _, by rw [List.take_zero]; exact hruns, hmore⟩
  | append_singleton kept r ih =>
    by_cases hwithin : WithinRation cfg (runs.filter fun r => !r.stuck)
    · exact ⟨_, hlength, by rw [rationRuns_of_within hwithin, hruns, htake], hmore⟩
    · have hstep : rationRuns cfg.ration ((kept ++ [r]).reverse.map Run.zone) runs =
          rationRuns cfg.ration (kept.reverse.map Run.zone) (runs.filter fun q => q.stuck || decide (q.zone ≠ r.zone)) := by
        rw [List.reverse_append, List.reverse_singleton, List.singleton_append, List.map_cons, rationRuns,
          if_neg fun k => hwithin (withinRation_iff.mp k)]
      have hall' : all = kept ++ (r :: rest) := by rw [hall, List.append_assoc, List.singleton_append]
      have hfirst : ∀ q ∈ kept, q.zone ≠ r.zone := fun q hq e => by
        rw [hall', List.map_append, List.map_cons, List.nodup_middle, List.nodup_cons, List.mem_append] at hzones
        exact hzones.1 (.inl (e ▸ List.mem_map_of_mem hq))
      have hleft : ((runs.filter fun q => q.stuck || decide (q.zone ≠ r.zone)).filter fun q => !q.stuck) = kept := by
        have hswap : ((runs.filter fun q => q.stuck || decide (q.zone ≠ r.zone)).filter fun q => !q.stuck) =
            ((runs.filter fun q => !q.stuck).filter fun q => decide (q.zone ≠ r.zone)) := by
          rw [List.filter_filter, List.filter_filter]
          exact List.filter_congr fun q _ => by cases q.stuck <;> simp
        rw [hswap, hruns, List.filter_append, List.filter_eq_self.mpr fun q hq => decide_eq_true (hfirst q hq)]
        simp
      rw [hstep]
      refine ih (r :: rest) _ hall' hleft (fun more hlt hle => ?_) (by rw [hall', List.take_left])
        (by rw [hall', List.length_append]; exact Nat.le_add_right _ _)
      obtain rfl | hlt := Nat.eq_or_lt_of_le hlt
      · have hend : all.take kept.length.succ = kept ++ [r] := by simpa using htake
        rw [hend, ← hruns]
        exact hwithin
      · exact hmore more (by simpa using hlt) hle

end Sys2Proof.Machine

namespace Sys2Proof.Proofs.Freeze
open Sys2Proof.Machine

/-- Settles O28: shedding makes single cuts until no slot has to be shed, and a cut makes no slot one that has to be shed. -/
theorem sheddingMeetsTheFreezeLimit : Obligations.SheddingMeetsTheFreezeLimit := by
  refine ⟨fun limit order others runs hzones => ?_, fun limit order others runs hzones => ?_⟩
  · obtain ⟨hcuts, hnone⟩ := shed_cuts (limit := limit) (order := order) (others := others) hzones
    obtain ⟨horigin, hsub, -⟩ := hcuts.kept
    refine ⟨fun k hk hlatest => ?_, fun r hr => ?_, hsub⟩
    · by_contra hnot
      obtain ⟨hlimit, hexists⟩ := not_or.mp hnot
      refine hnone k hk ⟨hlatest, not_le.mp hlimit, ?_⟩
      by_contra hstuck
      exact hexists fun r hr hcovers => by_contra fun k => hstuck ⟨r, hr, Bool.eq_false_iff.mpr k, hcovers⟩
    · obtain ⟨q, hq, hkept⟩ := horigin r hr
      exact ⟨q, hq, hkept.zone, hkept.start, hkept.length, hkept.load, hkept.surcharge, hkept.stuck, hkept.whole⟩
  · obtain ⟨hcuts, hnone⟩ := shed_cuts (limit := limit) (order := order) (others := others) hzones
    refine ⟨hcuts.kept.2.2, fun hwithin => ?_, hcuts, fun rest hcut => ?_⟩
    · obtain e | ⟨next, hcut, -⟩ := Relation.ReflTransGen.cases_head hcuts
      · exact e.symm
      · obtain ⟨k, _, _, _, hk, hhas, -⟩ := hcut
        exact absurd (hwithin k hk hhas.1) (not_le.mpr hhas.2.1)
    · obtain ⟨k, _, _, _, hk, hhas, -⟩ := hcut
      exact hnone k hk hhas

/-- Settles O29: runs go from the last on until the rest is within the ration, or none without the stuck mark is left. -/
theorem unannouncedRunsKeepToTheRation : Obligations.UnannouncedRunsKeepToTheRation := by
  have hstuckAlone : ∀ runs : List Run, ((runs.filter Run.stuck).filter fun r => !r.stuck) = [] := fun runs => by
    rw [List.filter_filter]
    exact List.filter_eq_nil_iff.mpr fun r _ => by cases r.stuck <;> simp
  refine ⟨fun cfg count runs => ⟨?_, fun hlimit => if_pos hlimit, ?_⟩, fun cfg count runs hlimit => ⟨fun hwithin => ?_, fun hzones => ?_⟩⟩
  · unfold unannouncedRuns
    split
    · intro k _
      rw [hstuckAlone]
      exact Nat.zero_le _
    · refine rationRuns_within _ runs fun r hr hstuck => List.mem_map_of_mem (List.mem_reverse.mpr (List.mem_filter.mpr ⟨hr, ?_⟩))
      rw [hstuck]
      rfl
  · unfold unannouncedRuns
    split
    · exact List.filter_sublist
    · exact rationRuns_sublist _ _ _
  · rw [unannouncedRuns, if_neg (not_le.mpr hlimit), rationRuns_of_within hwithin]
  · rw [unannouncedRuns, if_neg (not_le.mpr hlimit)]
    refine ⟨rationRuns_stuck _ _ _, rationRuns_take ?_ _ [] runs (List.append_nil _).symm rfl fun more hlt hle => ?_⟩
    · exact (List.filter_sublist.map _).nodup hzones
    · exact absurd hlt (not_lt.mpr hle)

end Sys2Proof.Proofs.Freeze

/-! PROOFS. Frames and payloads (R117 to R126, R129): the bits a station sends are the frame another receives, and the fields of a payload
stand where they were put. -/

namespace Sys2Proof.Machine

/-! ### Numbers in bits and bytes (R117) -/

theorem natBits_length (w n : Nat) : (natBits w n).length = w := by
  induction w with
  | zero => rfl
  | succ w ih => rw [natBits, List.length_cons, ih]

theorem foldl_natBits (w n a : Nat) : (natBits w n).foldl (fun a b => 2 * a + b.toNat) a = a * 2 ^ w + n % 2 ^ w := by
  induction w generalizing a with
  | zero => simp [natBits, Nat.mod_one]
  | succ w ih =>
    rw [natBits, List.foldl_cons, ih, Nat.mod_pow_succ, Nat.toNat_testBit, Nat.pow_succ]
    ring

/-- A number of `w` bits reads back. -/
theorem bitsNat_natBits {w n : Nat} (h : n < 2 ^ w) : bitsNat (natBits w n) = n := by
  rw [bitsNat, foldl_natBits, Nat.zero_mul, Nat.zero_add, Nat.mod_eq_of_lt h]

theorem byteBits_eq (b : Byte) : byteBits b = natBits 8 b.toNat := rfl

theorem byteBits_length (b : Byte) : (byteBits b).length = 8 := rfl

theorem flatMap_byteBits_length (l : List Byte) : (l.flatMap byteBits).length = 8 * l.length := by
  induction l with
  | nil => rfl
  | cons b l ih => rw [List.flatMap_cons, List.length_append, ih, byteBits_length, List.length_cons]; ring

/-- Bytes written bit by bit read back. -/
theorem bitsBytes_flatMap (l : List Byte) (rest : List Bool) : bitsBytes l.length (l.flatMap byteBits ++ rest) = l := by
  induction l with
  | nil => rfl
  | cons b l ih =>
    have hb : BitVec.ofNat 8 (bitsNat (byteBits b)) = b := by
      rw [byteBits_eq, bitsNat_natBits b.isLt, BitVec.ofNat_toNat, BitVec.setWidth_eq]
    rw [List.length_cons, bitsBytes, List.flatMap_cons, List.append_assoc, List.take_left' (byteBits_length b),
      List.drop_left' (byteBits_length b), hb, ih]

/-! ### The stuffed part of a frame (R119 to R121, R140, R142) -/

/-- The number of data bits in all, as the Length field among them says. -/
def dataTotal (d : List Bool) : Nat := 35 + 8 * bitsNat ((d.drop 13).take 6)

/-- The number of data bits a receiver waits for once it has taken some: the whole number from the 19th on. -/
def dataNeed (d : List Bool) (n : Nat) : Nat := if n < 19 then 19 else dataTotal d

/-- Data bits of a frame whose Length and Check agree with them. -/
structure WholeData (d : List Bool) : Prop where
  length : d.length = dataTotal d
  check : dataCheckPasses d = true

/-- The number waited for after one more data bit. -/
theorem need_after {d acc later : List Bool} {b : Bool} (hsplit : acc.reverse ++ b :: later = d) : (if acc.length + 1 = 19 then 35 + 8 * bitsNat ((b :: acc).take 6).reverse else dataNeed d acc.length) =
    dataNeed d (acc.length + 1) := by
  unfold dataNeed
  split
  · rename_i h19
    have hreverse : (b :: acc).reverse ++ later = d := by rw [List.reverse_cons, List.append_assoc]; exact hsplit
    have hlength : (b :: acc).length = 19 := h19
    have hfield : ((b :: acc).take 6).reverse = (d.drop 13).take 6 := by
      have h13 : ((b :: acc).reverse.drop 13).length = 6 := by rw [List.length_drop, List.length_reverse, hlength]
      rw [List.reverse_take, hlength, ← hreverse, List.drop_append_of_le_length (by rw [List.length_reverse, hlength]; decide),
        List.take_left' h13]
    rw [if_neg (by omega), hfield, dataTotal]
  · have : (acc.length < 19) = (acc.length + 1 < 19) := propext (by omega)
    simp only [this]

section Receiving

variable {d acc later tail : List Bool} {b v : Bool} {run : Nat} (hd : WholeData d) (hsplit : acc.reverse ++ b :: later = d)
include hd hsplit

theorem acc_length : acc.length + 1 + later.length = dataTotal d := by
  rw [← hd.length, ← hsplit, List.length_append, List.length_cons, List.length_reverse]
  omega

/-- One data bit taken: the next ones follow, or the check has passed. -/
theorem rxStuffed_data (hrun : run ≠ 6) (bits : List Bool) :
    rxStuffed v run acc acc.length (dataNeed d acc.length) (b :: bits) =
      if later = [] then
        if (if b = v then run + 1 else 1) = 6 then rxStuffed b 6 (b :: acc) d.length d.length bits else .passed (frameOfData d) bits
      else rxStuffed b (if b = v then run + 1 else 1) (b :: acc) (acc.length + 1) (dataNeed d (acc.length + 1)) bits := by
  have hlength := acc_length hd hsplit
  have htotal : 35 ≤ dataTotal d := Nat.le_add_right _ _
  have hlast : acc.length + 1 = dataNeed d (acc.length + 1) ↔ later = [] := by
    rw [← List.length_eq_zero_iff]
    unfold dataNeed
    split <;> omega
  rw [rxStuffed, if_neg hrun]
  simp only [need_after hsplit, hlast]
  split
  · rename_i hnil
    have hall : (b :: acc).reverse = d := by rw [List.reverse_cons, ← hsplit, hnil]
    have hnumber : acc.length + 1 = d.length := by rw [hd.length, ← hlength, hnil]; rfl
    have hneed : dataNeed d (acc.length + 1) = d.length := by rw [← hlast.mpr hnil, hnumber]
    rw [hall, if_pos hd.check, hneed, hnumber]
  · rfl

/-- A stuff bit taken: the data bits that follow begin a run with it. -/
theorem rxStuffed_stuff (bits : List Bool) :
    rxStuffed v 6 acc acc.length (dataNeed d acc.length) ((!v) :: bits) =
      rxStuffed (!v) 1 acc acc.length (dataNeed d acc.length) bits := by
  have hlength := acc_length hd hsplit
  have hmore : acc.length ≠ dataNeed d acc.length := by
    unfold dataNeed
    split <;> omega
  rw [rxStuffed, if_pos rfl, if_neg (by cases v <;> decide), if_neg hmore]

end Receiving

/-- The bits sent for the rest of the data, after a run, are received as all of it (R119, R120). -/
theorem rxStuffed_stuffBits {d tail : List Bool} (hd : WholeData d) (later : List Bool) (acc : List Bool) (v : Bool) (run arb : Nat)
    (hsplit : acc.reverse ++ later = d) (hne : later ≠ []) :
    rxStuffed v run acc acc.length (dataNeed d acc.length) ((stuffBits v run arb later).map SentBit.level ++ tail) =
      .passed (frameOfData d) tail := by
  induction later generalizing acc v run arb with
  | nil => exact absurd rfl hne
  | cons b later ih =>
    have hdata : ∀ (w : Bool) (n arb : Nat), n ≠ 6 →
        rxStuffed w n acc acc.length (dataNeed d acc.length)
          (b :: ((stuffBits b (if b = w then n + 1 else 1) arb later).map SentBit.level ++ tail)) = .passed (frameOfData d) tail := by
      intro w n arb hn
      rw [rxStuffed_data hd hsplit hn]
      split
      · rename_i hnil
        subst hnil
        have hall : (b :: acc).reverse = d := by rw [List.reverse_cons, hsplit]
        rw [stuffBits]
        by_cases h6 : (if b = w then n + 1 else 1) = 6
        · rw [if_pos h6, if_pos h6]
          rw [List.map_cons, List.map_nil, List.cons_append, List.nil_append, rxStuffed, if_pos rfl, if_neg (by cases b <;> decide),
            if_pos rfl, hall]
        · rw [if_neg h6, if_neg h6]
          rfl
      · exact ih (b :: acc) b _ arb (by rw [List.reverse_cons, List.append_assoc]; exact hsplit) ‹_›
    rw [stuffBits]
    split
    · rename_i h6
      rw [h6, List.map_cons, List.map_cons, List.cons_append, List.cons_append, rxStuffed_stuff hd hsplit]
      exact hdata (!v) 1 (arb - 1) (by decide)
    · rw [List.map_cons, List.cons_append]
      exact hdata v run (arb - 1) ‹_›

/-! ### The fields of a frame (R118, R121) -/

section Fields

variable (kind source group : Nat) (payload : List Byte)

theorem frameFields_length : (frameFields kind source group payload).length = 19 + 8 * payload.length := by
  simp only [frameFields, List.length_append, natBits_length, flatMap_byteBits_length]

/-- The data bits of a frame, field by field. -/
theorem frameData_eq : frameData kind source group payload =
    natBits 3 kind ++ (natBits 6 source ++ (natBits 4 group ++ (natBits 6 payload.length ++ (payload.flatMap byteBits ++
      natBits 16 (checkBits (frameFields kind source group payload)).toNat)))) := by
  simp only [frameData, frameFields, List.append_assoc]

theorem frameData_drop3 : (frameData kind source group payload).drop 3 = natBits 6 source ++ (natBits 4 group ++
    (natBits 6 payload.length ++ (payload.flatMap byteBits ++
      natBits 16 (checkBits (frameFields kind source group payload)).toNat))) := by
  rw [frameData_eq, List.drop_left' (natBits_length 3 kind)]

theorem frameData_drop9 : (frameData kind source group payload).drop 9 = natBits 4 group ++ (natBits 6 payload.length ++
    (payload.flatMap byteBits ++ natBits 16 (checkBits (frameFields kind source group payload)).toNat)) := by
  rw [show 9 = 3 + 6 from rfl, ← List.drop_drop, frameData_drop3, List.drop_left' (natBits_length 6 source)]

theorem frameData_drop13 : (frameData kind source group payload).drop 13 = natBits 6 payload.length ++
    (payload.flatMap byteBits ++ natBits 16 (checkBits (frameFields kind source group payload)).toNat) := by
  rw [show 13 = 9 + 4 from rfl, ← List.drop_drop, frameData_drop9, List.drop_left' (natBits_length 4 group)]

theorem frameData_drop19 : (frameData kind source group payload).drop 19 =
    payload.flatMap byteBits ++ natBits 16 (checkBits (frameFields kind source group payload)).toNat := by
  rw [show 19 = 13 + 6 from rfl, ← List.drop_drop, frameData_drop13, List.drop_left' (natBits_length 6 payload.length)]

variable {payload} (hpayload : payload.length < 64)
include hpayload

theorem frameData_lengthField : bitsNat (((frameData kind source group payload).drop 13).take 6) = payload.length := by
  rw [frameData_drop13, List.take_left' (natBits_length 6 payload.length), bitsNat_natBits hpayload]

/-- The data of a frame sent has the length its Length field says, and the check it was given (R120, R121). -/
theorem frameData_whole : WholeData (frameData kind source group payload) where
  length := by
    have hlength : (frameData kind source group payload).length = 19 + 8 * payload.length + 16 := by
      simp only [frameData, List.length_append, natBits_length, frameFields_length]
    rw [dataTotal, frameData_lengthField kind source group hpayload, hlength]
    omega
  check := by
    have hfields := frameFields_length kind source group payload
    simp only [dataCheckPasses, frameData_lengthField kind source group hpayload]
    rw [frameData, List.drop_left' hfields, List.take_left' hfields, bitsNat_natBits (BitVec.isLt _)]
    exact decide_eq_true rfl

/-- The fields of a frame read back from its data. -/
theorem frameOfData_frameData (hkind : kind < 8) (hsource : source < 64) (hgroup : group < 16) :
    frameOfData (frameData kind source group payload) =
      { kind := kind, source := source, group := group, length := payload.length, payload := payload } := by
  simp only [frameOfData, frameData_lengthField kind source group hpayload]
  rw [frameData_drop3, frameData_drop9, frameData_drop19, bitsBytes_flatMap, List.take_left' (natBits_length 6 source),
    List.take_left' (natBits_length 4 group), bitsNat_natBits hsource, bitsNat_natBits hgroup, frameData_eq,
    List.take_left' (natBits_length 3 kind), bitsNat_natBits hkind]

/-- The stuffed bits of a frame are received as its fields, with the check passed and the bits after them left over. -/
theorem rxPart_sentBits (hkind : kind < 8) (hsource : source < 64) (hgroup : group < 16) (tail : List Bool) :
    rxPart ((sentBits kind source group payload).map SentBit.level ++ tail) =
      .passed { kind := kind, source := source, group := group, length := payload.length, payload := payload } tail := by
  have hne : frameData kind source group payload ≠ [] := fun h => by
    have := (frameData_whole kind source group hpayload).length
    rw [h] at this
    exact absurd this (by unfold dataTotal; rw [List.length_nil]; omega)
  rw [← frameOfData_frameData kind source group hpayload hkind hsource hgroup]
  exact rxStuffed_stuffBits (frameData_whole kind source group hpayload) _ [] false 1 9 rfl hne

end Fields

/-! ### Fields of a byte (R117) -/

theorem u8At_of_byte {l : List Byte} {i n : Nat} (hbyte : byteAt l i = BitVec.ofNat 8 n) (hn : n < 256) : u8At l i = n := by
  rw [u8At, hbyte, BitVec.toNat_ofNat, Nat.mod_eq_of_lt hn]

theorem bitField_ofNat {n : Nat} (hn : n < 256) (lo w : Nat) : bitField (BitVec.ofNat 8 n) lo w = n / 2 ^ lo % 2 ^ w := by
  rw [bitField, BitVec.toNat_ofNat, Nat.mod_eq_of_lt hn]

theorem getLsbD_ofNat_byte {n i : Nat} {b : Bool} (hi : i < 8) (h : n / 2 ^ i % 2 = b.toNat) : (BitVec.ofNat 8 n).getLsbD i = b := by
  rw [BitVec.getLsbD_ofNat, decide_eq_true hi, Bool.true_and, Nat.testBit_eq_decide_div_mod_eq, h]
  cases b <;> rfl

theorem toNat_le_one (b : Bool) : b.toNat ≤ 1 := by cases b <;> decide

/-- A two-byte field reads back (R117). -/
theorem u16At_of_bytes {l : List Byte} {i n : Nat} (hhigh : byteAt l i = BitVec.ofNat 8 (n / 256))
    (hlow : byteAt l (i + 1) = BitVec.ofNat 8 n) (hn : n < 65536) : u16At l i = n := by
  rw [u16At, u8At, u8At, hhigh, hlow, BitVec.toNat_ofNat, BitVec.toNat_ofNat]
  omega

/-- A temperature field reads back, with −32768 for an absent one (R117). -/
theorem temperatureAt_of_bytes {l : List Byte} {i : Nat} {t : Option Int} (ht : ∀ x, t = some x → inTemperatureRange x)
    (hhigh : byteAt l i = BitVec.ofNat 8 (((t.getD (-32768)) % 65536).toNat / 256))
    (hlow : byteAt l (i + 1) = BitVec.ofNat 8 ((t.getD (-32768)) % 65536).toNat) : temperatureAt l i = t := by
  have hword := u16At_of_bytes hhigh hlow (by omega)
  cases t with
  | none =>
    have hsigned : i16At l i = -32768 := by
      rw [i16At, hword]
      decide
    rw [temperatureAt, if_pos hsigned]
  | some x =>
    obtain ⟨hlo, hhi⟩ := ht x rfl
    have hsigned : i16At l i = x := by
      rw [i16At, hword, Option.getD_some]
      split <;> omega
    rw [temperatureAt, hsigned, if_neg (by omega)]

/-! ### PLACE, TIME and LINE payloads (R123 to R126) -/

/-- The bytes of a run among those of all runs. -/
theorem byteAt_runBytes {runs : List Run} {r j : Nat} (hr : r < runs.length) (hj : j < 4) :
    byteAt (runs.flatMap runBytes) (4 * r + j) = byteAt (runBytes runs[r]) j := by
  induction runs generalizing r with
  | nil => exact absurd hr (Nat.not_lt_zero _)
  | cons q runs ih =>
    have hq : (runBytes q).length = 4 := rfl
    rw [List.flatMap_cons]
    cases r with
    | zero =>
      rw [Nat.mul_zero, Nat.zero_add]
      exact List.getD_append (runBytes q) (runs.flatMap runBytes) 0 j hj
    | succ r =>
      have hskip : 4 * (r + 1) + j - (runBytes q).length = 4 * r + j := by omega
      rw [byteAt, List.getD_append_right _ _ _ _ (by omega), hskip]
      exact ih (Nat.lt_of_succ_lt_succ hr)

theorem flatMap_runBytes_length (runs : List Run) : (runs.flatMap runBytes).length = 4 * runs.length := by
  induction runs with
  | nil => rfl
  | cons r runs ih => rw [List.flatMap_cons, List.length_append, ih, List.length_cons, show (runBytes r).length = 4 from rfl]; omega

/-- A run within the ranges of its record. -/
structure RunFits (r : Run) : Prop where
  zone : 1 ≤ r.zone ∧ r.zone ≤ 6
  start : r.start < 32
  length : 1 ≤ r.length ∧ r.length ≤ 32
  load : 1 ≤ r.load ∧ r.load ≤ 255
  surcharge : r.surcharge ≤ 255
  stuck : r.stuck = false

section Place

variable (target : Byte) (revision : Nat) (view sag held : Bool) (up down : Option Int) (runs : List Run)

theorem placeBytes_eq : placeBytes target revision view sag held up down runs =
    [target, BitVec.ofNat 8 (64 * revision + 32 * view.toNat + 16 * sag.toNat + 8 * held.toNat + runs.length),
      BitVec.ofNat 8 (((up.getD (-32768)) % 65536).toNat / 256), BitVec.ofNat 8 ((up.getD (-32768)) % 65536).toNat,
      BitVec.ofNat 8 (((down.getD (-32768)) % 65536).toNat / 256), BitVec.ofNat 8 ((down.getD (-32768)) % 65536).toNat] ++
      runs.flatMap runBytes := rfl

theorem placeBytes_length : (placeBytes target revision view sag held up down runs).length = 6 + 4 * runs.length := by
  rw [placeBytes_eq, List.length_append, flatMap_runBytes_length]
  rfl

variable {runs}

/-- A run record reads back (R125). -/
theorem placeRun_placeBytes {r : Nat} (hr : r < runs.length) (hfits : RunFits runs[r]) :
    placeRun (placeBytes target revision view sag held up down runs) r = runs[r] := by
  have hbyte : ∀ j : Nat, j < 4 →
      byteAt (placeBytes target revision view sag held up down runs) (6 + j + 4 * r) = byteAt (runBytes runs[r]) j := fun j hj => by
    have hskip : 6 + j + 4 * r - 6 = 4 * r + j := by omega
    rw [placeBytes_eq, byteAt, List.getD_append_right _ _ _ _ (by simp; omega)]
    simp only [List.length_cons, List.length_nil, Nat.zero_add, Nat.reduceAdd, hskip]
    exact byteAt_runBytes hr hj
  obtain ⟨hzone, hstart, hlength, hload, hsurcharge, hstuck⟩ := hfits
  have hfirst : 32 * runs[r].zone + runs[r].start < 256 := by omega
  have h0 : byteAt (placeBytes target revision view sag held up down runs) (6 + 4 * r) = BitVec.ofNat 8 (32 * runs[r].zone + runs[r].start) :=
    hbyte 0 (by decide)
  have hzone' : bitField (byteAt (placeBytes target revision view sag held up down runs) (6 + 4 * r)) 5 3 = runs[r].zone := by
    rw [h0, bitField_ofNat hfirst]
    omega
  have hstart' : bitField (byteAt (placeBytes target revision view sag held up down runs) (6 + 4 * r)) 0 5 = runs[r].start := by
    rw [h0, bitField_ofNat hfirst]
    omega
  have hlength' : u8At (placeBytes target revision view sag held up down runs) (7 + 4 * r) = runs[r].length :=
    u8At_of_byte (hbyte 1 (by decide)) (by omega)
  have hload' : u8At (placeBytes target revision view sag held up down runs) (8 + 4 * r) = runs[r].load :=
    u8At_of_byte (hbyte 2 (by decide)) (by omega)
  have hsurcharge' : u8At (placeBytes target revision view sag held up down runs) (9 + 4 * r) = runs[r].surcharge :=
    u8At_of_byte (hbyte 3 (by decide)) (by omega)
  rw [placeRun, hzone', hstart', hlength', hload', hsurcharge', ← hstuck]

/-- A PLACE payload reads back (R125). -/
theorem placePayload_placeBytes (hrevision : revision ≤ 3) (hcount : runs.length ≤ 6) (hup : ∀ t, up = some t → inTemperatureRange t)
    (hdown : ∀ t, down = some t → inTemperatureRange t) (hruns : ∀ r ∈ runs, RunFits r) :
    placePayload (placeBytes target revision view sag held up down runs) =
      { target := target, revision := revision, viewIncomplete := view, sagActive := sag, held := held, runCount := runs.length,
        upstream := up, downstream := down, runs := runs } := by
  have hview := toNat_le_one view
  have hsag := toNat_le_one sag
  have hheld := toNat_le_one held
  have h1 : byteAt (placeBytes target revision view sag held up down runs) 1 =
      BitVec.ofNat 8 (64 * revision + 32 * view.toNat + 16 * sag.toNat + 8 * held.toNat + runs.length) := rfl
  have hbyte : 64 * revision + 32 * view.toNat + 16 * sag.toNat + 8 * held.toNat + runs.length < 256 := by omega
  have hcount' : bitField (byteAt (placeBytes target revision view sag held up down runs) 1) 0 3 = runs.length := by
    rw [h1, bitField_ofNat hbyte]
    omega
  have hrevision' : bitField (byteAt (placeBytes target revision view sag held up down runs) 1) 6 2 = revision := by
    rw [h1, bitField_ofNat hbyte]
    omega
  have hview' : (byteAt (placeBytes target revision view sag held up down runs) 1).getLsbD 5 = view := by
    rw [h1]
    exact getLsbD_ofNat_byte (by decide) (by omega)
  have hsag' : (byteAt (placeBytes target revision view sag held up down runs) 1).getLsbD 4 = sag := by
    rw [h1]
    exact getLsbD_ofNat_byte (by decide) (by omega)
  have hheld' : (byteAt (placeBytes target revision view sag held up down runs) 1).getLsbD 3 = held := by
    rw [h1]
    exact getLsbD_ofNat_byte (by decide) (by omega)
  have hup' : temperatureAt (placeBytes target revision view sag held up down runs) 2 = up := temperatureAt_of_bytes hup rfl rfl
  have hdown' : temperatureAt (placeBytes target revision view sag held up down runs) 4 = down := temperatureAt_of_bytes hdown rfl rfl
  have hruns' : (List.range runs.length).map (placeRun (placeBytes target revision view sag held up down runs)) = runs := by
    refine List.ext_getElem (by simp) fun r h _ => ?_
    rw [List.getElem_map, List.getElem_range]
    have hr : r < runs.length := by simpa using h
    exact placeRun_placeBytes target revision view sag held up down hr (hruns _ (List.getElem_mem hr))
  simp only [placePayload, hcount', hrevision', hview', hsag', hheld', hup', hdown', hruns']
  rfl

theorem temperatureInRange_of {t : Option Int} (h : ∀ x, t = some x → inTemperatureRange x) : temperatureInRange t = true := by
  cases t with
  | none => rfl
  | some x => exact decide_eq_true (h x rfl)

/-- A PLACE payload of runs of different zones passes its tests (R126). -/
theorem placeValid_placeBytes (hrevision : revision ≤ 3) (hcount : runs.length ≤ 6) (hup : ∀ t, up = some t → inTemperatureRange t)
    (hdown : ∀ t, down = some t → inTemperatureRange t) (hruns : ∀ r ∈ runs, RunFits r) (hzones : (runs.map Run.zone).Nodup) :
    placeValid (placeBytes target revision view sag held up down runs) = true := by
  have hall : runs.all runInRange = true := List.all_eq_true.mpr fun r hr => by
    obtain ⟨hzone, -, hlength, hload, -, -⟩ := hruns r hr
    exact decide_eq_true ⟨hzone.1, hzone.2, hlength.1, hlength.2, hload.1⟩
  simp only [placeValid, placePayload_placeBytes target revision view sag held up down hrevision hcount hup hdown hruns,
    placeBytes_length, hall, temperatureInRange_of hup, temperatureInRange_of hdown, decide_eq_true hzones, Bool.and_true,
    Bool.and_eq_true, decide_eq_true_eq]
  exact ⟨⟨Nat.le_add_right _ _, trivial⟩, fun h7 => absurd hcount (by rw [h7]; decide)⟩

end Place

end Sys2Proof.Machine

namespace Sys2Proof.Proofs.Formats
open Sys2Proof.Machine

/-- Settles O34: a receiver's run and number of data bits follow the sender's through every stuff bit. -/
theorem frameSentIsFrameReceived : Obligations.FrameSentIsFrameReceived := by
  intro kind source group payload ack hkind hsource hgroup hpayload
  rw [rxFrame, rxPart_sentBits kind source group hpayload hkind hsource hgroup]
  rfl

/-- Settles O35. -/
theorem payloadsReadBack : Obligations.PayloadsReadBack := by
  refine ⟨fun target revision view sag held up down runs hrevision hcount hup hdown hruns => ?_,
    fun cycle slot index slotLen c hslot hindex hslotLen => ?_, fun level changed change held now => ?_⟩
  · have hfits : ∀ r ∈ runs, RunFits r := fun r hr => by
      obtain ⟨hzone, hzone', hstart, hlength, hlength', hload, hload', hsurcharge, hstuck⟩ := hruns r hr
      exact ⟨⟨hzone, hzone'⟩, hstart, ⟨hlength, hlength'⟩, ⟨hload, hload'⟩, hsurcharge, hstuck⟩
    exact ⟨placePayload_placeBytes target revision view sag held up down hrevision hcount hup hdown hfits,
      placeBytes_length target revision view sag held up down runs,
      placeValid_placeBytes target revision view sag held up down hrevision hcount hup hdown hfits⟩
  · have hcycle : BitVec.ofNat 16 (u16At (timeBytes cycle slot index slotLen c) 0) = cycle := by
      rw [u16At_of_bytes (n := cycle.toNat) rfl rfl cycle.isLt, BitVec.ofNat_toNat, BitVec.setWidth_eq]
    have hslot' : u8At (timeBytes cycle slot index slotLen c) 2 = slot := u8At_of_byte rfl (by omega)
    have hindex' : u8At (timeBytes cycle slot index slotLen c) 3 = index := u8At_of_byte rfl (by omega)
    have hslotLen' : u8At (timeBytes cycle slot index slotLen c) 4 = slotLen := u8At_of_byte rfl (by omega)
    have hfrequency : u8At (timeBytes cycle slot index slotLen c) 5 = frequencyCode c := u8At_of_byte rfl (by cases c <;> decide)
    rw [timePayload, hcycle, hslot', hindex', hslotLen', hfrequency]
    cases c <;> rfl
  · have hflags : 128 * change.toNat + 64 * held.toNat < 256 := by
      have := toNat_le_one change
      have := toNat_le_one held
      omega
    have h2 : byteAt (lineBytes level changed change held now) 2 = BitVec.ofNat 8 (128 * change.toNat + 64 * held.toNat) := rfl
    have h0 : u8At (lineBytes level changed change held now) 0 = flowCode level := u8At_of_byte rfl (by cases level <;> decide)
    have hclear : bitField (byteAt (lineBytes level changed change held now) 2) 0 6 = 0 := by
      rw [h2, bitField_ofNat hflags]
      omega
    refine ⟨?_, ?_, rfl, ?_, ?_, rfl⟩
    · rw [lineValid, h0, hclear]
      cases level <;> rfl
    · rw [lineOfPayload, h0]
      cases level <;> rfl
    · rw [h2]
      have := toNat_le_one held
      exact getLsbD_ofNat_byte (by decide) (by have := toNat_le_one change; omega)
    · rw [h2]
      exact getLsbD_ofNat_byte (by decide) (by have := toNat_le_one held; omega)

/-- Settles O36: every field has its place in the bytes, and every code its width. -/
theorem statusPayloadLayout : Obligations.StatusPayloadLayout := by
  intro s htec hrecv hoverflow hpeers hrevisions htemperatures
  have hstation : stationCode s.supervisor.station < 8 := by cases s.supervisor.station <;> decide
  have hcause : causeCode s.supervisor.cause < 4 := by cases s.supervisor.cause <;> decide
  have hlink : linkCode s.link.state < 4 := by cases s.link.state <;> decide
  have hsync : syncCode s.timeBase.sync < 4 := by cases s.timeBase.sync <;> decide
  have hline : lineCode s.peers.line.state < 4 := by cases s.peers.line.state <;> decide
  have hmark := toNat_le_one s.queue.refusalMark
  have hsag := toNat_le_one (sagActive s.placement)
  have hview := toNat_le_one (viewIncomplete s)
  have hlatch := toNat_le_one s.supervisor.contactorLatch
  have hclash := toNat_le_one s.link.clash
  have h0 : byteAt (statusBytes s) 0 = statusByte0 s := rfl
  have h21 : byteAt (statusBytes s) 21 = statusByte21 s := rfl
  have h23 : byteAt (statusBytes s) 23 = statusByte23 s := rfl
  refine ⟨rfl, fun z => ?_, ?_, ?_, ?_, ?_, ?_, ?_, fun z => ?_, ?_, ?_, ?_, ?_, ?_, ?_, ?_, ?_, ?_⟩
  · have hreported : ∀ x, controlTemperature (s.scanner.control.get z) = some x → inTemperatureRange x := fun x hx => by
      unfold controlTemperature at hx
      split at hx
      · exact nomatch hx
      · exact htemperatures z x hx
      · exact nomatch hx
    refine (temperatureAt_of_bytes hreported ?_ ?_).trans rfl
    · fin_cases z <;> rfl
    · fin_cases z <;> rfl
  · rw [h0, statusByte0, bitField_ofNat (by omega)]
    omega
  · rw [h0, statusByte0, bitField_ofNat (by omega)]
    omega
  · rw [h0, statusByte0, bitField_ofNat (by omega)]
    omega
  · rw [h0]
    exact getLsbD_ofNat_byte (by decide) (by omega)
  · exact u8At_of_byte rfl (by omega)
  · exact u8At_of_byte rfl (by omega)
  · have hcondition : conditionCode (s.zones.get z).condition < 8 := by cases (s.zones.get z).condition <;> decide
    have hmode : modeCode (s.zones.get z).mode < 4 := by
      unfold modeCode
      split <;> decide
    have hsource : sourceCode (s.zones.get z).source < 8 := by
      unfold sourceCode
      split <;> decide
    have hz : byteAt (statusBytes s) (3 + z.val) = zoneByte (s.zones.get z) := by fin_cases z <;> rfl
    rw [hz, zoneByte, bitField_ofNat (by omega), bitField_ofNat (by omega), bitField_ofNat (by omega)]
    omega
  · rw [h21]
    exact getLsbD_ofNat_byte (b := sagActive s.placement) (by decide) (by omega)
  · rw [h21]
    exact getLsbD_ofNat_byte (by decide) (by omega)
  · rw [h21, statusByte21, bitField_ofNat (by omega)]
    omega
  · rw [h21, statusByte21, bitField_ofNat (by omega)]
    omega
  · rw [h21]
    exact getLsbD_ofNat_byte (by decide) (by omega)
  · rw [h21]
    exact getLsbD_ofNat_byte (by decide) (by omega)
  · exact u8At_of_byte rfl (by omega)
  · rw [h23, statusByte23, bitField_ofNat (by omega)]
    omega
  · rw [h23, statusByte23, bitField_ofNat (by omega)]
    omega

end Sys2Proof.Proofs.Formats

/-! PROOFS. The commands of the line outside a frame, the quiet intervals, and what a reset leaves in every block (R8, R135, R141, R152,
R193, R195). -/

namespace Sys2Proof.Machine

/-! ### Commands while the blocks act -/

theorem whenActive_of_active {s : State} {cfg : Settings} (h : activeSettings s = some cfg) (f : Settings → State) :
    whenActive s f = f cfg := by
  simp only [whenActive, h]

theorem whenActive_of_inactive {s : State} (h : activeSettings s = none) (f : Settings → State) : whenActive s f = s := by
  simp only [whenActive, h]

/-- The settled fields act by the reset in progress, the station state and the Loader alone. -/
theorem activeSettings_congr {s t : State} (hresets : t.resets = s.resets) (hstation : t.supervisor.station = s.supervisor.station)
    (hloader : t.loader = s.loader) : activeSettings t = activeSettings s := by
  rw [activeSettings, activeSettings, resetInProgress, resetInProgress, hresets, hstation, hloader]

/-! ### Single bits (R135, R152) -/

theorem quietBits_of_not_detached (bits : List Bool) {s : State} (h : s.link.state ≠ .detached) : quietBits bits s = s := by
  have hfold : bits.foldl quietBit s.link = s.link := by
    induction bits with
    | nil => rfl
    | cons b bits ih => rw [List.foldl_cons, quietBit_of_not_detached _ _ h, ih]
  simp only [quietBits, hfold]
  rfl

theorem trackBit_state (s : State) (b : Bool) : (trackBit s b).link.state = s.link.state := by
  unfold trackBit startReception
  (repeat' split) <;> rfl

/-- Outside DETACHED a bit is taken by line tracking alone (R135). -/
theorem sampleBit_of_not_detached {s : State} (h : s.link.state ≠ .detached) (b : Bool) : sampleBit s b = trackBit s b := by
  unfold sampleBit
  split
  · rfl
  · exact quietBits_of_not_detached _ (by rwa [trackBit_state])

theorem sampleBits_cons (b : Bool) (bits : List Bool) (s : State) : sampleBits (b :: bits) s = sampleBits bits (sampleBit s b) := rfl

theorem sampleBits_append (a b : List Bool) (s : State) : sampleBits (a ++ b) s = sampleBits b (sampleBits a s) := List.foldl_append

/-- The state with line tracking set. -/
def State.track (s : State) (t : Tracking) : State := s.setLink { s.link with tracking := t }

theorem trackBit_waiting {s : State} {run : Nat} (h : s.link.tracking = .waitingIdle run) :
    (run + 1 < 10 → trackBit s true = s.track (.waitingIdle (run + 1))) ∧ (¬run + 1 < 10 → trackBit s true = s.track (.idle 3)) ∧
      trackBit s false = s.track (.waitingIdle 0) := by
  simp only [trackBit, h, State.track]
  refine ⟨fun k => ?_, fun k => ?_, ?_⟩
  · simp [k]
  · simp [k]
  · simp

theorem trackBit_idle {s : State} {count : Nat} (h : s.link.tracking = .idle count) :
    trackBit s true = s.track (.idle (count + 1)) ∧ trackBit s false = startReception s := by
  simp [trackBit, h, State.track]

theorem trackBit_rejecting {s : State} {left : Nat} (h : s.link.tracking = .rejecting left) (b : Bool) :
    trackBit s b = s.track (if left ≤ 1 then .waitingIdle 0 else .rejecting (left - 1)) := by
  simp only [trackBit, h, State.track]

@[simp] theorem track_link_tracking (s : State) (t : Tracking) : (s.track t).link.tracking = t := rfl
@[simp] theorem track_link_state (s : State) (t : Tracking) : (s.track t).link.state = s.link.state := rfl
@[simp] theorem track_track (s : State) (t u : Tracking) : (s.track t).track u = s.track u := rfl

theorem track_of_eq {s : State} {t : Tracking} (h : s.link.tracking = t) : s.track t = s := by
  subst h; rfl

section Outside
variable {s : State} (hstate : s.link.state ≠ .detached)
include hstate

theorem sampleBits_waiting {run : Nat} (h : s.link.tracking = .waitingIdle run) (n : Nat) (hn : run + n < 10) :
    sampleBits (List.replicate n true) s = s.track (.waitingIdle (run + n)) := by
  induction n generalizing s run with
  | zero => exact (track_of_eq h).symm
  | succ n ih =>
    rw [List.replicate_succ, sampleBits_cons, sampleBit_of_not_detached hstate, (trackBit_waiting h).1 (by omega),
      ih (s := s.track (.waitingIdle (run + 1))) hstate rfl (by omega), track_track, Nat.add_right_comm, Nat.add_assoc]

theorem sampleBits_reach_idle {run : Nat} (h : s.link.tracking = .waitingIdle run) (hrun : run < 10) :
    sampleBits (List.replicate (10 - run) true) s = s.track (.idle 3) := by
  have hlast : 10 - run = (9 - run) + 1 := by omega
  rw [hlast, List.replicate_succ', sampleBits_append, sampleBits_waiting hstate h _ (by omega), sampleBits_cons,
    sampleBit_of_not_detached (s := s.track (.waitingIdle (run + (9 - run)))) hstate,
    (trackBit_waiting (track_link_tracking s _)).2.1 (by omega)]
  rfl

theorem sampleBits_idle {count : Nat} (h : s.link.tracking = .idle count) (n : Nat) :
    sampleBits (List.replicate n true) s = s.track (.idle (count + n)) := by
  induction n generalizing s count with
  | zero => exact (track_of_eq h).symm
  | succ n ih =>
    rw [List.replicate_succ, sampleBits_cons, sampleBit_of_not_detached hstate, (trackBit_idle h).1,
      ih (s := s.track (.idle (count + 1))) hstate rfl, track_track, Nat.add_right_comm, Nat.add_assoc]

theorem sampleBits_rejecting {left : Nat} (h : s.link.tracking = .rejecting left) (bits : List Bool) (hlen : bits.length < left) :
    sampleBits bits s = s.track (.rejecting (left - bits.length)) := by
  induction bits generalizing s left with
  | nil => exact (track_of_eq h).symm
  | cons b bits ih =>
    have hlen' : bits.length + 1 < left := hlen
    rw [sampleBits_cons, sampleBit_of_not_detached hstate, trackBit_rejecting h, if_neg (by omega),
      ih (s := s.track (.rejecting (left - 1))) hstate rfl (by omega), track_track, Nat.sub_right_comm, Nat.sub_sub, List.length_cons]

theorem sampleBits_rejected {left : Nat} (h : s.link.tracking = .rejecting left) (bits : List Bool) (hleft : 1 ≤ left)
    (hlen : bits.length = left) : sampleBits bits s = s.track (.waitingIdle 0) := by
  obtain ⟨before, last, rfl⟩ : ∃ before last, bits = before ++ [last] :=
    (List.eq_nil_or_concat' bits).resolve_left (by rintro rfl; exact absurd hlen (by simp; omega))
  have hlen' : before.length + 1 = left := by simpa using hlen
  have hone : left - before.length = 1 := by omega
  rw [sampleBits_append, sampleBits_rejecting hstate h before (by omega), hone, sampleBits_cons,
    sampleBit_of_not_detached (s := s.track (.rejecting 1)) hstate, trackBit_rejecting (track_link_tracking s _),
    if_pos (Nat.le_refl 1)]
  rfl

end Outside

/-! ### LINE_IDLE and START_BIT -/

/-- LINE_IDLE takes its bits outside a frame, and those of the own burst (R135, R141). -/
theorem exec_lineIdle {cfg : Settings} {s : State} (hcfg : activeSettings s = some cfg)
    (h : ∀ position : Nat, s.link.tracking ≠ .inFrame position) (bits : List Bool) :
    exec (.lineIdle (.sampled bits)) s = .next (sampleBits bits s) := by
  show Host.Outcome.next (whenActive s _) = _
  rw [whenActive_of_active hcfg]
  cases htracking : s.link.tracking
  case inFrame position => exact absurd htracking (h position)
  all_goals simp only [takeBits_sampled]

theorem quietBit_false (l : Link) : quietBit l false = { l with quietRun := if l.state = .detached then 0 else l.quietRun } := by
  by_cases h : l.state = .detached
  · simp [quietBit, h]
  · simp [quietBit, h]

theorem exec_startBit {cfg : Settings} {s : State} {count : Nat} (hcfg : activeSettings s = some cfg)
    (h : s.link.tracking = .idle count) : exec .startBit s = .next (startTimed (startReception (quietBits [false] s))) := by
  show Host.Outcome.next (whenActive s _) = _
  rw [whenActive_of_active hcfg, h]

end Sys2Proof.Machine

namespace Sys2Proof.Proofs.LineTracking
open Sys2Proof.Machine

/-- Settles O38: bit by bit, outside DETACHED by line tracking alone. -/
theorem lineTrackingTakesItsBits : Obligations.LineTrackingTakesItsBits := by
  unfold Obligations.LineTrackingTakesItsBits
  refine ⟨fun cfg s count hcfg h => ?_, fun cfg s run hcfg hstate h => ?_, fun cfg s count n hcfg hstate h => ?_,
    fun cfg s left bits hcfg hstate h => ?_⟩
  · rw [exec_startBit hcfg h]
    simp only [quietBits, List.foldl, quietBit_false]
    rfl
  · have hout : ∀ position : Nat, s.link.tracking ≠ .inFrame position := fun p e => nomatch h.symm.trans e
    refine ⟨fun n hn => ?_, fun hrun => ?_, ?_⟩
    · rw [exec_lineIdle hcfg hout, sampleBits_waiting hstate h n hn]; rfl
    · rw [exec_lineIdle hcfg hout, sampleBits_reach_idle hstate h hrun]; rfl
    · rw [exec_lineIdle hcfg hout, sampleBits_cons, sampleBit_of_not_detached hstate, (trackBit_waiting h).2.2]; rfl
  · have hout : ∀ position : Nat, s.link.tracking ≠ .inFrame position := fun p e => nomatch h.symm.trans e
    rw [exec_lineIdle hcfg hout, sampleBits_idle hstate h n]; rfl
  · have hout : ∀ position : Nat, s.link.tracking ≠ .inFrame position := fun p e => nomatch h.symm.trans e
    have hattached : s.link.state ≠ .detached := by rw [hstate]; exact fun e => nomatch e
    refine ⟨fun hlen => ?_, fun hleft hlen => ?_⟩
    · rw [exec_lineIdle hcfg hout, sampleBits_rejecting hattached h bits hlen]; rfl
    · rw [exec_lineIdle hcfg hout, sampleBits_rejected hattached h bits hleft hlen]; rfl

end Sys2Proof.Proofs.LineTracking

namespace Sys2Proof.Proofs.Resets
open Sys2Proof.Machine

/-- Settles O48, by kind: the new state is written out in the start of a reset. -/
theorem resetsClearTheBlocks : Obligations.ResetsClearTheBlocks := by
  unfold Obligations.ResetsClearTheBlocks
  refine ⟨fun s => rfl, fun s disturbed c k image h => ?_⟩
  rcases h with ⟨rfl, rfl, rfl⟩ | ⟨rfl, rfl, rfl⟩ | ⟨rfl, rfl, rfl⟩
  · rfl
  · rfl
  · rfl

end Sys2Proof.Proofs.Resets

/-! PROOFS. A frame taken in pieces: what the bits so far decide does not change with the bits that follow, and each bit is counted once
(R140, R142, R152; assumption log 18). -/

namespace Sys2Proof.Machine

/-! ### The stuffed part in pieces (R119, R140) -/

/-- The bits left over. -/
def StuffedResult.left : StuffedResult → List Bool
  | .more => []
  | .stuffError rest => rest
  | .checkError rest => rest
  | .passed _ tail => tail

/-- The same outcome with more bits behind it. -/
def StuffedResult.followed (later : List Bool) : StuffedResult → StuffedResult
  | .more => .more
  | .stuffError rest => .stuffError (rest ++ later)
  | .checkError rest => .checkError (rest ++ later)
  | .passed f tail => .passed f (tail ++ later)

/-- The bits left over. -/
def RxResult.left : RxResult → List Bool
  | .incomplete => []
  | .stuffError rest => rest
  | .checkError rest => rest
  | .void rest => rest
  | .received _ rest => rest

/-- The same outcome with more bits behind it. -/
def RxResult.followed (later : List Bool) : RxResult → RxResult
  | .incomplete => .incomplete
  | .stuffError rest => .stuffError (rest ++ later)
  | .checkError rest => .checkError (rest ++ later)
  | .void rest => .void (rest ++ later)
  | .received f rest => .received f (rest ++ later)

theorem rxStuffed_append (later bits : List Bool) (v : Bool) (run : Nat) (acc : List Bool) (n need : Nat)
    (h : rxStuffed v run acc n need bits ≠ .more) :
    rxStuffed v run acc n need (bits ++ later) = (rxStuffed v run acc n need bits).followed later := by
  induction bits generalizing v run acc n need with
  | nil => exact absurd rfl h
  | cons b bits ih =>
    simp only [List.cons_append, rxStuffed] at h ⊢
    split_ifs at h ⊢ <;> first | rfl | exact ih _ _ _ _ _ h

theorem rxStuffed_left_length (bits : List Bool) (v : Bool) (run : Nat) (acc : List Bool) (n need : Nat) :
    (rxStuffed v run acc n need bits).left.length ≤ bits.length - 1 := by
  induction bits generalizing v run acc n need with
  | nil => exact Nat.le_refl 0
  | cons b bits ih =>
    have hstep : ∀ v run acc n need, (rxStuffed v run acc n need bits).left.length ≤ bits.length :=
      fun v run acc n need => (ih v run acc n need).trans (Nat.sub_le _ _)
    have hhere : bits.length ≤ bits.length := Nat.le_refl _
    simp only [rxStuffed, List.length_cons, Nat.add_sub_cancel]
    split_ifs <;> first | exact hstep _ _ _ _ _ | exact hhere

theorem rxStuffed_left_of_more (later bits : List Bool) (v : Bool) (run : Nat) (acc : List Bool) (n need : Nat)
    (h : rxStuffed v run acc n need bits = .more) : (rxStuffed v run acc n need (bits ++ later)).left.length ≤ later.length - 1 := by
  induction bits generalizing v run acc n need with
  | nil => exact rxStuffed_left_length later v run acc n need
  | cons b bits ih =>
    simp only [List.cons_append, rxStuffed] at h ⊢
    split_ifs at h ⊢ <;> exact ih _ _ _ _ _ h

theorem rxPart_append (later : List Bool) {bits : List Bool} (h : rxPart bits ≠ .more) :
    rxPart (bits ++ later) = (rxPart bits).followed later := rxStuffed_append later bits _ _ _ _ _ h

theorem rxPart_left_of_more (later : List Bool) {bits : List Bool} (h : rxPart bits = .more) :
    (rxPart (bits ++ later)).left.length ≤ later.length - 1 := rxStuffed_left_of_more later bits _ _ _ _ _ h

/-! ### A whole frame in pieces (R142) -/

theorem rxEnd_append (f : Frame) (later : List Bool) (n : Nat) (bits : List Bool) (h : rxEnd f n bits ≠ .incomplete) :
    rxEnd f n (bits ++ later) = (rxEnd f n bits).followed later := by
  induction n generalizing bits with
  | zero => rfl
  | succ n ih =>
    cases bits with
    | nil => exact absurd rfl h
    | cons b bits =>
      cases b with
      | false => rfl
      | true => exact ih bits h

theorem rxEnd_left_length (f : Frame) (n : Nat) (bits : List Bool) : (rxEnd f n bits).left.length ≤ bits.length := by
  induction n generalizing bits with
  | zero => exact Nat.le_refl _
  | succ n ih =>
    cases bits with
    | nil => exact Nat.le_refl 0
    | cons b bits =>
      cases b with
      | false => exact Nat.le_succ _
      | true => exact Nat.le_succ_of_le (ih bits)

theorem rxEnd_left_of_incomplete (f : Frame) (later : List Bool) (n : Nat) (bits : List Bool) (h : rxEnd f n bits = .incomplete) :
    (rxEnd f n (bits ++ later)).left.length ≤ later.length - 1 := by
  induction n generalizing bits with
  | zero => exact nomatch h
  | succ n ih =>
    cases bits with
    | nil =>
      cases later with
      | nil => exact Nat.le_refl 0
      | cons b later =>
        cases b with
        | false => exact Nat.le_refl _
        | true => exact rxEnd_left_length f n later
    | cons b bits =>
      cases b with
      | false => exact nomatch h
      | true => exact ih bits h

theorem rxTail_append (f : Frame) (later : List Bool) {bits : List Bool} (h : rxTail f bits ≠ .incomplete) :
    rxTail f (bits ++ later) = (rxTail f bits).followed later := by
  cases bits with
  | nil => exact absurd rfl h
  | cons b bits => exact rxEnd_append f later 7 bits h

theorem rxTail_left_length (f : Frame) (bits : List Bool) : (rxTail f bits).left.length ≤ bits.length - 1 := by
  cases bits with
  | nil => exact Nat.le_refl 0
  | cons b bits => exact rxEnd_left_length f 7 bits

theorem rxTail_left_of_incomplete (f : Frame) (later : List Bool) {bits : List Bool} (h : rxTail f bits = .incomplete) :
    (rxTail f (bits ++ later)).left.length ≤ later.length - 1 := by
  cases bits with
  | nil => exact rxTail_left_length f later
  | cons b bits => exact rxEnd_left_of_incomplete f later 7 bits h

/-- A frame that has ended ends the same with more bits behind it. -/
theorem rxFrame_append (later : List Bool) {bits : List Bool} (h : rxFrame bits ≠ .incomplete) :
    rxFrame (bits ++ later) = (rxFrame bits).followed later := by
  unfold rxFrame at h ⊢
  cases hpart : rxPart bits
  case more => simp only [hpart] at h; exact absurd rfl h
  case stuffError rest | checkError rest =>
    rw [rxPart_append later (by rw [hpart]; exact fun e => nomatch e), hpart]; rfl
  case passed f tail =>
    rw [rxPart_append later (by rw [hpart]; exact fun e => nomatch e), hpart]
    simp only [hpart] at h
    exact rxTail_append f later h

theorem RxResult.followed_left (later : List Bool) {r : RxResult} (h : r ≠ .incomplete) : (r.followed later).left = r.left ++ later := by
  cases r
  case incomplete => exact absurd rfl h
  all_goals rfl

theorem RxResult.followed_ended (later : List Bool) {r : RxResult} (h : r ≠ .incomplete) : r.followed later ≠ .incomplete := by
  cases r
  case incomplete => exact absurd rfl h
  all_goals exact fun e => nomatch e

/-- A frame that has not ended ends in the bits that follow. -/
theorem rxFrame_left_of_incomplete (later : List Bool) {bits : List Bool} (h : rxFrame bits = .incomplete) :
    (rxFrame (bits ++ later)).left.length ≤ later.length - 1 := by
  cases hpart : rxPart bits
  case stuffError rest | checkError rest => simp only [rxFrame, hpart] at h; exact nomatch h
  case more =>
    have hleft := rxPart_left_of_more later hpart
    unfold rxFrame
    cases hall : rxPart (bits ++ later) <;> simp only [hall] at hleft ⊢
    case more => exact Nat.zero_le _
    case stuffError rest | checkError rest => exact hleft
    case passed f tail => exact (rxTail_left_length f tail).trans ((Nat.sub_le _ _).trans hleft)
  case passed f tail =>
    simp only [rxFrame, hpart] at h
    have hall := rxPart_append later (bits := bits) (by rw [hpart]; exact fun e => nomatch e)
    simp only [hpart, StuffedResult.followed] at hall
    simp only [rxFrame, hall]
    exact rxTail_left_of_incomplete f later h

/-- The Acknowledge bit that has come stays where it is. -/
theorem ackTail_append_some (later : List Bool) {bits tail : List Bool} (h : ackTail bits = some tail) :
    ackTail (bits ++ later) = some (tail ++ later) ∧ tail ≠ [] := by
  unfold ackTail at h ⊢
  cases hpart : rxPart bits <;> simp only [hpart] at h
  case more | stuffError | checkError => cases h
  case passed f rest =>
    rw [rxPart_append later (by rw [hpart]; exact fun e => nomatch e), hpart]
    cases rest with
    | nil => exact nomatch h
    | cons b rest => cases h; exact ⟨rfl, List.cons_ne_nil b rest⟩

/-- An Acknowledge bit still to come comes in the bits that follow, while the frame has not ended. -/
theorem ackTail_append_none (later : List Bool) {bits tail : List Bool} (h : ackTail bits = none) (hall : ackTail (bits ++ later) = some tail) :
    tail.length ≤ later.length ∧ rxFrame bits = .incomplete := by
  unfold ackTail at h hall
  unfold rxFrame
  cases hpart : rxPart bits
  case stuffError rest | checkError rest =>
    rw [rxPart_append later (by rw [hpart]; exact fun e => nomatch e), hpart] at hall
    exact nomatch hall
  case more =>
    refine ⟨?_, rfl⟩
    have hleft := rxPart_left_of_more later hpart
    cases hrest : rxPart (bits ++ later) <;> simp only [hrest] at hall hleft
    case more | stuffError | checkError => cases hall
    case passed f rest =>
      cases rest with
      | nil => exact nomatch hall
      | cons b rest => cases hall; exact hleft.trans (Nat.sub_le _ _)
  case passed f rest =>
    rw [rxPart_append later (by rw [hpart]; exact fun e => nomatch e), hpart] at hall
    cases rest with
    | cons b rest => simp only [hpart] at h; exact nomatch h
    | nil =>
      refine ⟨?_, rfl⟩
      cases later with
      | nil => exact nomatch hall
      | cons b later => cases hall; exact Nat.le_refl _

/-! ### A reception that goes on (R140, R142, R152) -/

/-- The state with line tracking and the frame being received set. -/
def State.reframe (s : State) (t : Tracking) (rx : Option Reception) : State :=
  s.setLink { s.link with tracking := t, reception := rx }

theorem quietBit_reframe (l : Link) (t : Tracking) (rx : Option Reception) (x : Bool) :
    quietBit { l with tracking := t, reception := rx } x = { quietBit l x with tracking := t, reception := rx } := by
  simp only [quietBit]
  split_ifs <;> rfl

theorem foldl_quietBit_reframe (bits : List Bool) (l : Link) (t : Tracking) (rx : Option Reception) :
    bits.foldl quietBit { l with tracking := t, reception := rx } = { bits.foldl quietBit l with tracking := t, reception := rx } := by
  induction bits generalizing l with
  | nil => rfl
  | cons x bits ih => rw [List.foldl_cons, quietBit_reframe, ih]; rfl

theorem quietBits_reframe (bits : List Bool) (s : State) (t : Tracking) (rx : Option Reception) :
    quietBits bits (s.reframe t rx) = (quietBits bits s).reframe t rx := by
  show (s.reframe t rx).setLink (bits.foldl quietBit { s.link with tracking := t, reception := rx }) = _
  rw [foldl_quietBit_reframe]
  rfl

theorem quietBits_append (a b : List Bool) (s : State) : quietBits (a ++ b) s = quietBits b (quietBits a s) := by
  simp only [quietBits, List.foldl_append]; rfl

theorem takeRxBits_reframe (l : Link) (t : Tracking) (rx : Option Reception) (bits : List Bool) (r : Reception) :
    takeRxBits { l with tracking := t, reception := rx } bits r = takeRxBits l bits r := by
  simp only [takeRxBits, foldl_quietBit_reframe]
  rfl

theorem recUp_reframe (l : Link) (t : Tracking) (rx : Option Reception) :
    recUp { l with tracking := t, reception := rx } = { recUp l with tracking := t, reception := rx } := by
  simp only [recUp, evalLink]
  split_ifs <;> rfl

theorem recDown_reframe (l : Link) (t : Tracking) (rx : Option Reception) :
    recDown { l with tracking := t, reception := rx } = { recDown l with tracking := t, reception := rx } := by
  simp only [recDown, evalLink]
  split_ifs <;> rfl

theorem receptionError_reframe (s : State) (t : Tracking) (rx : Option Reception) :
    receptionError (s.reframe t rx) = receptionError s := by
  have hup : (s.reframe t rx).setLink (recUp (s.reframe t rx).link) = (s.setLink (recUp s.link)).reframe t rx :=
    congrArg s.setLink (recUp_reframe s.link t rx)
  have hactive : (s.reframe t rx).link.state = s.link.state := rfl
  simp only [receptionError, hup, hactive]
  split_ifs <;> rfl

/-- Where line tracking stands in a frame does not enter into what its bits do: their end sets it. -/
theorem receptionEnd_reframe (cfg : Settings) (r : Reception) (bits : List Bool) (s : State) (t : Tracking) (rx : Option Reception) :
    receptionEnd cfg r bits (s.reframe t rx) = receptionEnd cfg r bits s := by
  have hlink : takeRxBits (s.reframe t rx).link bits r = takeRxBits s.link bits r := takeRxBits_reframe s.link t rx bits r
  simp only [receptionEnd, hlink]
  cases hframe : rxFrame (takeRxBits s.link bits r).bits <;> simp only
  case incomplete => rfl
  case stuffError rest | checkError rest => rw [quietBits_reframe, receptionErrorEnd, receptionError_reframe]; rfl
  case void rest => rw [quietBits_reframe]; rfl
  case received f rest =>
    rw [quietBits_reframe]
    have hdown : ∀ u : State, recDown (u.reframe t rx).link = { recDown u.link with tracking := t, reception := rx } :=
      fun u => recDown_reframe u.link t rx
    rw [hdown]
    rfl

/-- One bit more into a frame being received, by the link as that bit leaves it while the frame has not ended. -/
theorem takeRxBits_cons {l m : Link} {rx : Reception} (x : Bool) (bits : List Bool)
    (h : rxFrame rx.bits = .incomplete → m = quietBit l x) :
    takeRxBits m bits (takeRxBits l [x] rx) = takeRxBits l (x :: bits) rx := by
  have hall : rx.bits ++ [x] ++ bits = rx.bits ++ x :: bits := by rw [List.append_assoc]; rfl
  have hack : ∀ a b : Option Bool, a = b → ({ bits := rx.bits ++ [x] ++ bits, mute := rx.mute, ack := a } : Reception) =
      { bits := rx.bits ++ x :: bits, mute := rx.mute, ack := b } := fun a b e => by rw [hall, e]
  unfold takeRxBits
  refine hack _ _ ?_
  simp only [hall]
  cases rx.ack with
  | some a => rfl
  | none =>
    cases hbefore : ackTail rx.bits with
    | some tail =>
      obtain ⟨hone, hne⟩ := ackTail_append_some [x] hbefore
      obtain ⟨hmore, -⟩ := ackTail_append_some (x :: bits) hbefore
      have hlen : 1 ≤ tail.length := List.length_pos_iff.mpr hne
      simp only [hone, hmore, List.length_append, List.length_cons, List.length_nil, Nat.sub_eq_zero_of_le (by omega : 0 + 1 ≤ tail.length + (0 + 1)),
        Nat.sub_eq_zero_of_le (by omega : bits.length + 1 ≤ tail.length + (bits.length + 1)), List.take_zero, List.foldl_nil]
    | none =>
      cases hone : ackTail (rx.bits ++ [x]) with
      | some tail =>
        obtain ⟨hmore, hne⟩ := ackTail_append_some bits hone
        rw [hall] at hmore
        have hlen : tail.length = 1 := Nat.le_antisymm (ackTail_append_none [x] hbefore hone).1 (List.length_pos_iff.mpr hne)
        simp only [hmore, List.length_append, List.length_cons, List.length_nil, hlen, Nat.add_comm, Nat.sub_self, List.take_zero, List.foldl_nil]
      | none =>
        cases hmore : ackTail (rx.bits ++ x :: bits) with
        | none => rfl
        | some tail =>
          obtain ⟨hlen, -⟩ := ackTail_append_none bits hone (hall ▸ hmore)
          obtain ⟨-, hopen⟩ := ackTail_append_none (x :: bits) hbefore hmore
          have hcount : (x :: bits).length - tail.length = (bits.length - tail.length) + 1 := by
            rw [List.length_cons]; omega
          simp only [hcount, List.take_succ_cons, List.foldl_cons, h hopen]
          rfl

theorem quietBits_nil (s : State) : quietBits [] s = s := rfl

section InFrame
variable {s : State} {position : Nat} {rx : Reception} (htracking : s.link.tracking = .inFrame position)
  (hrx : s.link.reception = some rx)
include htracking hrx

/-- A bit of a frame being received: it is kept, and counted while the frame has not ended (R142, R152; assumption log 18). -/
theorem sampleBit_inFrame (x : Bool) :
    sampleBit s x = (quietBits (if rxFrame rx.bits = .incomplete then [x] else []) s).reframe (.inFrame (position + 1))
      (some (takeRxBits s.link [x] rx)) := by
  have htrack : trackBit s x = s.reframe (.inFrame (position + 1)) (some (takeRxBits s.link [x] rx)) := by
    simp only [trackBit, htracking, hrx, State.reframe]
  unfold sampleBit
  by_cases hopen : rxFrame rx.bits = .incomplete
  · have hkept : endKept s.link = false := by simp only [endKept, htracking, hrx, hopen]; rfl
    rw [hkept, htrack, if_pos hopen, if_neg Bool.false_ne_true, quietBits_reframe]
  · have hkept : endKept s.link = true := by simp only [endKept, htracking, hrx]; exact decide_eq_true hopen
    rw [hkept, htrack, if_neg hopen, if_pos rfl, quietBits_nil]

/-- A bit taken before the command that ends the frame does there what it does in it. -/
theorem receptionEnd_cons (cfg : Settings) (x : Bool) (bits : List Bool) :
    receptionEnd cfg (takeRxBits s.link [x] rx) bits (sampleBit s x) = receptionEnd cfg rx (x :: bits) s := by
  rw [sampleBit_inFrame htracking hrx, receptionEnd_reframe]
  have hbits : (takeRxBits s.link (x :: bits) rx).bits = rx.bits ++ x :: bits := rfl
  have htake : takeRxBits (quietBits (if rxFrame rx.bits = .incomplete then [x] else []) s).link bits (takeRxBits s.link [x] rx) =
      takeRxBits s.link (x :: bits) rx := takeRxBits_cons x bits fun hopen => by rw [if_pos hopen]; rfl
  have hfresh : ∀ rest : List Bool, rest = (rxFrame (rx.bits ++ x :: bits)).left → rxFrame (rx.bits ++ x :: bits) ≠ .incomplete →
      quietBits (bits.take (bits.length - rest.length)) (quietBits (if rxFrame rx.bits = .incomplete then [x] else []) s) =
        quietBits ((x :: bits).take ((x :: bits).length - rest.length)) s := by
    rintro rest rfl hended
    rw [← quietBits_append]
    by_cases hopen : rxFrame rx.bits = .incomplete
    · have hlen : (rxFrame (rx.bits ++ x :: bits)).left.length ≤ bits.length :=
        rxFrame_left_of_incomplete (x :: bits) hopen
      have hcount : (x :: bits).length - (rxFrame (rx.bits ++ x :: bits)).left.length =
          (bits.length - (rxFrame (rx.bits ++ x :: bits)).left.length) + 1 := by rw [List.length_cons]; omega
      rw [if_pos hopen, hcount, List.take_succ_cons]; rfl
    · have hlen : bits.length + 1 ≤ (rxFrame (rx.bits ++ x :: bits)).left.length := by
        rw [rxFrame_append _ hopen, RxResult.followed_left _ hopen, List.length_append, List.length_cons]
        exact Nat.le_add_left _ _
      rw [if_neg hopen, Nat.sub_eq_zero_of_le (by omega), List.length_cons, Nat.sub_eq_zero_of_le hlen]; rfl
  simp only [receptionEnd, htake, hbits]
  cases hframe : rxFrame (rx.bits ++ x :: bits) <;> simp only [hframe, RxResult.left] at hfresh <;> simp only
  case incomplete =>
    have hopen : rxFrame rx.bits = .incomplete := by
      by_contra hended
      exact RxResult.followed_ended (x :: bits) hended (by rw [← rxFrame_append _ hended, hframe])
    rw [if_pos hopen]
    show quietBits bits ((quietBits [x] s).reframe _ _) = quietBits ([x] ++ bits) (s.reframe _ _)
    rw [quietBits_reframe, quietBits_reframe, quietBits_append]
  all_goals rw [hfresh _ rfl (fun e => nomatch e)]

end InFrame

/-- Bits taken before the command that ends the frame do there what they do in it (R142, R152). -/
theorem receptionEnd_append (cfg : Settings) (a : List Bool) {s : State} {position : Nat} {rx : Reception}
    (htracking : s.link.tracking = .inFrame position) (hrx : s.link.reception = some rx) :
    ∃ rx' : Reception, (sampleBits a s).link.reception = some rx' ∧
      ∀ b : List Bool, receptionEnd cfg rx' b (sampleBits a s) = receptionEnd cfg rx (a ++ b) s := by
  induction a generalizing s position rx with
  | nil => exact ⟨rx, hrx, fun _ => rfl⟩
  | cons x a ih =>
    have hbit := sampleBit_inFrame htracking hrx x
    obtain ⟨rx', hrx', hend⟩ := ih (s := sampleBit s x) (position := position + 1) (rx := takeRxBits s.link [x] rx)
      (by rw [hbit]; rfl) (by rw [hbit]; rfl)
    exact ⟨rx', hrx', fun b => (hend b).trans (receptionEnd_cons htracking hrx cfg x (a ++ b))⟩

/-! ### FRAME_RECEIVED and QUIET_INTERVAL as commands -/

theorem setFlowPin_sampleBit (flow : Bool) (s : State) (x : Bool) :
    sampleBit (s.setFlowPin flow) x = (sampleBit s x).setFlowPin flow := by
  have htrack : trackBit (s.setFlowPin flow) x = (trackBit s x).setFlowPin flow := by
    unfold trackBit startReception
    simp only [setFlowPin_link]
    (repeat' split) <;> rfl
  unfold sampleBit
  simp only [setFlowPin_link, htrack]
  split_ifs <;> rfl

theorem setFlowPin_sampleBits (flow : Bool) (bits : List Bool) (s : State) :
    sampleBits bits (s.setFlowPin flow) = (sampleBits bits s).setFlowPin flow := by
  induction bits generalizing s with
  | nil => rfl
  | cons x bits ih => rw [sampleBits_cons, setFlowPin_sampleBit, ih, sampleBits_cons]

theorem Sampled.eq {s t : State} (h : Sampled s t) : t = { s with timeBase := t.timeBase, link := t.link } := by rw [← h.rest]

theorem Sampled.activeSettings {s t : State} (h : Sampled s t) : Machine.activeSettings t = Machine.activeSettings s :=
  activeSettings_congr (by rw [h.eq]) (by rw [h.eq]) (by rw [h.eq])

theorem exec_quietInterval {cfg : Settings} {s : State} (hcfg : activeSettings s = some cfg) (hstate : s.link.state = .detached)
    (line : Line) : exec (.quietInterval line) s = .next (takeBits cfg sampleBits line s) := by
  show Host.Outcome.next (whenActive s _) = _
  rw [whenActive_of_active hcfg, if_pos hstate]

theorem exec_frameReceived {cfg : Settings} {s : State} {rx : Reception} (hcfg : activeSettings s = some cfg)
    (hrx : s.link.reception = some rx) (line : Line) (flow : Bool) :
    exec (.frameReceived line flow) s = .next (takeBits cfg (receptionEnd cfg rx) line (s.setFlowPin flow)) := by
  show Host.Outcome.next (whenActive s _) = _
  rw [whenActive_of_active hcfg, hrx]

/-- Line tracking leaves the counts of the link to the quiet bits (R135). -/
theorem trackBit_link (s : State) (b : Bool) :
    ∃ (t : Tracking) (rx : Option Reception), (trackBit s b).link = { s.link with tracking := t, reception := rx } := by
  unfold trackBit startReception
  (repeat' split) <;> exact ⟨_, _, rfl⟩

/-- One bit while no kept end waits: the counts of the link move as the quiet bit moves them (R152). -/
theorem sampleBit_link {s : State} (h : endKept s.link = false) (b : Bool) :
    ∃ (t : Tracking) (rx : Option Reception), (sampleBit s b).link = { quietBit s.link b with tracking := t, reception := rx } := by
  obtain ⟨t, rx, htrack⟩ := trackBit_link s b
  refine ⟨t, rx, ?_⟩
  rw [sampleBit, h, if_neg Bool.false_ne_true]
  show quietBit (trackBit s b).link b = _
  rw [htrack, quietBit_reframe]

/-- A recessive bit while DETACHED, by the run and the count of intervals (R152). -/
theorem quietBit_true {l : Link} (h : l.state = .detached) :
    (l.quietRun < 11 → quietBit l true = { l with quietRun := l.quietRun + 1 }) ∧
      (l.quietRun = 11 → l.quietCount < 63 → quietBit l true = { l with quietRun := 0, quietCount := l.quietCount + 1 }) ∧
      (l.quietRun = 11 → l.quietCount = 63 →
        quietBit l true = { l with state := .active, tec := 0, recv := 0, quietRun := 0, quietCount := 0 }) := by
  refine ⟨fun hrun => ?_, fun hrun hcount => ?_, fun hrun hcount => ?_⟩ <;> rw [quietBit, if_pos h, if_neg (by exact Bool.false_ne_true)]
  · rw [if_pos (by omega)]
  · rw [if_neg (by omega), if_pos (by omega)]
  · rw [if_neg (by omega), if_neg (by omega)]

end Sys2Proof.Machine

namespace Sys2Proof.Proofs.QuietIntervals
open Sys2Proof.Machine

/-- Settles O47: the count by the one bit, and the frame in pieces. -/
theorem sixtyFourQuietIntervalsReturnTheLink : Obligations.SixtyFourQuietIntervalsReturnTheLink := by
  unfold Obligations.SixtyFourQuietIntervalsReturnTheLink
  refine ⟨fun cfg s b hcfg hstate hkept => ?_, fun cfg s t rx position a b flow hcfg hstate htracking hrx ht => ?_⟩
  · obtain ⟨_, _, hlink⟩ := sampleBit_link hkept b
    have heq := (sampleBit_sampled s b).eq
    refine ⟨sampleBit s b, exec_quietInterval hcfg hstate _, ?_, ?_, ?_, ?_, by rw [heq], by rw [heq], by rw [heq], by rw [heq],
      by rw [heq], by rw [heq], by rw [heq], by rw [heq]⟩
    · rintro rfl
      rw [hlink, quietBit_false, if_pos hstate]
      exact ⟨rfl, rfl, hstate, rfl, rfl⟩
    · rintro rfl hrun
      rw [hlink, (quietBit_true hstate).1 hrun]
      exact ⟨rfl, rfl, hstate, rfl, rfl⟩
    · rintro rfl hrun hcount
      rw [hlink, (quietBit_true hstate).2.1 hrun hcount]
      exact ⟨rfl, rfl, hstate, rfl, rfl⟩
    · rintro rfl hrun hcount
      rw [hlink, (quietBit_true hstate).2.2 hrun hcount]
      exact ⟨rfl, rfl, rfl, rfl, rfl⟩
  · have ht : sampleBits a s = t := Host.Outcome.next.inj ((exec_quietInterval hcfg hstate _).symm.trans ht)
    subst ht
    obtain ⟨rx', hrx', hend⟩ := receptionEnd_append cfg a (s := s.setFlowPin flow) htracking hrx
    rw [setFlowPin_sampleBits] at hrx' hend
    rw [exec_frameReceived ((sampleBits_sampled a s).activeSettings.trans hcfg) hrx', exec_frameReceived hcfg hrx]
    exact congrArg _ (hend b)

end Sys2Proof.Proofs.QuietIntervals

/-! PROOFS. Crossings, losses and the oscillator: the mains-cycle end they give, within a slot and at the event of the next one, and what
is recorded after it (R1 to R5, R19, R20, R182 to R184). -/

namespace Sys2Proof.Machine

/-! ### Mains-cycle ends (R4) -/

/-- The state at a mains-cycle end, with the new position, before the event it may issue (R4, R19, R20). -/
def endedAt (position : Nat) (s : State) : State :=
  (s.setScanner (scannerMainsEnd s.supervisor.gates s.scanner)).setTimeBase { s.timeBase with position := position }

theorem mainsCycleEnd_of_inactive {s : State} (h : activeSettings s = none) : mainsCycleEnd s = s := whenActive_of_inactive h _

/-- A mains-cycle end moves the position on, with the event of the next slot where it is entered (R4, R5). -/
theorem mainsCycleEnd_of_active {s : State} {cfg : Settings} (h : activeSettings s = some cfg) :
    mainsCycleEnd s =
      if entersNext cfg s.timeBase s.timeBase.position ((s.timeBase.position + 1) % cycleLength cfg) then
        slotEvent cfg true (nextSlot s.timeBase) (endedAt ((s.timeBase.position + 1) % cycleLength cfg) s)
      else endedAt ((s.timeBase.position + 1) % cycleLength cfg) s := whenActive_of_active h _

/-- Within a slot the position moves on alone. -/
theorem mainsCycleEnd_within {s : State} {cfg : Settings} (h : activeSettings s = some cfg)
    (hposition : s.timeBase.position + 1 < 32 * cfg.slotLen)
    (hslot : (s.timeBase.position + 1) / cfg.slotLen = s.timeBase.position / cfg.slotLen) :
    mainsCycleEnd s = endedAt (s.timeBase.position + 1) s := by
  have hmod : (s.timeBase.position + 1) % cycleLength cfg = s.timeBase.position + 1 := Nat.mod_eq_of_lt hposition
  have hstays : entersNext cfg s.timeBase s.timeBase.position (s.timeBase.position + 1) = false := by
    simp [entersNext, slotOf, hslot]
  rw [mainsCycleEnd_of_active h, hmod, hstays, if_neg Bool.false_ne_true]

/-- The last mains cycle of the heating cycle ends in the event of slot 0. -/
theorem mainsCycleEnd_boundary {s : State} {cfg : Settings} (h : BoundaryDue cfg s) :
    mainsCycleEnd s = slotEvent cfg true 0 (endedAt 0 s) := by
  have hmod : (s.timeBase.position + 1) % cycleLength cfg = 0 := by rw [h.position, Nat.mod_self]
  have hnext : nextSlot s.timeBase = 0 := by rw [nextSlot, h.taken]
  have hslot : slotOf cfg s.timeBase.position = 31 := by
    have hposition : s.timeBase.position = 31 * cfg.slotLen + (cfg.slotLen - 1) := by
      have hp := h.position
      have hlen := h.slotLen
      unfold cycleLength at hp
      omega
    rw [slotOf, hposition, Nat.mul_comm, Nat.mul_add_div h.slotLen, Nat.div_eq_of_lt (Nat.sub_lt h.slotLen Nat.one_pos)]
  have henters : entersNext cfg s.timeBase s.timeBase.position 0 = true := by
    rw [entersNext, hslot, hnext, slotOf, Nat.zero_div]; rfl
  rw [mainsCycleEnd_of_active h.active, hmod, henters, if_pos rfl, hnext]

/-- The last mains cycle before a slot ends in that slot's event. -/
theorem mainsCycleEnd_slot {s : State} {cfg : Settings} {slot : Nat} (h : SlotDue cfg slot s) :
    mainsCycleEnd s = slotEvent cfg true slot (endedAt (slot * cfg.slotLen) s) := by
  have hlen := h.slotLen
  have hmod : (s.timeBase.position + 1) % cycleLength cfg = slot * cfg.slotLen := by
    rw [h.position]
    exact Nat.mod_eq_of_lt (Nat.mul_lt_mul_of_pos_right (Nat.lt_succ_of_le h.range.2) hlen)
  have hnext : nextSlot s.timeBase = slot := by
    have := h.taken
    have := h.range
    rw [nextSlot]
    omega
  have hslot : slotOf cfg s.timeBase.position ≠ slot := by
    rw [slotOf]
    refine Nat.ne_of_lt (Nat.div_lt_of_lt_mul ?_)
    have := h.position
    rw [Nat.mul_comm]
    omega
  have henters : entersNext cfg s.timeBase s.timeBase.position (slot * cfg.slotLen) = true := by
    have hnew : slotOf cfg (slot * cfg.slotLen) = slot := Nat.mul_div_cancel _ hlen
    simp [entersNext, hnew, hnext, hslot]
  rw [mainsCycleEnd_of_active h.active, hmod, henters, if_pos rfl, hnext]

/-- What a mains-cycle end leaves as it was, with the position it moves to. -/
theorem mainsCycleEnd_cases (s : State) :
    (activeSettings s = none ∧ mainsCycleEnd s = s) ∨
      ∃ cfg : Settings, activeSettings s = some cfg ∧
        EventKept (endedAt ((s.timeBase.position + 1) % cycleLength cfg) s) (mainsCycleEnd s) := by
  cases h : activeSettings s with
  | none => exact .inl ⟨rfl, mainsCycleEnd_of_inactive h⟩
  | some cfg =>
    refine .inr ⟨cfg, rfl, ?_⟩
    rw [mainsCycleEnd_of_active h]
    split
    · exact slotEvent_eventKept cfg true _ _
    · exact EventKept.refl _

/-- What every mains-cycle end leaves of the records of the mains (R4). -/
structure MainsKept (s t : State) : Prop where
  source : t.timeBase.source = s.timeBase.source
  run : t.timeBase.run = s.timeBase.run
  measuredPeriod : t.timeBase.measuredPeriod = s.timeBase.measuredPeriod
  mainsClass : t.timeBase.mainsClass = s.timeBase.mainsClass
  periodBase : t.timeBase.periodBase = s.timeBase.periodBase
  mainsLost : t.supervisor.mainsLost = s.supervisor.mainsLost
  recovery : t.supervisor.recovery = s.supervisor.recovery
  voltageClass : t.scanner.voltageClass = s.scanner.voltageClass

theorem MainsKept.refl (s : State) : MainsKept s s := by constructor <;> rfl

theorem EventKept.mainsKept {s t : State} {position : Nat} (h : EventKept (endedAt position s) t) : MainsKept s t :=
  ⟨h.timeSource, h.timeRun, h.timeMeasuredPeriod, h.timeMainsClass, h.timePeriodBase, h.supMainsLost, h.supRecovery, h.scanVoltageClass⟩

theorem mainsCycleEnd_mainsKept (s : State) : MainsKept s (mainsCycleEnd s) := by
  obtain ⟨-, h⟩ | ⟨cfg, -, h⟩ := mainsCycleEnd_cases s
  · rw [h]; exact MainsKept.refl s
  · exact h.mainsKept

/-! ### Accepted crossings (R1, R3, R182) -/

/-- What follows the mains-cycle end of an accepted crossing: the run, and the report to the supervisor (R1, R3, R182). -/
def crossingCounted (s : State) : State := reportCrossing (s.setTimeBase (countCrossing s.timeBase))

theorem crossingStep_of_accepted {s : State} {interval : Nat} (hmonitored : monitoring s = true)
    (haccepted : crossingIgnored interval s.timeBase = false) (flow : Bool) :
    crossingStep interval flow s = acceptCrossing interval (s.setFlowPin flow) := by
  rw [crossingStep, hmonitored, haccepted]; rfl

theorem crossingStep_of_ignored {s : State} {interval : Nat} (hignored : crossingIgnored interval s.timeBase = true) (flow : Bool) :
    crossingStep interval flow s = s := by
  rw [crossingStep, hignored, Bool.or_true, if_pos rfl]

theorem monitoring_of_active {s : State} {cfg : Settings} (h : activeSettings s = some cfg) : monitoring s = true := by
  obtain ⟨hreset, hjoined, -⟩ := resetInProgress_of_active h
  have hstation : s.supervisor.station ≠ .configFault := fun e => by rw [e] at hjoined; exact nomatch hjoined
  simp [monitoring, hreset, hstation]

theorem acceptCrossing_eq (interval : Nat) (s : State) :
    acceptCrossing interval s = crossingCounted
      (if crossingEnds s.timeBase then mainsCycleEnd (s.setTimeBase (measurePeriod interval s.timeBase))
       else s.setTimeBase (measurePeriod interval s.timeBase)) := rfl

/-- A crossing on OSCILLATOR measures no period (R1). -/
theorem measurePeriod_of_oscillator (interval : Nat) {t : TimeBase} (h : t.source = .oscillator) : measurePeriod interval t = t := by
  rw [measurePeriod, h]; rfl

/-- What the report of a crossing does to the recovery count and the mains-lost mark (R182). -/
theorem reportCrossing_eq (s : State) :
    reportCrossing s = s.setSupervisor { s.supervisor with
      recovery := if s.scanner.voltageClass = some .normal then min 8 (s.supervisor.recovery + 1) else 0
      mainsLost := s.supervisor.mainsLost &&
        !(decide (s.scanner.voltageClass = some .normal) && decide (7 ≤ s.supervisor.recovery)) } := by
  have hmark : ∀ b : Bool, (b && decide ((if s.scanner.voltageClass = some .normal then min 8 (s.supervisor.recovery + 1) else 0) ≠ 8)) =
      (b && !(decide (s.scanner.voltageClass = some .normal) && decide (7 ≤ s.supervisor.recovery))) := by
    intro b
    congr 1
    by_cases hv : s.scanner.voltageClass = some .normal
    · by_cases hr : 7 ≤ s.supervisor.recovery
      · simp [hv, hr]
      · simp [hv, hr]
    · simp [hv]
  simp only [reportCrossing, recoveryAfter, aboveSag, saturate, decide_eq_true_eq, hmark]

theorem countCrossing_of_oscillator {t : TimeBase} (hsource : t.source = .oscillator) (hrun : t.run ≠ 7) :
    countCrossing t = { t with run := min 255 (t.run + 1), crossingSeen := true, periodBase := false } := by
  have hnot : ¬(t.source = .oscillator ∧ t.run = 7) := fun k => hrun k.2
  have hbase : decide (t.source = .mains) = false := by rw [hsource]; rfl
  simp only [countCrossing, saturate]
  rw [if_neg hnot, hbase]

theorem countCrossing_of_mains {t : TimeBase} (hsource : t.source = .mains) :
    countCrossing t = { t with run := min 255 (t.run + 1), crossingSeen := true, periodBase := true } := by
  have hnot : ¬(t.source = .oscillator ∧ t.run = 7) := fun k => nomatch hsource.symm.trans k.1
  have hbase : decide (t.source = .mains) = true := by rw [hsource]; rfl
  simp only [countCrossing, saturate]
  rw [if_neg hnot, hbase]

theorem countCrossing_of_eighth {t : TimeBase} (hsource : t.source = .oscillator) (hrun : t.run = 7) :
    countCrossing t = { t with run := 8, source := .mains, crossingSeen := true, periodBase := true } := by
  simp only [countCrossing, saturate]
  rw [if_pos ⟨hsource, hrun⟩, hrun]
  rfl

end Sys2Proof.Machine

/-! PROOFS. What a crossing, a loss and an end by the oscillator do, in numbers and states (R1 to R4, R182 to R184). -/

namespace Sys2Proof.Machine

theorem measurePeriod_of_mains (interval : Nat) {t : TimeBase} (h : t.source = .mains) :
    measurePeriod interval t = { t with
      measuredPeriod := if t.periodBase then some interval else t.measuredPeriod
      mainsClass := if t.periodBase then (if interval < 18200 then .hz60 else .hz50) else t.mainsClass } := by
  have hsource : decide (t.source = .mains) = true := by rw [h]; rfl
  rw [measurePeriod, hsource, Bool.true_and]
  by_cases hbase : t.periodBase = true
  · simp only [if_pos hbase, classOf]
  · simp only [if_neg hbase]

/-- The scanner at a mains-cycle end, by the ends of its window (R19, R20). -/
theorem scannerMainsEnd_eq (g : Six Bool) (sc : Scanner) :
    scannerMainsEnd g sc = { sc with
      scan := false
      scanDue := sc.scan
      window := sc.window.bind fun w =>
        if w.ends = 0 then some { w with ends := 1 } else if w.ends = 1 then some { w with ends := 2, level := g } else none
      windowDue := sc.window.bind fun w => if 2 ≤ w.ends then some w else none } := by
  have hwindow : windowAtEnd g = fun w : Window =>
      if w.ends = 0 then some { w with ends := 1 } else if w.ends = 1 then some { w with ends := 2, level := g } else none := by
    funext w
    unfold windowAtEnd
    match hends : w.ends with
    | 0 => rfl
    | 1 => rfl
    | n + 2 => rfl
  rw [scannerMainsEnd, hwindow]
  rfl

theorem measurePeriod_eq (interval : Nat) (t : TimeBase) :
    ∃ (p : Option Nat) (c : MainsClass), measurePeriod interval t = { t with measuredPeriod := p, mainsClass := c } := by
  unfold measurePeriod
  split
  · exact ⟨_, _, rfl⟩
  · exact ⟨_, _, rfl⟩

/-- The state in which a crossing on MAINS ends its mains cycle: FLOW taken, and the period measured (R1). -/
def measured (interval : Nat) (flow : Bool) (s : State) : State :=
  (s.setFlowPin flow).setTimeBase (measurePeriod interval s.timeBase)

theorem measured_eq (interval : Nat) (flow : Bool) (s : State) : ∃ (p : Option Nat) (c : MainsClass),
    measured interval flow s = { s with flowPin := flow, timeBase := { s.timeBase with measuredPeriod := p, mainsClass := c } } := by
  obtain ⟨p, c, h⟩ := measurePeriod_eq interval s.timeBase
  exact ⟨p, c, by rw [measured, h]; rfl⟩

theorem measured_position (interval : Nat) (flow : Bool) (s : State) :
    (measured interval flow s).timeBase.position = s.timeBase.position := by
  obtain ⟨p, c, h⟩ := measured_eq interval flow s
  rw [h]

theorem measured_source (interval : Nat) (flow : Bool) (s : State) : (measured interval flow s).timeBase.source = s.timeBase.source := by
  obtain ⟨p, c, h⟩ := measured_eq interval flow s
  rw [h]

/-- A crossing on MAINS ends a mains cycle, under its measured period (R1). -/
theorem crossingStep_of_mains {interval : Nat} {s : State} (hmonitored : monitoring s = true)
    (haccepted : crossingIgnored interval s.timeBase = false) (h : s.timeBase.source = .mains) (flow : Bool) :
    crossingStep interval flow s = crossingCounted (mainsCycleEnd (measured interval flow s)) := by
  have hends : crossingEnds (s.setFlowPin flow).timeBase = true := by
    show crossingEnds s.timeBase = true
    rw [crossingEnds, h]; rfl
  rw [crossingStep_of_accepted hmonitored haccepted, acceptCrossing_eq, if_pos hends]
  rfl

/-- A crossing on OSCILLATOR that is not the eighth is counted alone (R1, R3). -/
theorem acceptCrossing_of_oscillator (interval : Nat) {s : State} (h : s.timeBase.source = .oscillator) (hrun : s.timeBase.run ≠ 7) :
    acceptCrossing interval s = crossingCounted s := by
  have hends : crossingEnds s.timeBase = false := by rw [crossingEnds, h, decide_eq_false hrun]; rfl
  rw [acceptCrossing_eq, hends, measurePeriod_of_oscillator interval h]
  rfl

/-- The eighth crossing of a run on OSCILLATOR ends a mains cycle (R3). -/
theorem acceptCrossing_of_eighth (interval : Nat) {s : State} (h : s.timeBase.source = .oscillator) (hrun : s.timeBase.run = 7) :
    acceptCrossing interval s = crossingCounted (mainsCycleEnd s) := by
  have hends : crossingEnds s.timeBase = true := by rw [crossingEnds, decide_eq_true hrun, Bool.or_true]
  rw [acceptCrossing_eq, if_pos hends, measurePeriod_of_oscillator interval h]
  rfl

/-- What an accepted crossing keeps of the mains records before it is counted. -/
structure CountedKept (s u : State) : Prop where
  run : u.timeBase.run = s.timeBase.run
  mainsLost : u.supervisor.mainsLost = s.supervisor.mainsLost
  recovery : u.supervisor.recovery = s.supervisor.recovery
  voltageClass : u.scanner.voltageClass = s.scanner.voltageClass

theorem acceptCrossing_counted (interval : Nat) (s : State) :
    ∃ u : State, acceptCrossing interval s = crossingCounted u ∧ CountedKept s u := by
  have hrun : (measurePeriod interval s.timeBase).run = s.timeBase.run := by
    obtain ⟨p, c, h⟩ := measurePeriod_eq interval s.timeBase
    rw [h]
  refine ⟨_, acceptCrossing_eq interval s, ?_⟩
  split
  · have hkept := mainsCycleEnd_mainsKept (s.setTimeBase (measurePeriod interval s.timeBase))
    exact ⟨hkept.run.trans hrun, hkept.mainsLost, hkept.recovery, hkept.voltageClass⟩
  · exact ⟨hrun, rfl, rfl, rfl⟩

/-! ### Losses (R2, R183) -/

/-- What the supervisor's record of a loss does, in every station state but CONFIG_FAULT (R182, R183). -/
theorem setMainsLost_noted {s : State} (h : s.supervisor.station ≠ .configFault) :
    (setMainsLost s).supervisor.mainsLost = true ∧ (setMainsLost s).supervisor.recovery = 0 := by
  have henter : ∀ t : State, (enterMainsLost t).supervisor.mainsLost = t.supervisor.mainsLost ∧
      (enterMainsLost t).supervisor.recovery = t.supervisor.recovery := fun t => by
    unfold enterMainsLost setStation
    split <;> exact ⟨rfl, rfl⟩
  unfold setMainsLost
  split
  case h_1 e => exact absurd e h
  case h_2 | h_3 => exact henter _
  all_goals exact ⟨rfl, rfl⟩

/-- The entry into MAINS_LOST from RUNNING and HELD (R183). -/
theorem setMainsLost_entered {s : State} (h : s.supervisor.station = .running ∨ s.supervisor.station = .held) :
    (setMainsLost s).supervisor.station = .mainsLost ∧ (∀ z : Index, (setMainsLost s).supervisor.gates.get z = false) ∧
      (setMainsLost s).supervisor.stepRecord = false ∧ (setMainsLost s).supervisor.changeMark = true := by
  have henter : setMainsLost s = enterMainsLost (noteLoss s) := by
    obtain h | h := h <;> simp only [setMainsLost, h]
  have hother : (allGatesOff (noteLoss s)).supervisor.station ≠ .mainsLost := by
    show s.supervisor.station ≠ .mainsLost
    obtain h | h := h <;> rw [h] <;> exact fun e => nomatch e
  rw [henter, enterMainsLost, setStation, if_neg hother]
  exact ⟨rfl, fun z => Six.get_fill _ z, rfl, rfl⟩

/-- A loss record touches the supervisor and the window's gate marks alone (R183). -/
theorem setMainsLost_rest (s : State) : { setMainsLost s with supervisor := s.supervisor, scanner := s.scanner } = s := by
  obtain ⟨x, sc, h⟩ := setMainsLost_supervisorScannerAlone s
  rw [h]; rfl

theorem setMainsLost_scannerZones (s : State) : (setMainsLost s).scanner.zones = s.scanner.zones := (setMainsLost_stepKept s).zones

/-! ### The station state through a mains-cycle end (R179) -/

/-- A station RUNNING or HELD is one of the two after a slot-boundary event (R179). -/
def AtWork (s : State) : Prop := s.supervisor.station = .running ∨ s.supervisor.station = .held

theorem AtWork.congr {s t : State} (h : t.supervisor.station = s.supervisor.station) (hs : AtWork s) : AtWork t := by
  unfold AtWork
  rwa [h]

theorem boundaryDecision_atWork (cfg : Settings) {s : State} (h : AtWork s) : AtWork (boundaryDecision cfg s) := by
  obtain h | h := h <;> simp only [boundaryDecision, h]
  · split
    · exact .inr (setStation_station s .held)
    · exact .inl h
  · split
    · exact .inl (setStation_station s .running)
    · exact .inr h

theorem atWork_blocksClosed (cfg : Settings) : BlocksClosed cfg AtWork where
  served _ _ h hs := hs.congr h.supStation
  timeBase _ _ hs := hs
  placement _ _ hs := hs
  station s _ hs := by
    have hnot : ¬(s.supervisor.station = .listening ∧ (boundaryDecision cfg s).supervisor.station = .running) := by
      rintro ⟨hl, -⟩
      obtain h | h := hs <;> exact nomatch h.symm.trans hl
    rw [stationBoundary, if_neg hnot]
    exact boundaryDecision_atWork cfg hs
  peers _ _ hs := hs
  permits _ hs := hs
  drive _ _ hs := hs
  arm _ _ _ hs := hs
  sources _ hs := hs
  demands _ _ hs := hs
  curtailment _ _ hs := hs
  statusSent _ _ _ hs := hs
  refusal _ hs := hs

/-- The blocks act after a slot-boundary event as before it. -/
def Joined (s : State) : Prop := joinedState s.supervisor.station = true

theorem Joined.congr {s t : State} (h : t.supervisor.station = s.supervisor.station) (hs : Joined s) : Joined t := by
  unfold Joined
  rwa [h]

theorem joined_blocksClosed (cfg : Settings) : BlocksClosed cfg Joined where
  served _ _ h hs := hs.congr h.supStation
  timeBase _ _ hs := hs
  placement _ _ hs := hs
  station s _ hs := by
    have hdecided := (boundaryDecision_joined cfg s hs).1
    simp only [stationBoundary]
    split <;> exact hdecided
  peers _ _ hs := hs
  permits _ hs := hs
  drive _ _ hs := hs
  arm _ _ _ hs := hs
  sources _ hs := hs
  demands _ _ hs := hs
  curtailment _ _ hs := hs
  statusSent _ _ _ hs := hs
  refusal _ hs := hs

/-- A mains-cycle end takes no station into CONFIG_FAULT, and leaves a station at work there. -/
theorem mainsCycleEnd_station {s : State} (h : s.supervisor.station ≠ .configFault) :
    (mainsCycleEnd s).supervisor.station ≠ .configFault ∧ (AtWork s → AtWork (mainsCycleEnd s)) := by
  cases hactive : activeSettings s with
  | none => rw [mainsCycleEnd_of_inactive hactive]; exact ⟨h, id⟩
  | some cfg =>
    obtain ⟨-, hjoined, hsettled⟩ := resetInProgress_of_active hactive
    have hend : mainsCycleEnd s = moveTo cfg ((s.timeBase.position + 1) % cycleLength cfg)
        (s.setScanner (scannerMainsEnd s.supervisor.gates s.scanner)) := whenActive_of_active hactive _
    rw [hend]
    refine ⟨fun e => ?_, fun hwork => ?_⟩
    · have hkept : Joined (moveTo cfg ((s.timeBase.position + 1) % cycleLength cfg)
          (s.setScanner (scannerMainsEnd s.supervisor.gates s.scanner))) :=
        moveTo_keeps (joined_blocksClosed cfg).eventClosed _ hsettled hjoined
      rw [Joined, e] at hkept
      exact nomatch hkept
    · exact moveTo_keeps (atWork_blocksClosed cfg).eventClosed _ hsettled hwork

/-- A loss, with the mains cycle that it ends on MAINS (R2; assumption log 29). -/
theorem declareLoss_cases {s : State} (h : s.supervisor.station ≠ .configFault) :
    ∃ u : State, declareLoss s = setMainsLost u ∧ u.timeBase.run = 0 ∧ u.timeBase.source = .oscillator ∧ u.timeBase.periodBase = false ∧
      u.supervisor.station ≠ .configFault ∧ (AtWork s → AtWork u) ∧
      (s.timeBase.source = .oscillator → u = s.setTimeBase (loseCrossings s.timeBase)) := by
  refine ⟨_, rfl, ?_⟩
  by_cases hsource : s.timeBase.source = .mains
  · rw [if_pos hsource]
    have hkept := mainsCycleEnd_mainsKept (s.setTimeBase (loseCrossings s.timeBase))
    have hstation := mainsCycleEnd_station (s := s.setTimeBase (loseCrossings s.timeBase)) h
    exact ⟨hkept.run, hkept.source, hkept.periodBase, hstation.1, hstation.2, fun k => nomatch hsource.symm.trans k⟩
  · rw [if_neg hsource]
    exact ⟨rfl, rfl, rfl, h, id, fun _ => rfl⟩

end Sys2Proof.Machine

namespace Sys2Proof.Proofs.Crossings
open Sys2Proof.Machine

/-- Settles O4, by the source. -/
theorem crossingCountsBySource : Obligations.CrossingCountsBySource := by
  unfold Obligations.CrossingCountsBySource
  refine ⟨fun s interval flow hseen hshort => ?_, fun s interval flow hmon haccepted hsource hrun => ?_,
    fun cfg s interval flow hcfg haccepted hsource hlen hposition hslot => ?_⟩
  · have hignored : crossingIgnored interval s.timeBase = true := by
      rw [crossingIgnored, hseen, Bool.true_and]
      exact decide_eq_true hshort
    exact congrArg _ (crossingStep_of_ignored hignored flow)
  · show Host.Outcome.next (crossingStep interval flow s) = _
    rw [crossingStep_of_accepted hmon haccepted, acceptCrossing_of_oscillator interval (s := s.setFlowPin flow) hsource hrun,
      crossingCounted, reportCrossing_eq, countCrossing_of_oscillator (t := (s.setFlowPin flow).timeBase) hsource hrun]
    rfl
  · show Host.Outcome.next (crossingStep interval flow s) = _
    rw [crossingStep_of_mains (monitoring_of_active hcfg) haccepted hsource,
      mainsCycleEnd_within (s := measured interval flow s) hcfg (by rw [measured_position]; exact hposition)
        (by rw [measured_position]; exact hslot),
      crossingCounted, reportCrossing_eq, countCrossing_of_mains (by exact (measured_source interval flow s).trans hsource), endedAt,
      scannerMainsEnd_eq, measured, measurePeriod_of_mains interval hsource]
    rfl

/-- Settles O5: the eighth crossing of the run, and the eighth good one. -/
theorem eighthCrossingReturnsAndRecovers : Obligations.EighthCrossingReturnsAndRecovers := by
  unfold Obligations.EighthCrossingReturnsAndRecovers
  refine ⟨fun s interval flow hmon haccepted hsource hrun => ?_, fun s interval flow hmon haccepted hlost hrecovery hvoltage => ?_⟩
  · have hkept := mainsCycleEnd_mainsKept (s.setFlowPin flow)
    refine ⟨crossingCounted (mainsCycleEnd (s.setFlowPin flow)), ?_, ?_⟩
    · show Host.Outcome.next (if _ then _ else _) = _
      rw [if_pos ⟨hsource, hrun⟩, crossingStep_of_accepted hmon haccepted, acceptCrossing_of_eighth interval (s := s.setFlowPin flow) hsource hrun]
    · rw [crossingCounted, countCrossing_of_eighth (hkept.source.trans hsource) (hkept.run.trans hrun)]
      refine ⟨rfl, rfl, rfl, hkept.measuredPeriod, hkept.mainsClass, fun cfg hcfg => ?_, fun hnone => ?_⟩
      · obtain ⟨hnone, -⟩ | ⟨cfg', hcfg', hend⟩ := mainsCycleEnd_cases (s.setFlowPin flow)
        · exact nomatch hcfg.symm.trans hnone
        · obtain rfl : cfg = cfg' := Option.some.inj (hcfg.symm.trans hcfg')
          exact hend.timePosition
      · rw [mainsCycleEnd_of_inactive (s := s.setFlowPin flow) hnone]; rfl
  · have hstep := crossingStep_of_accepted hmon haccepted flow
    obtain ⟨u, hu, hkept⟩ := acceptCrossing_counted interval (s.setFlowPin flow)
    have hgood : u.scanner.voltageClass = some .normal := hkept.voltageClass.trans hvoltage
    have hseven : u.supervisor.recovery = 7 := hkept.recovery.trans hrecovery
    have hclear : (crossingCounted u).supervisor.mainsLost = false ∧ (crossingCounted u).supervisor.recovery = 8 := by
      rw [crossingCounted, reportCrossing_eq]
      simp [hgood, hseven]
    refine ⟨crossingCounted u, ?_, by rw [← hu, ← hstep]; rfl, hclear.1, hclear.2, ?_, fun hsource hrun => ?_⟩
    · show Host.Outcome.next (if s.supervisor.mainsLost && !(crossingStep interval flow s).supervisor.mainsLost then _ else s) = _
      rw [hstep, hu, hclear.1, hlost]
      rfl
    · exact congrArg (fun n => min 255 (n + 1)) hkept.run
    · rw [← hu, acceptCrossing_of_oscillator interval (s := s.setFlowPin flow) hsource hrun]
      have hposition : ∀ t : TimeBase, (countCrossing t).position = t.position := fun _ => rfl
      exact ⟨rfl, rfl⟩

/-- Settles O6. -/
theorem lossAndOscillatorKeepTimeWithoutMains : Obligations.LossAndOscillatorKeepTimeWithoutMains := by
  unfold Obligations.LossAndOscillatorKeepTimeWithoutMains
  refine ⟨fun s flow hmon => ?_, fun s flow => ⟨fun hsource => ?_, fun hmon hsource hnone => ?_,
    fun cfg hcfg hsource hlen hposition hslot => ?_⟩⟩
  · have hmonitored := (station_of_monitoring hmon).2
    obtain ⟨u, hu, hrun, hosc, hbase, hfault, hwork, hstands⟩ := declareLoss_cases (s := s.setFlowPin flow) hmonitored
    have hnoted := setMainsLost_noted hfault
    obtain ⟨x, sc, hrest⟩ := setMainsLost_supervisorScannerAlone u
    have htime : (setMainsLost u).timeBase = u.timeBase := by rw [hrest]; rfl
    refine ⟨setMainsLost u, ?_, htime ▸ hrun, htime ▸ hosc, htime ▸ hbase, hnoted.1, hnoted.2, fun k => setMainsLost_entered (hwork k),
      fun hsource => ?_⟩
    · show Host.Outcome.next (lossStep flow s) = _
      rw [lossStep, if_pos hmon, hu]
    · obtain rfl := hstands hsource
      refine ⟨?_, ?_, setMainsLost_scannerZones _, ?_, ?_, ?_, ?_, ?_, ?_⟩ <;> rw [hrest] <;> rfl
  · show Host.Outcome.next (oscillatorStep flow s) = _
    rw [oscillatorStep, hsource, if_neg (by simp)]
  · show Host.Outcome.next (oscillatorStep flow s) = _
    rw [oscillatorStep, hmon, hsource, if_pos (by rfl), mainsCycleEnd_of_inactive (s := s.setFlowPin flow) hnone]
    rfl
  · show Host.Outcome.next (oscillatorStep flow s) = _
    rw [oscillatorStep, monitoring_of_active hcfg, hsource, if_pos (by rfl),
      mainsCycleEnd_within (s := s.setFlowPin flow) hcfg hposition hslot, endedAt, scannerMainsEnd_eq]
    rfl

end Sys2Proof.Proofs.Crossings

/-! PROOFS. What the exchanges between the producers and the ring leave of the mailbox, the flow sender's levels and the change mark, and
the state in which the points of a slot are taken (R5, R7, R112, R165, R185, R190). -/

namespace Sys2Proof.Machine

/-! ### Exchanges -/

/-- What requests, completions, releases and yields leave of the producers' own records: the mailbox, the levels of the flow sender, and a
change mark that is set. -/
structure ProducersKept (s t : State) : Prop where
  mailbox : t.ring.mailbox = s.ring.mailbox
  confirmed : t.peers.flow.confirmed = s.peers.flow.confirmed
  changeCycle : t.peers.flow.changeCycle = s.peers.flow.changeCycle
  candidate : t.peers.flow.candidate = s.peers.flow.candidate
  candidateCount : t.peers.flow.candidateCount = s.peers.flow.candidateCount
  mark : s.supervisor.changeMark = true → t.supervisor.changeMark = true

theorem ProducersKept.refl (s : State) : ProducersKept s s := ⟨rfl, rfl, rfl, rfl, rfl, id⟩

theorem ProducersKept.trans {s t u : State} (h : ProducersKept s t) (k : ProducersKept t u) : ProducersKept s u :=
  ⟨k.mailbox.trans h.mailbox, k.confirmed.trans h.confirmed, k.changeCycle.trans h.changeCycle, k.candidate.trans h.candidate,
    k.candidateCount.trans h.candidateCount, k.mark ∘ h.mark⟩

theorem setPlacement_producersKept (s : State) (p : PlacementUnit) : ProducersKept s (s.setPlacement p) := ⟨rfl, rfl, rfl, rfl, rfl, id⟩

theorem setLink_producersKept (s : State) (l : Link) : ProducersKept s (s.setLink l) := ⟨rfl, rfl, rfl, rfl, rfl, id⟩

theorem setRing_producersKept (s : State) {r : Ring} (h : r.mailbox = s.ring.mailbox) : ProducersKept s (s.setRing r) :=
  ⟨h, rfl, rfl, rfl, rfl, id⟩

theorem beginComputation_producersKept (cfg : Settings) (s : State) : ProducersKept s (beginComputation cfg s) := by
  unfold beginComputation
  split
  · exact setPlacement_producersKept s _
  · exact ProducersKept.refl s

theorem yieldUnrequested_producersKept (cfg : Settings) (s : State) : ProducersKept s (yieldUnrequested cfg s) := by
  unfold yieldUnrequested
  split
  · exact beginComputation_producersKept cfg s
  · split
    · exact beginComputation_producersKept cfg s
    · exact ProducersKept.refl s

theorem yieldIdle_producersKept (cfg : Settings) (s : State) : ProducersKept s (yieldIdle cfg s) := by
  unfold yieldIdle
  split
  · exact yieldUnrequested_producersKept cfg s
  · exact ProducersKept.refl s

theorem takePlace_producersKept (cfg : Settings) (i : Index) (d : Descriptor) (s : State) : ProducersKept s (takePlace cfg i d s) := by
  have hset := setPlacement_producersKept s
  simp only [takePlace, takePlaceOk, takePlaceFail]
  split
  · split
    · split
      · exact hset _
      · exact (hset _).trans (yieldIdle_producersKept cfg _)
    · split
      · exact hset _
      · split
        · exact (hset _).trans (beginComputation_producersKept cfg _)
        · split
          · exact (hset _).trans (yieldIdle_producersKept cfg _)
          · exact hset _
  · exact ProducersKept.refl s

theorem noteQueued_producersKept (p : Producer) (i : Index) (s : State) : ProducersKept s (noteQueued p i s) := by
  cases p <;> exact ⟨rfl, rfl, rfl, rfl, rfl, id⟩

theorem releaseHead_producersKept (s : State) : ProducersKept s (releaseHead s) := by
  obtain ⟨-, e⟩ | ⟨w, ws, -, e⟩ := releaseHead_cases s <;> rw [e]
  · exact setRing_producersKept s rfl
  · exact (setRing_producersKept s (by rfl)).trans (noteQueued_producersKept _ _ _)

theorem putLine_producersKept (change : Bool) (level : FlowLevel) (s : State) : ProducersKept s (putLine change level s) := by
  simp only [putLine]
  split <;> exact ⟨rfl, rfl, rfl, rfl, rfl, id⟩

theorem lineRequest_producersKept (cfg : Settings) (change : Bool) (s : State) : ProducersKept s (lineRequest cfg change s) := by
  unfold lineRequest
  split
  · exact ProducersKept.refl s
  · split
    · split
      · exact putLine_producersKept change _ s
      · exact ⟨rfl, rfl, rfl, rfl, rfl, id⟩
    · exact ProducersKept.refl s

theorem clearLine_producersKept (cfg : Settings) (d : Descriptor) (s : State) : ProducersKept s (clearLine (adoptCompleted cfg d s)) := by
  simp only [clearLine, adoptCompleted]
  split <;> exact ⟨rfl, rfl, rfl, rfl, rfl, id⟩

theorem takeLine_producersKept (cfg : Settings) (d : Descriptor) (s : State) : ProducersKept s (takeLine cfg d s) := by
  have h := (clearLine_producersKept cfg d s).trans (releaseHead_producersKept _)
  simp only [takeLine]
  split
  · exact h.trans (lineRequest_producersKept cfg true _)
  · exact h

theorem takeStatus_producersKept (d : Descriptor) (s : State) : ProducersKept s (takeStatus d s) := by
  unfold takeStatus
  split
  · exact ProducersKept.refl s
  · exact ⟨rfl, rfl, rfl, rfl, rfl, fun _ => rfl⟩

theorem takeHead_producersKept (cfg : Settings) (d : Descriptor) {s t : State} (h : takeHead cfg d s = some t) : ProducersKept s t := by
  unfold takeHead at h
  split at h
  · cases h; exact releaseHead_producersKept s
  · split at h
    · cases h
    · cases h; exact (takePlace_producersKept cfg _ d s).trans (releaseHead_producersKept _)
  · cases h; exact takeLine_producersKept cfg d s
  · cases h; exact (takeStatus_producersKept d s).trans (releaseHead_producersKept _)

theorem serviceOnce_producersKept (cfg : Settings) {s t : State} (h : serviceOnce cfg s = some t) : ProducersKept s t := by
  simp only [serviceOnce] at h
  split at h
  · cases h
  · cases h
  · split at h
    · cases h
    · cases h; exact setRing_producersKept s rfl
  · cases h; exact setRing_producersKept s rfl
  · exact takeHead_producersKept cfg _ h
  · exact takeHead_producersKept cfg _ h

theorem serviceSteps_producersKept (cfg : Settings) (fuel : Nat) (s : State) : ProducersKept s (serviceSteps cfg fuel s) := by
  induction fuel generalizing s with
  | zero => exact ProducersKept.refl s
  | succ n ih =>
    simp only [serviceSteps]
    split
    · exact ProducersKept.refl s
    · rename_i s1 h
      exact (serviceOnce_producersKept cfg h).trans (ih s1)

theorem serviceHead_producersKept (cfg : Settings) (s : State) : ProducersKept s (serviceHead cfg s) := serviceSteps_producersKept cfg 24 s

theorem serviceIfHead_producersKept (cfg : Settings) (i : Index) (s : State) : ProducersKept s (serviceIfHead cfg i s) := by
  unfold serviceIfHead
  split
  · exact serviceHead_producersKept cfg s
  · exact ProducersKept.refl s

theorem dropRingFrame_producersKept (s : State) : ProducersKept s (dropRingFrame s) := by
  unfold dropRingFrame
  split
  · exact setLink_producersKept s _
  · exact ProducersKept.refl s

theorem cancelDescriptor_mailbox (i : Index) (onLine : Bool) (r : Ring) : (cancelDescriptor i onLine r).1.mailbox = r.mailbox := by
  simp only [cancelDescriptor]
  split
  case h_2 => split <;> rfl
  all_goals rfl

theorem setCancelled_producersKept (i : Index) (onLine : Bool) (q : PlacementUnit) (s : State) :
    ProducersKept s ((s.setRing (cancelDescriptor i onLine s.ring).1).setPlacement q) :=
  (setRing_producersKept s (cancelDescriptor_mailbox i onLine s.ring)).trans (setPlacement_producersKept _ _)

theorem cancelRequest_producersKept (cfg : Settings) (i : Index) (s : State) : ProducersKept s (cancelRequest cfg i s).1 := by
  unfold cancelRequest
  have hset := fun q => setCancelled_producersKept i (ringOnLine s) q s
  split
  · rename_i r h
    rw [h] at hset
    exact (hset _).trans (serviceIfHead_producersKept cfg i _)
  · rename_i r h
    rw [h] at hset
    exact ((hset _).trans (dropRingFrame_producersKept _)).trans (serviceIfHead_producersKept cfg i _)

theorem yieldTest_producersKept (cfg : Settings) (s : State) : ProducersKept s (yieldTest cfg s) := by
  have hbegin : ∀ (t : State) (p : PlacementUnit), ProducersKept t (beginComputation cfg (t.setPlacement p)) := fun t p =>
    (setPlacement_producersKept t p).trans (beginComputation_producersKept cfg _)
  unfold yieldTest yieldBy
  split
  · split
    · exact yieldUnrequested_producersKept cfg s
    · exact (setRing_producersKept s (by rfl)).trans (hbegin _ _)
    · rename_i i _
      have hcancel := cancelRequest_producersKept cfg i s
      split
      · rename_i s1 h
        rw [h] at hcancel
        exact hcancel.trans (hbegin _ _)
      · rename_i s1 h
        rw [h] at hcancel
        exact hcancel
    · exact ProducersKept.refl s
  · exact ProducersKept.refl s

theorem decideRequest_producersKept (cfg : Settings) (runs : List Run) (s : State) : ProducersKept s (decideRequest cfg runs s) := by
  unfold decideRequest putPlace
  split
  · exact setPlacement_producersKept s _
  · split
    · simp only
      split <;> exact ⟨rfl, rfl, rfl, rfl, rfl, id⟩
    · exact ProducersKept.refl s

theorem takeReported_producersKept (cfg : Settings) (s : State) : ProducersKept s (takeReported cfg s) := by
  simp only [takeReported]
  split
  · exact (takePlace_producersKept cfg _ _ s).trans (releaseHead_producersKept _)
  · exact ProducersKept.refl s

theorem completeComputation_producersKept (cfg : Settings) (s : State) : ProducersKept s (completeComputation cfg s) := by
  unfold completeComputation
  split
  · exact ProducersKept.refl s
  · exact ((((setPlacement_producersKept s _).trans (decideRequest_producersKept cfg _ _)).trans (yieldTest_producersKept cfg _)).trans
      (takeReported_producersKept cfg _)).trans (serviceHead_producersKept cfg _)

theorem abandonRequest_producersKept (s : State) : ProducersKept s (abandonRequest s) := by
  unfold abandonRequest
  split
  · exact ProducersKept.refl s
  · exact setRing_producersKept s rfl
  · exact (setRing_producersKept s (cancelDescriptor_mailbox _ _ _)).trans (dropRingFrame_producersKept _)
  · exact ProducersKept.refl s

theorem closeWindow_producersKept (cfg : Settings) (s : State) : ProducersKept s (closeWindow cfg s) := by
  have h := setPlacement_producersKept s { s.placement with computation := none }
  simp only [closeWindow]
  split
  · exact h.trans (serviceHead_producersKept cfg _)
  · exact ((h.trans (setRing_producersKept _ (by rfl))).trans (setPlacement_producersKept _ _)).trans (serviceHead_producersKept cfg _)
  · exact (h.trans (cancelRequest_producersKept cfg _ _)).trans (serviceHead_producersKept cfg _)
  · exact h.trans (serviceHead_producersKept cfg _)

theorem rollover_producersKept (cfg : Settings) (s : State) : ProducersKept s (rollover cfg s) :=
  ((abandonRequest_producersKept s).trans (setPlacement_producersKept _ _)).trans (serviceHead_producersKept cfg _)

theorem flowBoundary_producersKept (cfg : Settings) (entered : Bool) (s : State) : ProducersKept s (flowBoundary cfg entered s) := by
  have h : ∀ n : Nat, ProducersKept s (s.setPeers { s.peers with flow := { s.peers.flow with periodCount := n } }) :=
    fun _ => ⟨rfl, rfl, rfl, rfl, rfl, id⟩
  simp only [flowBoundary]
  split
  · split
    · exact (h _).trans (lineRequest_producersKept cfg false _)
    · split
      · split
        · exact (h _).trans (lineRequest_producersKept cfg false _)
        · exact h 0
      · exact h _
  · exact ProducersKept.refl s

/-- The mailbox and the change mark through the blocks of a cycle boundary. -/
theorem boundaryBlocks_producersKept (cfg : Settings) (entered : Bool) (s : State) : ProducersKept s (boundaryBlocks cfg entered s) := by
  have hmiddle : ∀ t : State, ProducersKept t (grantPermits (t.setPeers (rolloverPeers cfg t.timeBase.cycle t.peers))) :=
    fun _ => ⟨rfl, rfl, rfl, rfl, rfl, id⟩
  exact ((rollover_producersKept cfg s).trans (hmiddle _)).trans (flowBoundary_producersKept cfg entered _)

/-- The gates, the scanner and the flow sample touch neither the mailbox nor a set change mark (R7). -/
theorem everySlot_kept (cfg : Settings) (slot : Nat) (s : State) :
    (everySlot cfg slot s).ring.mailbox = s.ring.mailbox ∧
      (s.supervisor.changeMark = true → (everySlot cfg slot s).supervisor.changeMark = true) := by
  simp only [everySlot, samplePin]
  split
  · split
    · have h := lineRequest_producersKept cfg true
      exact ⟨(h _).mailbox, fun hmark => (h _).mark (by exact hmark)⟩
    · exact ⟨rfl, id⟩
  · exact ⟨rfl, id⟩

/-- The points of a slot leave the mailbox (R7). -/
theorem slotPoint_mailbox (cfg : Settings) (slot : Nat) (s : State) : (slotPoint cfg slot s).ring.mailbox = s.ring.mailbox := by
  have hservice := fun t => (serviceHead_producersKept cfg t).mailbox
  have hbegin := fun t => (beginComputation_producersKept cfg t).mailbox
  simp only [slotPoint, demandPoint, freeze, statusPoint]
  split
  · split
    case h_1 | h_2 | h_3 | h_6 => rfl
    case h_4 | h_5 => exact hbegin _
  · split
    · split
      · exact (closeWindow_producersKept cfg s).mailbox
      · rfl
    · split
      · split
        · split
          · exact hservice _
          · rfl
        · rfl
      · rfl

end Sys2Proof.Machine

/-! PROOFS. The events of the slots by CROSSING, and the points taken at them: gates, the mailbox, the demand point, the status point
(R5, R7, R50 to R64, R80, R166, R185, R190, R191). -/

namespace Sys2Proof.Machine

/-! ### A slot-boundary event in its parts (R5, R7) -/

/-- The gates driven and the scanner armed at the event of a slot (R19, R20, R185). -/
def armed (slot : Nat) (s : State) : State :=
  (driveGates slot s).setScanner (armScanner slot (driveGates slot s).timeBase.cycle (driveGates slot s).scanner)

/-- The state in which the points of a slot other than 0 are taken. -/
def atPoint (cfg : Settings) (slot : Nat) (s : State) : State := everySlot cfg slot (takeSlot slot (beforeEvent cfg slot s))

theorem slotEvent_of_slot (cfg : Settings) (counted : Bool) {slot : Nat} (h : slot ≠ 0) (s : State) :
    slotEvent cfg counted slot s = slotPoint cfg slot (atPoint cfg slot s) := by
  simp only [slotEvent, if_neg h, atPoint]

theorem beforeEvent_of_rest (cfg : Settings) {slot : Nat} {s : State} (h : slot = 28 ∨ s.placement.computation = none) :
    beforeEvent cfg slot s = s.setRing (expireMailbox s.ring) := by
  simp only [beforeEvent]
  obtain h | h := h
  · rw [if_pos h]
  · have hnone : completeComputation cfg s = s := by simp only [completeComputation, h]
    rw [hnone, ite_self]

theorem samplePin_of_unsensed {cfg : Settings} (h : cfg.flowSensing = false) (s : State) : samplePin cfg s = s := by
  rw [samplePin, h, if_neg Bool.false_ne_true]

/-- A unit at rest comes to a point with its FLOW sample alone. -/
theorem atPoint_of_rest (cfg : Settings) {slot : Nat} {s : State} (h : slot = 28 ∨ s.placement.computation = none) :
    atPoint cfg slot s = samplePin cfg (armed slot (takeSlot slot (s.setRing (expireMailbox s.ring)))) := by
  rw [atPoint, beforeEvent_of_rest cfg h]
  rfl

/-! ### The event that a crossing gives -/

/-- The state at the mains-cycle end of an accepted crossing on MAINS, before the event it gives. -/
def crossed (interval : Nat) (flow : Bool) (position : Nat) (s : State) : State := endedAt position (measured interval flow s)

theorem crossingStep_slot {cfg : Settings} {slot interval : Nat} {s : State} (hdue : SlotDue cfg slot s) (hcrossing : CrossingDue interval s)
    (flow : Bool) :
    crossingStep interval flow s =
      crossingCounted (slotPoint cfg slot (atPoint cfg slot (crossed interval flow (slot * cfg.slotLen) s))) := by
  obtain ⟨p, c, hmeasured⟩ := measured_eq interval flow s
  have hdue' : SlotDue cfg slot (measured interval flow s) := by
    rw [hmeasured]
    exact ⟨hdue.active, hdue.slotLen, hdue.range, hdue.position, hdue.taken⟩
  have hslot : slot ≠ 0 := Nat.ne_of_gt hdue.range.1
  rw [crossingStep_of_mains hcrossing.monitored hcrossing.accepted hcrossing.mains, mainsCycleEnd_slot hdue',
    slotEvent_of_slot cfg true hslot]
  rfl

theorem exec_crossing_slot {cfg : Settings} {slot interval : Nat} {s : State} (hdue : SlotDue cfg slot s)
    (hcrossing : CrossingDue interval s) (flow : Bool) :
    exec (.crossing interval flow) s = .next
      (crossingCounted (slotPoint cfg slot (atPoint cfg slot (crossed interval flow (slot * cfg.slotLen) s)))) :=
  congrArg _ (crossingStep_slot hdue hcrossing flow)

theorem crossingStep_boundary {cfg : Settings} {interval : Nat} {s : State} (hdue : BoundaryDue cfg s) (hcrossing : CrossingDue interval s)
    (flow : Bool) : crossingStep interval flow s = crossingCounted (slotEvent cfg true 0 (crossed interval flow 0 s)) := by
  obtain ⟨p, c, hmeasured⟩ := measured_eq interval flow s
  have hdue' : BoundaryDue cfg (measured interval flow s) := by
    rw [hmeasured]
    exact ⟨hdue.active, hdue.slotLen, hdue.position, hdue.taken⟩
  rw [crossingStep_of_mains hcrossing.monitored hcrossing.accepted hcrossing.mains, mainsCycleEnd_boundary hdue']
  rfl

theorem exec_crossing_boundary {cfg : Settings} {interval : Nat} {s : State} (hdue : BoundaryDue cfg s)
    (hcrossing : CrossingDue interval s) (flow : Bool) :
    exec (.crossing interval flow) s = .next (crossingCounted (slotEvent cfg true 0 (crossed interval flow 0 s))) :=
  congrArg _ (crossingStep_boundary hdue hcrossing flow)

/-- A moment of a crossing's step, where it comes about (assumption log 4). -/
theorem whenSeen_crossing {seen : State → State → Bool} {interval : Nat} {flow : Bool} {s t : State}
    (hstep : crossingStep interval flow s = t) (h : seen s t = true) : whenSeen seen (.crossing interval flow) s = t := by
  have hoccasion : occasionStep (.crossing interval flow) s = t := hstep
  simp only [whenSeen, hoccasion, h, if_true]

/-! ### The gates at an event (R185) -/

/-- Every gate is at the level of R185. -/
def GatesDriven (slot : Nat) (s : State) : Prop := ∀ z : Index, s.supervisor.gates.get z = gateLevel s slot z

theorem GatesDriven.kept {slot : Nat} {s t : State} (hs : GatesDriven slot s) (h : GateKept s t) : GatesDriven slot t := fun z => by
  rw [gateLevel_congr h, h.gates, hs z]

theorem everySlot_gatesDriven (cfg : Settings) (slot : Nat) (s : State) : GatesDriven slot (everySlot cfg slot s) := by
  have hdriven : GatesDriven slot (armed slot s) := fun z => by
    show (Six.ofFn (gateLevel s slot)).get z = gateLevel (armed slot s) slot z
    rw [Six.get_ofFn]
    rfl
  exact hdriven.kept (samplePin_served cfg _).gateKept

/-- After a slot-boundary event the gates stand as it drives them, and its slot is taken (R5, R185). -/
theorem slotEvent_gatesDriven (cfg : Settings) (counted : Bool) (slot : Nat) (s : State) :
    GatesDriven slot (slotEvent cfg counted slot s) ∧ (slotEvent cfg counted slot s).timeBase.takenSlot = slot := by
  have htaken : ∀ t : State, (everySlot cfg slot t).timeBase = t.timeBase := fun t => (samplePin_served cfg _).timeBase
  simp only [slotEvent]
  split
  case isTrue h =>
    subst h
    exact ⟨everySlot_gatesDriven cfg 0 _, by rw [htaken, boundaryBlocks_taken]; rfl⟩
  case isFalse =>
    have hkept := slotPoint_gateKept cfg slot (everySlot cfg slot (takeSlot slot (beforeEvent cfg slot s)))
    exact ⟨(everySlot_gatesDriven cfg slot _).kept hkept, by rw [hkept.taken, htaken]; rfl⟩

theorem covers_iff (r : Run) (k : Nat) : r.covers k = true ↔ (k + 32 - r.start) % 32 < r.length := by simp [Run.covers]

/-- The gate level of R185 by its conditions. -/
theorem gateLevel_iff (s : State) (slot : Nat) (z : Index) : gateLevel s slot z = true ↔
    s.supervisor.station = .running ∧ (s.zones.get z).condition = .normal ∧ (s.zones.get z).permit = true ∧
      ∃ r : Run, runOf s.placement.current z = some r ∧ (slot + 32 - r.start) % 32 < r.length := by
  simp only [gateLevel, Bool.and_eq_true, decide_eq_true_eq, and_assoc]
  cases hrun : runOf s.placement.current z with
  | none => simp
  | some r => simp [covers_iff]

theorem crossingCounted_gateKept (s : State) : GateKept s (crossingCounted s) := ⟨rfl, rfl, rfl, rfl, fun _ => rfl, fun _ => rfl⟩

/-! ### The mailbox at an event (R166) -/

theorem expireMailbox_eq (r : Ring) : expireMailbox r = { r with mailbox := if r.mailbox = .offered then .empty else r.mailbox } := by
  obtain ⟨_, _, _, _, _, mailbox⟩ := r
  cases mailbox <;> rfl

theorem atPoint_mailbox (cfg : Settings) (slot : Nat) (s : State) :
    (atPoint cfg slot s).ring.mailbox = if s.ring.mailbox = .offered then .empty else s.ring.mailbox := by
  have hbefore : ∀ t : State, t.ring.mailbox = s.ring.mailbox →
      (t.setRing (expireMailbox t.ring)).ring.mailbox = if s.ring.mailbox = .offered then .empty else s.ring.mailbox := fun t h => by
    rw [expireMailbox_eq, ← h]
    rfl
  rw [atPoint, (everySlot_kept cfg slot _).1]
  simp only [beforeEvent]
  split
  · exact hbefore s rfl
  · exact hbefore _ (completeComputation_producersKept cfg s).mailbox

end Sys2Proof.Machine

namespace Sys2Proof.Proofs.SlotPoints
open Sys2Proof.Machine

/-- Settles O12: the gates as the event drives them, and the mailbox through its points. -/
theorem slotEventsSetGatesAndExpireTheOffer : Obligations.SlotEventsSetGatesAndExpireTheOffer := by
  unfold Obligations.SlotEventsSetGatesAndExpireTheOffer
  refine ⟨fun cfg slot s interval flow hdue hcrossing => ?_, fun cfg slot s interval flow hdue hcrossing hoffered => ?_⟩
  · obtain ⟨position, hexec⟩ : ∃ position : Nat, exec (.crossing interval flow) s =
        .next (crossingCounted (slotEvent cfg true slot (crossed interval flow position s))) := by
      obtain ⟨hboundary, rfl⟩ | hslot := hdue
      · exact ⟨0, exec_crossing_boundary hboundary hcrossing flow⟩
      · refine ⟨slot * cfg.slotLen, ?_⟩
        rw [slotEvent_of_slot cfg true (Nat.ne_of_gt hslot.range.1)]
        exact exec_crossing_slot hslot hcrossing flow
    obtain ⟨hdriven, htaken⟩ := slotEvent_gatesDriven cfg true slot (crossed interval flow position s)
    have hcounted := crossingCounted_gateKept (slotEvent cfg true slot (crossed interval flow position s))
    refine ⟨_, hexec, hcounted.taken.trans htaken, fun z => ?_⟩
    rw [hdriven.kept hcounted z]
    exact gateLevel_iff _ slot z
  · have hstep := crossingStep_slot hdue hcrossing flow
    have hkept := slotPoint_gateKept cfg slot (atPoint cfg slot (crossed interval flow (slot * cfg.slotLen) s))
    have htaken : (crossingCounted (slotPoint cfg slot (atPoint cfg slot (crossed interval flow (slot * cfg.slotLen) s)))).timeBase.takenSlot =
        slot := hkept.taken.trans (congrArg TimeBase.takenSlot (samplePin_served cfg _).timeBase)
    refine ⟨_, congrArg Host.Outcome.next (whenSeen_crossing (seen := seesExpiry) hstep ?_), ?_, htaken⟩
    · have hold := hdue.taken
      simp only [seesExpiry, hoffered, htaken, decide_true, Bool.true_and, decide_eq_true_eq]
      omega
    · refine (slotPoint_mailbox cfg slot _).trans ((atPoint_mailbox cfg slot _).trans ?_)
      obtain ⟨p, c, hmeasured⟩ := measured_eq interval flow s
      have hring : (crossed interval flow (slot * cfg.slotLen) s).ring.mailbox = .offered := by
        rw [crossed, hmeasured]
        exact hoffered
      rw [hring]
      rfl

end Sys2Proof.Proofs.SlotPoints

/-! PROOFS. The demand point and the status point by CROSSING (R50 to R64, R69, R70, R75 to R77, R80, R128 to R130, R190, R191). -/

namespace Sys2Proof.Machine

/-! ### The state at a point -/

/-- The state in which a unit at rest, which does not sense flow, takes the point of a slot: the blocks as before the crossing, but for the
gates, the scanner's window, the mailbox and the taken slot. -/
structure StillAt (slot : Nat) (s u : State) : Prop where
  zones : u.zones = s.zones
  placement : u.placement = s.placement
  peers : u.peers = s.peers
  link : u.link = s.link
  queue : u.queue = s.queue
  ring : u.ring = expireMailbox s.ring
  supervisor : u.supervisor = { s.supervisor with gates := u.supervisor.gates }
  cycle : u.timeBase.cycle = s.timeBase.cycle
  sync : u.timeBase.sync = s.timeBase.sync
  taken : u.timeBase.takenSlot = slot
  control : u.scanner.control = s.scanner.control
  measurements : u.scanner.zones = s.scanner.zones

theorem StillAt.station {slot : Nat} {s u : State} (h : StillAt slot s u) : u.supervisor.station = s.supervisor.station := by
  rw [h.supervisor]

theorem atPoint_still {cfg : Settings} (hflow : cfg.flowSensing = false) {slot : Nat} {s : State}
    (h : slot = 28 ∨ s.placement.computation = none) (interval : Nat) (flow : Bool) (position : Nat) :
    StillAt slot s (atPoint cfg slot (crossed interval flow position s)) := by
  obtain ⟨p, c, hmeasured⟩ := measured_eq interval flow s
  rw [crossed, hmeasured, atPoint_of_rest cfg (by exact h), samplePin_of_unsensed hflow]
  exact ⟨rfl, rfl, rfl, rfl, rfl, rfl, rfl, rfl, rfl, rfl, rfl, rfl⟩

/-- What the demand point reads of any station stands as before the crossing. -/
structure SourcesAt (s u : State) : Prop where
  zones : u.zones = s.zones
  station : u.supervisor.station = s.supervisor.station
  control : u.scanner.control = s.scanner.control
  upstream : u.peers.upstream = s.peers.upstream
  downstream : u.peers.downstream = s.peers.downstream

theorem SourcesAt.trans {s t u : State} (h : SourcesAt s t) (k : SourcesAt t u) : SourcesAt s u :=
  ⟨k.zones.trans h.zones, k.station.trans h.station, k.control.trans h.control, k.upstream.trans h.upstream,
    k.downstream.trans h.downstream⟩

theorem Served.sourcesAt {s t : State} (h : Served s t) : SourcesAt s t :=
  ⟨h.zones, h.supStation, by rw [h.scanner], h.peersUpstream, h.peersDownstream⟩

theorem atPoint_sources (cfg : Settings) (slot interval : Nat) (flow : Bool) (position : Nat) (s : State) :
    SourcesAt s (atPoint cfg slot (crossed interval flow position s)) := by
  have hcrossed : SourcesAt s (crossed interval flow position s) := ⟨rfl, rfl, rfl, rfl, rfl⟩
  have hbefore := (beforeEvent_served cfg slot (crossed interval flow position s)).sourcesAt
  have harmed : ∀ t : State, SourcesAt t (armed slot (takeSlot slot t)) := fun _ => ⟨rfl, rfl, rfl, rfl, rfl⟩
  exact ((hcrossed.trans hbefore).trans (harmed _)).trans (samplePin_served cfg _).sourcesAt

theorem selectSource_congr {cfg : Settings} {s u : State} (h : SourcesAt s u) (z : Index) :
    selectSource cfg u.scanner u.peers.upstream u.peers.downstream z (u.zones.get z) =
      selectSource cfg s.scanner s.peers.upstream s.peers.downstream z (s.zones.get z) := by
  have hown : ∀ y : Index, ownTemperature cfg u.scanner y = ownTemperature cfg s.scanner y := fun y => by
    simp only [ownTemperature, h.control]
  have hlent : ∀ y : Option Index, lentBy cfg u.scanner y = lentBy cfg s.scanner y := fun y => by
    cases y with
    | none => rfl
    | some y => exact hown y
  simp only [selectSource, hown, originTemperature, hlent, h.upstream, h.downstream, h.zones]

/-! ### The demand point (R50, R59, R80) -/

theorem slotPoint_demand (cfg : Settings) (s : State) : slotPoint cfg 8 s = demandPoint cfg s := rfl

/-- The demand point in RUNNING: a computation begins on the demands handed over (R59). -/
theorem demandPoint_running {cfg : Settings} {s : State} (h : s.supervisor.station = .running) :
    demandPoint cfg s = demandsReady cfg (selectSources s cfg) := by
  simp only [demandPoint, h]

theorem beginComputation_zones (cfg : Settings) (s : State) : (beginComputation cfg s).zones = s.zones := (beginComputation_served cfg s).zones

/-- The zones after the demand point, in every station state in which the blocks act (R50, R59). -/
theorem demandPoint_zone {cfg : Settings} {s : State} (h : joinedState s.supervisor.station = true) (z : Index) :
    (demandPoint cfg s).zones.get z =
      if s.supervisor.station = .running then
        computeDemand cfg s.peers.line.state z (selectSource cfg s.scanner s.peers.upstream s.peers.downstream z (s.zones.get z))
      else selectSource cfg s.scanner s.peers.upstream s.peers.downstream z (s.zones.get z) := by
  have hselected : (selectSources s cfg).zones.get z =
      selectSource cfg s.scanner s.peers.upstream s.peers.downstream z (s.zones.get z) := by
    rw [selectSources, setZones_zones, Six.get_ofFn]
  cases hstation : s.supervisor.station
  case starting | configFault => rw [hstation] at h; exact nomatch h
  case running =>
    rw [demandPoint_running hstation, if_pos rfl, demandsReady, beginComputation_zones]
    show (computeDemands cfg (selectSources s cfg)).zones.get z = _
    rw [computeDemands, setZones_zones, Six.get_ofFn, hselected]
    rfl
  case held =>
    rw [if_neg (fun e => nomatch e), ← hselected]
    simp only [demandPoint, hstation, beginComputation_zones]
  case listening | mainsLost =>
    rw [if_neg (fun e => nomatch e), ← hselected]
    simp only [demandPoint, hstation]

/-- A computation begins where none is in flight (R76, R80). -/
theorem beginComputation_begun {cfg : Settings} {s : State} (h : AtWork s) (hnone : s.placement.computation = none) :
    beginComputation cfg s = s.setPlacement { s.placement with computation := some (computationInputs cfg s) } := by
  have hbegins : ((decide (s.supervisor.station = .running) || decide (s.supervisor.station = .held)) && !mapInUse s.placement) = true := by
    rw [mapInUse, hnone]
    obtain h | h := h <;> rw [h] <;> rfl
  rw [beginComputation, if_pos hbegins]

/-- The zone as the demand point in RUNNING leaves it. -/
def demanded (cfg : Settings) (s : State) (z : Index) : Zone :=
  computeDemand cfg s.peers.line.state z (selectSource cfg s.scanner s.peers.upstream s.peers.downstream z (s.zones.get z))

theorem demanded_condition (cfg : Settings) (s : State) (z : Index) :
    (demanded cfg s z).condition = (s.zones.get z).condition ∧ (demanded cfg s z).permit = (s.zones.get z).permit :=
  ⟨(computeDemand_condition _ _ _ _).1.trans (selectSource_condition _ _ _ _ _ _).1,
    (computeDemand_condition _ _ _ _).2.trans (selectSource_condition _ _ _ _ _ _).2⟩

/-- The state whose inputs the computation of the demand point in RUNNING takes. -/
def handedOver (cfg : Settings) (s : State) : State := handOver (computeDemands cfg (selectSources s cfg))

theorem handedOver_zone (cfg : Settings) (s : State) (z : Index) : (handedOver cfg s).zones.get z = demanded cfg s z := by
  show (Six.ofFn _).get z = _
  rw [Six.get_ofFn]
  show computeDemand cfg _ z ((Six.ofFn _).get z) = _
  rw [Six.get_ofFn]
  rfl

/-- The inputs of that computation for a zone (R69, R70, R76, R77). -/
theorem zoneInput_handedOver (cfg : Settings) {s : State} (h : s.supervisor.station = .running) (z : Index) :
    zoneInput cfg (handedOver cfg s) z =
      { stuck := decide ((s.zones.get z).condition = .stuckOn)
        placed := decide ((s.zones.get z).condition = .normal) && decide (0 < (demanded cfg s z).demand)
        demand := (demanded cfg s z).demand
        deficit := (demanded cfg s z).deficit
        load := announcedLoad cfg s.timeBase.cycle z (s.scanner.zones.get z)
        stuckLoad := stuckLoad cfg z (s.scanner.zones.get z)
        surcharge := surchargeOf (announcedLoad cfg s.timeBase.cycle z (s.scanner.zones.get z)) (inrushMultiplier cfg (demanded cfg s z).tc)
        continues := (s.zones.get z).permit && match runOf s.placement.current z with
          | none => false
          | some r => r.covers 31 } := by
  have hhanded : (handedOver cfg s).placement.handed.map (fun h => h.get z) =
      some { demand := (demanded cfg s z).demand, deficit := (demanded cfg s z).deficit, tc := (demanded cfg s z).tc } := by
    show some ((handDemands (handedOver cfg s)).get z) = _
    rw [handDemands, Six.get_ofFn, handedOver_zone]
  have hrunning : (handedOver cfg s).supervisor.station = .running := h
  obtain ⟨hcondition, hpermit⟩ := demanded_condition cfg s z
  simp only [zoneInput, hhanded, handedOver_zone, hrunning, hcondition, continuesFrom31, hpermit, decide_true, Bool.true_and,
    Option.map_some, Option.getD_some, Option.bind_some]
  rfl

theorem effectiveBudget_eq (cfg : Settings) (p : PlacementUnit) (incomplete : Bool) :
    effectiveBudget cfg (sagActive p) incomplete =
      cfg.budget * (100 - if 0 < p.sagCount then cfg.sagDerate else 0) / 100 - (if incomplete then cfg.blindMargin else 0) := by
  simp only [effectiveBudget, sagActive, decide_eq_true_eq]

end Sys2Proof.Machine

namespace Sys2Proof.Proofs.DemandPoint
open Sys2Proof.Machine

/-- Settles O13: what the point hands over is what it has computed, and the computation's inputs are read off there. -/
theorem demandPointHandsTheDemands : Obligations.DemandPointHandsTheDemands := by
  unfold Obligations.DemandPointHandsTheDemands
  refine ⟨fun cfg s interval flow hdue hcrossing hrest hflow hstation => ?_, fun cfg s interval flow hdue hcrossing hrest hflow hstation => ?_⟩
  · have hstill := atPoint_still hflow (.inr hrest.computation) interval flow (8 * cfg.slotLen) (slot := 8)
    have hsources := atPoint_sources cfg 8 interval flow (8 * cfg.slotLen) s
    have hexec := exec_crossing_slot hdue hcrossing flow
    generalize atPoint cfg 8 (crossed interval flow (8 * cfg.slotLen) s) = u at hstill hsources hexec
    have hrunning : u.supervisor.station = .running := hstill.station.trans hstation
    have hview : viewIncomplete (handedOver cfg u) = viewIncomplete s := by
      show (u.placement.viewFlag || decide (u.timeBase.sync = .freeRunning)) = _
      rw [hstill.placement, hstill.sync]
      rfl
    have hzone : ∀ z : Index, demanded cfg u z = computeDemand cfg s.peers.line.state z
        (selectSource cfg s.scanner s.peers.upstream s.peers.downstream z (s.zones.get z)) := fun z => by
      rw [demanded, selectSource_congr hsources, hstill.peers]
    have hpoint : demandPoint cfg u = (handedOver cfg u).setPlacement
        { (handedOver cfg u).placement with computation := some (computationInputs cfg (handedOver cfg u)) } := by
      rw [demandPoint_running hrunning]
      exact beginComputation_begun (s := handedOver cfg u) (.inl hrunning) (by
        show u.placement.computation = none
        rw [hstill.placement, hrest.computation])
    rw [slotPoint_demand, hpoint] at hexec
    refine ⟨_, hexec, fun z => (handedOver_zone cfg u z).trans (hzone z), rfl, ⟨_, rfl, ?_, ?_, fun z => ?_⟩, ?_, ?_, ?_, ?_⟩
    · show effectiveBudget cfg (sagActive u.placement) (viewIncomplete (handedOver cfg u)) = _
      rw [hview, hstill.placement, effectiveBudget_eq]
    · show othersOf u.placement.map = _
      rw [hstill.placement]
      rfl
    · have hinput : (computationInputs cfg (handedOver cfg u)).zones.get z = zoneInput cfg (handedOver cfg u) z := Six.get_ofFn _ z
      show _ ∧ _ = (_ && decide (0 < ((handedOver cfg u).zones.get z).demand)) ∧ _ = ((handedOver cfg u).zones.get z).demand ∧
        _ = ((handedOver cfg u).zones.get z).deficit ∧ _ ∧ _ ∧ _ = min 255 ((_ * ((match ((handedOver cfg u).zones.get z).tc with
            | none => cfg.inrushCold
            | some x => _) - 8) + 7) / 8) ∧ _
      rw [hinput, zoneInput_handedOver cfg hrunning z, handedOver_zone, hstill.zones, hstill.cycle, hstill.measurements, hstill.placement]
      exact ⟨rfl, rfl, rfl, rfl, rfl, rfl, rfl, rfl⟩
    · exact hstill.peers
    · exact hstill.ring.trans (expireMailbox_eq s.ring)
    · exact hstill.link
    · exact hstill.queue
  · have hstill := atPoint_still hflow (.inr hrest.computation) interval flow (8 * cfg.slotLen) (slot := 8)
    have hsources := atPoint_sources cfg 8 interval flow (8 * cfg.slotLen) s
    have hexec := exec_crossing_slot hdue hcrossing flow
    generalize atPoint cfg 8 (crossed interval flow (8 * cfg.slotLen) s) = u at hstill hsources hexec
    have hnot : ¬u.supervisor.station = .running := by rwa [hstill.station]
    have hjoined : joinedState u.supervisor.station = true := by
      rw [hstill.station]
      exact (resetInProgress_of_active hdue.active).2.1
    have hplacement : (demandPoint cfg u).placement = if s.supervisor.station = .held then
        { s.placement with computation := some (computationInputs cfg (selectSources u cfg)) } else s.placement := by
      rw [← hstill.station, ← hstill.placement]
      cases hstation : u.supervisor.station
      case starting | configFault => rw [hstation] at hjoined; exact nomatch hjoined
      case running => exact absurd hstation hnot
      case listening | mainsLost => simp only [demandPoint, hstation]; rfl
      case held =>
        simp only [demandPoint, hstation, if_true]
        rw [beginComputation_begun (s := selectSources u cfg) (.inr hstation)
          (by rw [← hrest.computation, ← hstill.placement]; rfl)]
        rfl
    refine ⟨_, hexec, fun z => ?_, ?_, fun hheld => ?_, fun hfree => ?_⟩
    · refine (demandPoint_zone hjoined z).trans ?_
      rw [if_neg hnot, selectSource_congr hsources]
    · show (demandPoint cfg u).placement.handed = _
      rw [hplacement]
      split <;> rfl
    · refine ⟨computationInputs cfg (selectSources u cfg), ?_, ?_, fun z => ?_⟩
      · show (demandPoint cfg u).placement.computation = _
        rw [hplacement, if_pos hheld]
      · show othersOf u.placement.map = _
        rw [hstill.placement]
        rfl
      · have hinput : (computationInputs cfg (selectSources u cfg)).zones.get z = zoneInput cfg (selectSources u cfg) z :=
          Six.get_ofFn _ z
        have hcondition : ((selectSources u cfg).zones.get z).condition = (s.zones.get z).condition := by
          rw [(selectSources_gateKept u cfg).condition, hstill.zones]
        have hidle : decide ((selectSources u cfg).supervisor.station = .running) = false := decide_eq_false hnot
        rw [hinput]
        simp only [zoneInput, hcondition, hidle, Bool.false_and]
        exact ⟨trivial, trivial⟩
    · show (demandPoint cfg u).placement = _
      rw [hplacement, if_neg hfree]

/-- Settles O14: the zone's source at the point, which a demand after it leaves. -/
theorem holdingEndsInFallback : Obligations.HoldingEndsInFallback := by
  unfold Obligations.HoldingEndsInFallback
  intro cfg s interval flow z hdue hcrossing henabled hholding hcount hown horigin
  have hstep := crossingStep_slot hdue hcrossing flow
  rw [slotPoint_demand] at hstep
  have hsources := atPoint_sources cfg 8 interval flow (8 * cfg.slotLen) s
  generalize atPoint cfg 8 (crossed interval flow (8 * cfg.slotLen) s) = u at hstep hsources
  have hjoined : joinedState u.supervisor.station = true := by
    rw [hsources.station]
    exact (resetInProgress_of_active hdue.active).2.1
  have hzone := demandPoint_zone (cfg := cfg) hjoined z
  have hselected : selectSource cfg u.scanner u.peers.upstream u.peers.downstream z (u.zones.get z) =
      { s.zones.get z with tc := none, source := some .fallback, holdCount := 0 } := by
    rw [selectSource_congr hsources, selectSource, if_pos henabled]
    simp only [hown, horigin, holdZone, hholding]
    rw [if_neg (by omega)]
  rw [hselected, hsources.station] at hzone
  have hfinal : ((crossingCounted (demandPoint cfg u)).zones.get z).source = some .fallback ∧
      ((crossingCounted (demandPoint cfg u)).zones.get z).tc = none ∧ ((crossingCounted (demandPoint cfg u)).zones.get z).holdCount = 0 ∧
      (s.supervisor.station = .running → (s.zones.get z).condition = .normal →
        ((crossingCounted (demandPoint cfg u)).zones.get z).demand = cfg.fallbackDemand ∧
        ((crossingCounted (demandPoint cfg u)).zones.get z).lastDemand = cfg.fallbackDemand) := by
    show ((demandPoint cfg u).zones.get z).source = some .fallback ∧ ((demandPoint cfg u).zones.get z).tc = none ∧
      ((demandPoint cfg u).zones.get z).holdCount = 0 ∧ (_ → _ → ((demandPoint cfg u).zones.get z).demand = cfg.fallbackDemand ∧
        ((demandPoint cfg u).zones.get z).lastDemand = cfg.fallbackDemand)
    rw [hzone]
    by_cases hrunning : s.supervisor.station = .running
    · rw [if_pos hrunning, computeDemand, if_pos henabled]
      by_cases hnormal : (s.zones.get z).condition = .normal
      · simp only [if_pos hnormal, normalDemand]
        exact ⟨trivial, trivial, trivial, fun _ _ => ⟨trivial, trivial⟩⟩
      · simp only [if_neg hnormal]
        exact ⟨trivial, trivial, trivial, fun _ k => absurd k hnormal⟩
    · rw [if_neg hrunning]
      exact ⟨rfl, rfl, rfl, fun k => absurd k hrunning⟩
  refine ⟨_, congrArg Host.Outcome.next (whenSeen_crossing (seen := seesFallback) hstep ?_), hfinal⟩
  rw [seesFallback, indexes_any_iff]
  exact ⟨z, by rw [hholding, hfinal.1]; rfl⟩

end Sys2Proof.Proofs.DemandPoint

namespace Sys2Proof.Machine

/-! ### The status point (R128, R190, R191) -/

/-- A STATUS payload reads the station state, the cause and the latch of the supervisor's record alone (R129, R130). -/
theorem statusBytes_congr {s u : State} (hqueue : u.queue = s.queue) (hlink : u.link = s.link)
    (hcause : u.supervisor.cause = s.supervisor.cause) (hstation : u.supervisor.station = s.supervisor.station)
    (hlatch : u.supervisor.contactorLatch = s.supervisor.contactorLatch) (hzones : u.zones = s.zones)
    (hcontrol : u.scanner.control = s.scanner.control) (hplacement : u.placement = s.placement) (hsync : u.timeBase.sync = s.timeBase.sync)
    (hpeers : u.peers = s.peers) : statusBytes u = statusBytes s := by
  simp only [statusBytes, statusByte0, statusByte21, statusByte23, viewIncomplete, hqueue, hlink, hcause, hstation, hlatch, hzones,
    hcontrol, hplacement, hsync, hpeers]

/-- The schedule counted at a status point (R191). -/
def statusCounted (s : State) : State := s.setSupervisor { s.supervisor with periodCount := saturate 255 (s.supervisor.periodCount + 1) }

/-- A frame due, in a ring that takes it, is requested (R191). -/
theorem statusPoint_of_due {cfg : Settings} {s : State} (hsettled : settledState s.supervisor.station = true)
    (hdue : s.supervisor.changeMark = true ∨ cfg.statusPeriod ≤ min 255 (s.supervisor.periodCount + 1))
    (hroom : refusesStatus s.ring = false) : statusPoint cfg s = serviceHead cfg (putStatus (statusCounted s)) := by
  have htakes : (statusDue cfg (statusCounted s).supervisor && !refusesStatus (statusCounted s).ring) = true := by
    have hfree : refusesStatus (statusCounted s).ring = false := hroom
    rw [hfree, statusDue]
    simpa [statusCounted, saturate] using hdue
  rw [statusPoint, if_pos hsettled]
  exact if_pos htakes

/-- Where no piece of service is due, the head stands (R160). -/
theorem serviceHead_of_standing {cfg : Settings} {s : State} (h : serviceOnce cfg s = none) : serviceHead cfg s = s := by
  simp only [serviceHead, serviceSteps, h]

theorem serviceOnce_of_free {cfg : Settings} {s : State} (h : (headDescriptor s.ring).state = .free) : serviceOnce cfg s = none := by
  simp only [serviceOnce, h]

theorem serviceOnce_of_sending {cfg : Settings} {s : State} (h : (headDescriptor s.ring).state = .sending) : serviceOnce cfg s = none := by
  simp only [serviceOnce, h]

theorem serviceOnce_of_ready {cfg : Settings} {s : State} (h : (headDescriptor s.ring).state = .ready)
    (hsends : linkSends s.link.state = true) : serviceOnce cfg s = none := by
  simp only [serviceOnce, h, hsends, if_true]

end Sys2Proof.Machine

namespace Sys2Proof.Proofs.StatusPoint
open Sys2Proof.Machine

/-- Settles O16: the frame fills its descriptor, and the head stands after it. -/
theorem statusPointRequestsTheStatusFrame : Obligations.StatusPointRequestsTheStatusFrame := by
  unfold Obligations.StatusPointRequestsTheStatusFrame
  intro cfg s interval flow hdue hcrossing hrest hflow hsettled hsends hduestatus hroom
  have hstill := atPoint_still hflow (.inr hrest.computation) interval flow (30 * cfg.slotLen) (slot := 30)
  have hexec := exec_crossing_slot hdue hcrossing flow
  generalize atPoint cfg 30 (crossed interval flow (30 * cfg.slotLen) s) = u at hstill hexec
  have hring : u.ring = { s.ring with mailbox := if s.ring.mailbox = .offered then .empty else s.ring.mailbox } :=
    hstill.ring.trans (expireMailbox_eq s.ring)
  have hpoint : slotPoint cfg 30 u = putStatus (statusCounted u) := by
    show statusPoint cfg u = _
    rw [statusPoint_of_due (by rw [hstill.station]; exact hsettled) (by rw [hstill.supervisor]; exact hduestatus)
      (by rw [hring]; exact hroom), serviceHead_of_standing]
    have hhead : (headDescriptor (putStatus (statusCounted u)).ring) = if u.ring.head = u.ring.fill then
        readyDescriptor .status (statusBytes (statusCounted u)) else headDescriptor u.ring := Six.get_set _ _ _ _
    by_cases hfill : u.ring.head = u.ring.fill
    · rw [if_pos hfill] at hhead
      exact serviceOnce_of_ready (by rw [hhead]; rfl) (by rw [← hsends, ← hstill.link]; rfl)
    · rw [if_neg hfill] at hhead
      exact serviceOnce_of_free (by rw [hhead, hring]; exact hrest.head)
  have hbytes : statusBytes (statusCounted u) = statusBytes s :=
    statusBytes_congr hstill.queue hstill.link (by rw [statusCounted, hstill.supervisor]; rfl) hstill.station
      (by rw [statusCounted, hstill.supervisor]; rfl) hstill.zones hstill.control hstill.placement hstill.sync hstill.peers
  rw [hpoint] at hexec
  refine ⟨_, hexec, ?_, ?_, ?_, rfl, rfl, hstill.zones, hstill.placement⟩
  · show (u.ring.descriptors.set u.ring.fill (readyDescriptor .status (statusBytes (statusCounted u)))).get s.ring.fill = _
    rw [hring, Six.get_set, if_pos rfl, hbytes]
    rfl
  · show u.ring.occupancy + 1 = _
    rw [hring]
  · show { u.queue with refusalMark := false } = _
    rw [hstill.queue]

end Sys2Proof.Proofs.StatusPoint

/-! PROOFS. The cycle boundary by CROSSING: the Time Base and the station state, and what has aged (R5, R6, R14 to R17, R38, R56, R74, R95,
R105, R106, R109, R149, R178, R179). -/

namespace Sys2Proof.Machine

/-! ### The event of slot 0 in its parts (R5 to R7) -/

/-- The state in which the blocks take the event of slot 0: the station state decided, the cycle number counted, slot 0 taken (R6, R179). -/
def boundaryTaken (cfg : Settings) (s : State) : State := takeSlot 0 (beforeBoundary cfg true (beforeEvent cfg 0 s))

/-- The station enters RUNNING from LISTENING at this event (R178). -/
def boundaryEntered (cfg : Settings) (s : State) : Bool :=
  decide ((beforeEvent cfg 0 s).supervisor.station = .listening) && decide ((boundaryTaken cfg s).supervisor.station = .running)

theorem slotEvent_of_boundary (cfg : Settings) (s : State) :
    slotEvent cfg true 0 s = everySlot cfg 0 (boundaryBlocks cfg (boundaryEntered cfg s) (boundaryTaken cfg s)) := rfl

/-- What the blocks of a cycle boundary, the gates, the scanner and the flow sample make of the state in which they take the event. -/
structure AfterBoundary (cfg : Settings) (b t : State) : Prop where
  timeBase : t.timeBase = b.timeBase
  station : t.supervisor.station = b.supervisor.station
  joinCount : t.supervisor.joinCount = b.supervisor.joinCount
  stepRecord : t.supervisor.stepRecord = b.supervisor.stepRecord
  mark : b.supervisor.changeMark = true → t.supervisor.changeMark = true
  linkState : t.link.state = b.link.state
  zones : ∀ z : Index, t.zones.get z =
    if (b.zones.get z).condition = .normal then { b.zones.get z with permit := true } else b.zones.get z
  entries : t.peers.entries = (rolloverPeers cfg b.timeBase.cycle b.peers).entries
  row : t.peers.row = []
  upstream : t.peers.upstream = ageRecord b.peers.upstream
  downstream : t.peers.downstream = ageRecord b.peers.downstream
  current : t.placement.current = dropReleased b (b.placement.frozen.getD [])
  frozen : t.placement.frozen = none
  viewFlag : t.placement.viewFlag = false
  sagCount : t.placement.sagCount = b.placement.sagCount - 1

/-- Rollover, said by what the exchanges in it leave. -/
theorem rollover_served (cfg : Settings) (s : State) : ∃ u : State, Served s u ∧
    Served (u.setPlacement (rolloverRecord (dropReleased s (s.placement.frozen.getD [])) u.placement)) (rollover cfg s) :=
  ⟨abandonRequest s, abandonRequest_served s, serviceHead_served cfg _⟩

theorem afterBoundary (cfg : Settings) (entered : Bool) (b : State) :
    AfterBoundary cfg b (everySlot cfg 0 (boundaryBlocks cfg entered b)) := by
  obtain ⟨u, hu, hrolled⟩ := rollover_served cfg b
  have hflow := flowBoundary_served cfg entered
    (grantPermits ((rollover cfg b).setPeers (rolloverPeers cfg (rollover cfg b).timeBase.cycle (rollover cfg b).peers)))
  have hsample := samplePin_served cfg (armed 0 (boundaryBlocks cfg entered b))
  have hcycle : (rollover cfg b).timeBase = b.timeBase := hrolled.timeBase.trans hu.timeBase
  have hzones : (rollover cfg b).zones = b.zones := hrolled.zones.trans hu.zones
  have hstation : (rollover cfg b).supervisor.station = b.supervisor.station := hrolled.supStation.trans hu.supStation
  constructor
  case timeBase => exact hsample.timeBase.trans (boundaryBlocks_taken cfg entered b)
  case station => exact hsample.supStation.trans (hflow.supStation.trans (hrolled.supStation.trans hu.supStation))
  case joinCount => exact hsample.supJoinCount.trans (hflow.supJoinCount.trans (hrolled.supJoinCount.trans hu.supJoinCount))
  case stepRecord => exact hsample.supStepRecord.trans (hflow.supStepRecord.trans (hrolled.supStepRecord.trans hu.supStepRecord))
  case mark => exact fun h => (everySlot_kept cfg 0 _).2 ((boundaryBlocks_producersKept cfg entered b).mark h)
  case linkState => exact hsample.linkState.trans (hflow.linkState.trans (hrolled.linkState.trans hu.linkState))
  case zones =>
    intro z
    have hgranted : (grantPermits ((rollover cfg b).setPeers
        (rolloverPeers cfg (rollover cfg b).timeBase.cycle (rollover cfg b).peers))).zones.get z =
        if (b.zones.get z).condition = .normal then { b.zones.get z with permit := true } else b.zones.get z := by
      rw [grantPermits, setZones_zones, Six.get_ofFn, setPeers_zones, hzones]
    exact (congrArg (fun x : Six Zone => x.get z) (hsample.zones.trans hflow.zones)).trans hgranted
  case entries =>
    refine hsample.peersEntries.trans (hflow.peersEntries.trans ?_)
    show (rolloverPeers cfg (rollover cfg b).timeBase.cycle (rollover cfg b).peers).entries = _
    have hentries : (rollover cfg b).peers.entries = b.peers.entries := hrolled.peersEntries.trans hu.peersEntries
    simp only [rolloverPeers, hcycle, hentries]
  case row => exact hsample.peersRow.trans hflow.peersRow
  case upstream => exact hsample.peersUpstream.trans (hflow.peersUpstream.trans
      (congrArg ageRecord (hrolled.peersUpstream.trans hu.peersUpstream)))
  case downstream => exact hsample.peersDownstream.trans (hflow.peersDownstream.trans
      (congrArg ageRecord (hrolled.peersDownstream.trans hu.peersDownstream)))
  case current => exact hsample.unitCurrent.trans (hflow.unitCurrent.trans hrolled.unitCurrent)
  case frozen => exact hsample.unitFrozen.trans (hflow.unitFrozen.trans hrolled.unitFrozen)
  case viewFlag => exact hsample.unitViewFlag.trans (hflow.unitViewFlag.trans hrolled.unitViewFlag)
  case sagCount => exact hsample.unitSagCount.trans (hflow.unitSagCount.trans
      (hrolled.unitSagCount.trans (congrArg (· - 1) hu.unitSagCount)))

/-! ### The station state and the Time Base at a boundary (R6, R15, R178, R179) -/

/-- What the decision at a boundary and the Time Base's steps read of the state before the crossing. -/
structure BoundaryRead (s u : State) : Prop where
  station : u.supervisor.station = s.supervisor.station
  joinCount : u.supervisor.joinCount = s.supervisor.joinCount
  mainsLost : u.supervisor.mainsLost = s.supervisor.mainsLost
  holdRequest : u.supervisor.holdRequest = s.supervisor.holdRequest
  stepRecord : u.supervisor.stepRecord = s.supervisor.stepRecord
  zones : u.zones = s.zones
  loopResult : u.link.loopResult = s.link.loopResult
  clash : u.link.clash = s.link.clash
  linkState : u.link.state = s.link.state
  entries : u.peers.entries = s.peers.entries
  upstream : u.peers.upstream = s.peers.upstream
  downstream : u.peers.downstream = s.peers.downstream
  sagCount : u.placement.sagCount = s.placement.sagCount
  frozen : u.placement.frozen = s.placement.frozen
  timeBase : ∃ (p : Option Nat) (c : MainsClass), u.timeBase = { s.timeBase with position := 0, measuredPeriod := p, mainsClass := c }

theorem beforeEvent_read (cfg : Settings) (slot interval : Nat) (flow : Bool) (s : State) :
    BoundaryRead s (beforeEvent cfg slot (crossed interval flow 0 s)) := by
  have h := beforeEvent_served cfg slot (crossed interval flow 0 s)
  obtain ⟨p, c, hmeasured⟩ := measured_eq interval flow s
  have htime : (crossed interval flow 0 s).timeBase = { s.timeBase with position := 0, measuredPeriod := p, mainsClass := c } := by
    rw [crossed, hmeasured]
    rfl
  exact ⟨h.supStation, h.supJoinCount, h.supMainsLost, h.supHoldRequest, h.supStepRecord, h.zones, h.linkLoopResult, h.linkClash,
    h.linkState, h.peersEntries, h.peersUpstream, h.peersDownstream, h.unitSagCount, h.unitFrozen, p, c, h.timeBase.trans htime⟩

/-- The Time Base after its steps at a counted boundary, by what it holds before them (R6). -/
structure CycleTaken (t u : TimeBase) : Prop where
  position : u.position = t.position
  cycle : u.cycle = t.cycle + 1 + t.pendingOffset
  pendingOffset : u.pendingOffset = 0
  timeAge : u.timeAge = min 255 (t.timeAge + 1)
  goodAge : u.goodAge = t.goodAge.map fun a => min 255 (a + 1)
  heardNow : u.heardNow = none
  heardBefore : u.heardBefore = t.heardNow
  joinFlag : u.joinFlag = t.joinFlag

theorem cycleTimes_taken (cfg : Settings) (station : StationState) (t : TimeBase) : CycleTaken t (cycleTimes cfg station true t) := by
  constructor <;> rfl

theorem cycleSteps_timeBase (cfg : Settings) (counted : Bool) (s : State) :
    (cycleSteps cfg counted s).timeBase = cycleTimes cfg s.supervisor.station counted s.timeBase := by
  simp only [cycleSteps, offerAtBoundary]
  split <;> rfl

/-- The steps of the Time Base and its offer touch no other block than the mailbox (R6, R16). -/
theorem cycleSteps_rest (cfg : Settings) (counted : Bool) (s : State) :
    (cycleSteps cfg counted s).supervisor = s.supervisor ∧ (cycleSteps cfg counted s).link = s.link ∧
    (cycleSteps cfg counted s).zones = s.zones ∧ (cycleSteps cfg counted s).peers = s.peers ∧
    (cycleSteps cfg counted s).placement = s.placement := by
  simp only [cycleSteps, offerAtBoundary]
  split <;> exact ⟨rfl, rfl, rfl, rfl, rfl⟩

theorem boundaryTaken_timeBase (cfg : Settings) (s : State) :
    (boundaryTaken cfg s).timeBase =
      { cycleTimes cfg (stationBoundary cfg (beforeEvent cfg 0 s)).supervisor.station true
          (stationBoundary cfg (beforeEvent cfg 0 s)).timeBase with takenSlot := 0 } := by
  show { (cycleSteps cfg true _).timeBase with takenSlot := 0 } = _
  rw [cycleSteps_timeBase]

/-- Outside LISTENING, and where a listening station stays so, the decision moves the station state alone. -/
theorem stationBoundary_of_no_join {cfg : Settings} {s : State}
    (h : ¬(s.supervisor.station = .listening ∧ (boundaryDecision cfg s).supervisor.station = .running)) :
    stationBoundary cfg s = boundaryDecision cfg s := if_neg h

theorem setStation_of_ne {s : State} {x : StationState} (h : s.supervisor.station ≠ x) :
    setStation s x = s.setSupervisor { s.supervisor with station := x, changeMark := true } := if_neg h

theorem stationBoundary_of_join {cfg : Settings} {s : State} (hlistening : s.supervisor.station = .listening)
    (hdue : cfg.joinCycles ≤ min 16 (s.supervisor.joinCount + 1)) (hclear : s.supervisor.mainsLost = false) :
    stationBoundary cfg s = passJoin cfg (s.setSupervisor { s.supervisor with
      station := .running, changeMark := true, joinCount := min 16 (s.supervisor.joinCount + 1) }) := by
  have hdecision : boundaryDecision cfg s = s.setSupervisor { s.supervisor with
      station := .running, changeMark := true, joinCount := min 16 (s.supervisor.joinCount + 1) } := by
    have hends : (decide (cfg.joinCycles ≤ min 16 (s.supervisor.joinCount + 1)) && !s.supervisor.mainsLost) = true := by
      rw [hclear, decide_eq_true hdue]
      rfl
    have hother : s.supervisor.station ≠ .running := by
      rw [hlistening]
      exact fun e => nomatch e
    simp only [boundaryDecision, hlistening]
    exact (if_pos hends).trans (setStation_of_ne (by exact hother))
  rw [stationBoundary, hdecision, if_pos ⟨hlistening, rfl⟩]

theorem checkJoinFlag_eq (cfg : Settings) (t : TimeBase) : ∃ (now before reference : Option Nat),
    checkJoinFlag cfg t = { t with heardNow := now, heardBefore := before, reference := reference, joinFlag := false } := by
  unfold checkJoinFlag
  split
  · exact ⟨_, _, _, rfl⟩
  · exact ⟨_, _, _, rfl⟩

/-- The Time Base at a boundary passes the decision unchanged, but for the join flag and the heard addresses at the end of a join (R15). -/
theorem stationBoundary_timeBase (cfg : Settings) (s : State) : ∃ (now before reference : Option Nat) (flag : Bool),
    (stationBoundary cfg s).timeBase =
      { s.timeBase with heardNow := now, heardBefore := before, reference := reference, joinFlag := flag } ∧
    (s.supervisor.station ≠ .listening → now = s.timeBase.heardNow) := by
  obtain ⟨x, sc, hdecision⟩ := boundaryDecision_supervisorScannerAlone cfg s
  by_cases h : s.supervisor.station = .listening ∧ (boundaryDecision cfg s).supervisor.station = .running
  · obtain ⟨now, before, reference, hchecked⟩ := checkJoinFlag_eq cfg s.timeBase
    refine ⟨now, before, reference, false, ?_, fun k => absurd h.1 k⟩
    rw [stationBoundary, if_pos h, hdecision]
    exact hchecked
  · refine ⟨s.timeBase.heardNow, s.timeBase.heardBefore, s.timeBase.reference, s.timeBase.joinFlag, ?_, fun _ => rfl⟩
    rw [stationBoundary_of_no_join h, hdecision]
    rfl

/-- Outside the Time Base and the mailbox the event finds what the decision has left. -/
theorem boundaryTaken_rest (cfg : Settings) (s : State) :
    (boundaryTaken cfg s).supervisor = (stationBoundary cfg (beforeEvent cfg 0 s)).supervisor ∧
    (boundaryTaken cfg s).link = (stationBoundary cfg (beforeEvent cfg 0 s)).link ∧
    (boundaryTaken cfg s).zones = (stationBoundary cfg (beforeEvent cfg 0 s)).zones ∧
    (boundaryTaken cfg s).peers = (stationBoundary cfg (beforeEvent cfg 0 s)).peers ∧
    (boundaryTaken cfg s).placement = (stationBoundary cfg (beforeEvent cfg 0 s)).placement :=
  cycleSteps_rest cfg true _

/-- The reference elected at a boundary, and the sync state there (R6, R14, R17). -/
theorem cycleTimes_reference (cfg : Settings) (station : StationState) (counted : Bool) (t : TimeBase) :
    (cycleTimes cfg station counted t).reference = some (lowerOf cfg.address t.heardNow) := by
  cases counted <;> rfl

theorem cycleTimes_sync (cfg : Settings) (station : StationState) (t : TimeBase) :
    (cycleTimes cfg station true t).sync =
      if settledState station && decide (some (lowerOf cfg.address t.heardNow) = some cfg.address) ||
          goodRecently (ageTimes t) then .synced
      else if cfg.syncTimeout ≤ min 255 (t.timeAge + 1) then .freeRunning else .drifting := rfl

/-- The station state that a boundary gives outside LISTENING (R179). -/
theorem boundaryDecision_moves (cfg : Settings) (s : State) :
    (s.supervisor.station = .running →
      (boundaryDecision cfg s).supervisor.station = if s.supervisor.holdRequest then .held else .running) ∧
    (s.supervisor.station = .held →
      (boundaryDecision cfg s).supervisor.station = (if s.supervisor.stepRecord then .running else .held) ∧
      (boundaryDecision cfg s).supervisor.stepRecord = false) ∧
    (s.supervisor.station = .mainsLost → (boundaryDecision cfg s).supervisor.station =
      if s.supervisor.mainsLost then .mainsLost else if s.supervisor.holdRequest then .held else .running) := by
  refine ⟨fun h => ?_, fun h => ?_, fun h => ?_⟩ <;> simp only [boundaryDecision, h]
  · by_cases hhold : s.supervisor.holdRequest = true
    · rw [if_pos hhold, if_pos hhold, setStation_station]
    · rw [if_neg hhold, if_neg hhold, h]
  · by_cases hstep : s.supervisor.stepRecord = true
    · rw [if_pos hstep, if_pos hstep]
      exact ⟨setStation_station s .running, rfl⟩
    · rw [if_neg hstep, if_neg hstep]
      exact ⟨h, Bool.eq_false_of_not_eq_true hstep⟩
  · by_cases hlost : s.supervisor.mainsLost = true
    · rw [if_pos hlost, if_pos hlost, h]
    · rw [if_neg hlost, if_neg hlost, setStation_station]

/-- The Time Base after a cycle boundary, by what it held before the crossing (R6). -/
theorem boundaryTaken_times {cfg : Settings} {s : State} {interval : Nat} {flow : Bool} :
    ∃ (now before reference : Option Nat) (flag : Bool), CycleTaken
      { s.timeBase with position := 0, heardNow := now, heardBefore := before, reference := reference, joinFlag := flag }
      (boundaryTaken cfg (crossed interval flow 0 s)).timeBase ∧
    (boundaryTaken cfg (crossed interval flow 0 s)).timeBase.takenSlot = 0 ∧
    (s.supervisor.station ≠ .listening → now = s.timeBase.heardNow) := by
  have hread := beforeEvent_read cfg 0 interval flow s
  obtain ⟨p, c, htime⟩ := hread.timeBase
  obtain ⟨now, before, reference, flag, hdecided, hnow⟩ := stationBoundary_timeBase cfg (beforeEvent cfg 0 (crossed interval flow 0 s))
  refine ⟨now, before, reference, flag, ?_, rfl, fun h => ?_⟩
  · rw [boundaryTaken_timeBase, hdecided, htime]
    constructor <;> rfl
  · rw [hnow (by rw [hread.station]; exact h), htime]

/-- The station at a cycle boundary outside LISTENING (R179). -/
theorem boundaryTaken_moves {cfg : Settings} {s : State} {interval : Nat} {flow : Bool} (h : s.supervisor.station ≠ .listening) :
    (boundaryTaken cfg (crossed interval flow 0 s)).supervisor =
      (boundaryDecision cfg (beforeEvent cfg 0 (crossed interval flow 0 s))).supervisor := by
  have hread := beforeEvent_read cfg 0 interval flow s
  rw [(boundaryTaken_rest cfg _).1, stationBoundary_of_no_join]
  exact fun k => h (hread.station.symm.trans k.1)

end Sys2Proof.Machine

namespace Sys2Proof.Proofs.CycleBoundary
open Sys2Proof.Machine

/-- Settles O7: the decision of the supervisor at the boundary, the Time Base's steps after it, and what the blocks leave of both. -/
theorem cycleBoundaryMovesTheStation : Obligations.CycleBoundaryMovesTheStation := by
  unfold Obligations.CycleBoundaryMovesTheStation
  refine ⟨fun cfg s interval flow hdue hcrossing hlistening hbound hjoin hclear => ?_, fun cfg s interval flow hdue hcrossing => ?_⟩
  · have hstep := crossingStep_boundary hdue hcrossing flow
    rw [slotEvent_of_boundary] at hstep
    have hafter := afterBoundary cfg (boundaryEntered cfg (crossed interval flow 0 s)) (boundaryTaken cfg (crossed interval flow 0 s))
    have hread := beforeEvent_read cfg 0 interval flow s
    obtain ⟨hsupervisor, hlink, hzones, -, -⟩ := boundaryTaken_rest cfg (crossed interval flow 0 s)
    have htimes := boundaryTaken_timeBase cfg (crossed interval flow 0 s)
    generalize everySlot cfg 0 (boundaryBlocks cfg _ (boundaryTaken cfg (crossed interval flow 0 s))) = t at hafter hstep
    generalize boundaryTaken cfg (crossed interval flow 0 s) = b at hafter hsupervisor hlink hzones htimes
    generalize beforeEvent cfg 0 (crossed interval flow 0 s) = u at hread hsupervisor hlink hzones htimes
    have hpassed := stationBoundary_of_join (cfg := cfg) (hread.station.trans hlistening)
      (by rw [hread.joinCount]; omega) (hread.mainsLost.trans hclear)
    rw [hpassed] at hsupervisor hlink hzones htimes
    have hrunning : t.supervisor.station = .running := hafter.station.trans (by rw [hsupervisor]; rfl)
    obtain ⟨p, c, htime⟩ := hread.timeBase
    refine ⟨crossingCounted t, congrArg Host.Outcome.next (whenSeen_crossing (seen := seesJoinEnd) hstep ?_), hrunning, ?_, ?_, ?_, ?_, ?_, ?_⟩
    · show (decide (s.supervisor.station = .listening) && decide (t.supervisor.station ≠ .listening)) = true
      rw [hlistening, hrunning]
      rfl
    · refine hafter.joinCount.trans ?_
      rw [hsupervisor, ← hread.joinCount]
      rfl
    · exact hafter.mark (by rw [hsupervisor]; rfl)
    · refine hafter.linkState.trans ?_
      rw [hlink, ← hread.loopResult, ← hread.clash]
      show (decideLink u.link).state = _
      rw [decideLink]
      split <;> rfl
    · show t.timeBase.joinFlag = false
      rw [hafter.timeBase, htimes]
      obtain ⟨now, before, reference, hchecked⟩ := checkJoinFlag_eq cfg u.timeBase
      show (checkJoinFlag cfg u.timeBase).joinFlag = false
      rw [hchecked]
    · intro hflag
      have hnone : (checkJoinFlag cfg u.timeBase).heardNow = none := by
        rw [checkJoinFlag, if_neg (by rw [htime]; exact hflag.symm ▸ Bool.false_ne_true)]
        rfl
      show t.timeBase.reference = _ ∧ t.timeBase.sync = _
      rw [hafter.timeBase, htimes]
      constructor
      · refine (cycleTimes_reference cfg .running true (checkJoinFlag cfg u.timeBase)).trans ?_
        show some (lowerOf cfg.address (checkJoinFlag cfg u.timeBase).heardNow) = _
        rw [hnone]
        rfl
      · refine (cycleTimes_sync cfg .running (checkJoinFlag cfg u.timeBase)).trans (if_pos ?_)
        show (settledState .running && decide (some (lowerOf cfg.address (checkJoinFlag cfg u.timeBase).heardNow) = _) || _) = true
        rw [hnone]
        simp [settledState, lowerOf]
    · intro z hnormal
      have hentered : b.zones.get z = enterRunningZone cfg (s.zones.get z) := by
        rw [hzones, ← hread.zones]
        exact Six.get_map _ _ z
      have hgranted := hafter.zones z
      rw [hentered, enterRunningZone, if_pos hnormal] at hgranted
      show (t.zones.get z).mode = _ ∧ (t.zones.get z).acc = _
      rw [hgranted]
      by_cases hcold : isCold cfg (s.zones.get z).tc = true <;> simp [hcold, hnormal]
  · obtain ⟨now, before, reference, flag, hcycle, htaken, hheard⟩ := boundaryTaken_times (cfg := cfg) (s := s) (interval := interval) (flow := flow)
    have hafter := afterBoundary cfg (boundaryEntered cfg (crossed interval flow 0 s)) (boundaryTaken cfg (crossed interval flow 0 s))
    have hread := beforeEvent_read cfg 0 interval flow s
    obtain ⟨hrunning, hheld, hlost⟩ := boundaryDecision_moves cfg (beforeEvent cfg 0 (crossed interval flow 0 s))
    have hmoves := boundaryTaken_moves (cfg := cfg) (s := s) (interval := interval) (flow := flow)
    have hexec := exec_crossing_boundary hdue hcrossing flow
    rw [slotEvent_of_boundary] at hexec
    generalize everySlot cfg 0 (boundaryBlocks cfg _ (boundaryTaken cfg (crossed interval flow 0 s))) = t at hafter hexec
    generalize boundaryTaken cfg (crossed interval flow 0 s) = b at hafter hcycle htaken hmoves
    generalize beforeEvent cfg 0 (crossed interval flow 0 s) = u at hread hrunning hheld hlost hmoves
    rw [hread.station, hread.holdRequest] at hrunning
    rw [hread.station, hread.stepRecord] at hheld
    rw [hread.station, hread.mainsLost, hread.holdRequest] at hlost
    refine ⟨crossingCounted t, hexec, ?_⟩
    show t.timeBase.position = 0 ∧ t.timeBase.takenSlot = 0 ∧ t.timeBase.cycle = _ ∧ t.timeBase.pendingOffset = 0 ∧ t.timeBase.timeAge = _ ∧
      t.timeBase.goodAge = _ ∧ t.timeBase.heardNow = none ∧ (_ → t.timeBase.heardBefore = _) ∧ (_ → t.supervisor.station = _) ∧
      (_ → t.supervisor.station = _ ∧ t.supervisor.stepRecord = false) ∧ (_ → t.supervisor.station = _)
    rw [hafter.timeBase, hafter.station, hafter.stepRecord]
    refine ⟨hcycle.position, htaken, hcycle.cycle, hcycle.pendingOffset, hcycle.timeAge, hcycle.goodAge, hcycle.heardNow,
      fun h => hcycle.heardBefore.trans (hheard h), fun h => ?_, fun h => ?_, fun h => ?_⟩ <;>
      rw [hmoves (by rw [h]; exact fun e => nomatch e)]
    · exact hrunning h
    · exact hheld h
    · exact hlost h

end Sys2Proof.Proofs.CycleBoundary

/-! PROOFS. What a cycle boundary ends by its age, and the boundary of a unit at rest (R6, R17, R74, R95, R96, R105, R106, R109, R111). -/

namespace Sys2Proof.Machine

/-! ### What the blocks find at the event of slot 0 -/

/-- The decision at a boundary touches neither the Peer Table nor the placement nor the ring. -/
theorem stationBoundary_rest (cfg : Settings) (s : State) :
    (stationBoundary cfg s).peers = s.peers ∧ (stationBoundary cfg s).placement = s.placement ∧
    (stationBoundary cfg s).ring = s.ring := by
  obtain ⟨x, sc, hdecision⟩ := boundaryDecision_supervisorScannerAlone cfg s
  rw [stationBoundary, hdecision]
  split <;> exact ⟨rfl, rfl, rfl⟩

theorem boundaryTaken_peers (cfg : Settings) (s : State) : (boundaryTaken cfg s).peers = (beforeEvent cfg 0 s).peers :=
  (boundaryTaken_rest cfg s).2.2.2.1.trans (stationBoundary_rest cfg _).1

theorem boundaryTaken_placement (cfg : Settings) (s : State) : (boundaryTaken cfg s).placement = (beforeEvent cfg 0 s).placement :=
  (boundaryTaken_rest cfg s).2.2.2.2.trans (stationBoundary_rest cfg _).2.1

/-- Between the end of the mains cycle and the event, the ring changes at its mailbox alone (R16, R166). -/
theorem boundaryTaken_ring (cfg : Settings) (s : State) : ∃ m : Mailbox,
    (boundaryTaken cfg s).ring = { (beforeEvent cfg 0 s).ring with mailbox := m } := by
  have hring := (stationBoundary_rest cfg (beforeEvent cfg 0 s)).2.2
  have hoffer : ∀ r : Ring, ∃ m : Mailbox, offerTime r = { r with mailbox := m } := by
    rintro ⟨_, _, _, _, _, mailbox⟩
    cases mailbox
    case empty => exact ⟨.offered, rfl⟩
    case offered => exact ⟨.offered, rfl⟩
    case started => exact ⟨.started, rfl⟩
  rw [← hring]
  simp only [boundaryTaken, beforeBoundary, cycleSteps, offerAtBoundary]
  split
  · exact hoffer _
  · exact ⟨_, rfl⟩

/-- What the blocks of a unit at rest find at the event of slot 0, by the state before the crossing. -/
structure RestingTaken (s b : State) : Prop where
  placement : b.placement = s.placement
  peers : b.peers = s.peers
  ring : ∃ m : Mailbox, b.ring = { s.ring with mailbox := m }

theorem boundaryTaken_resting (cfg : Settings) {s : State} (h : s.placement.computation = none) (interval : Nat) (flow : Bool) :
    RestingTaken s (boundaryTaken cfg (crossed interval flow 0 s)) := by
  have hbefore : beforeEvent cfg 0 (crossed interval flow 0 s) =
      (crossed interval flow 0 s).setRing (expireMailbox s.ring) := beforeEvent_of_rest cfg (.inr (by exact h))
  refine ⟨?_, ?_, ?_⟩
  · rw [boundaryTaken_placement, hbefore]
    rfl
  · rw [boundaryTaken_peers, hbefore]
    rfl
  · obtain ⟨m, hring⟩ := boundaryTaken_ring cfg (crossed interval flow 0 s)
    refine ⟨m, hring.trans ?_⟩
    rw [hbefore, setRing_ring, expireMailbox_eq]

theorem RestingTaken.atRest {s b : State} (h : RestingTaken s b) (hs : UnitsAtRest s) : UnitsAtRest b := by
  obtain ⟨m, hring⟩ := h.ring
  exact ⟨by rw [h.placement]; exact hs.computation, by rw [h.placement]; exact hs.request, by rw [hring]; exact hs.head⟩

/-! ### The rollover of a unit at rest (R96) -/

theorem rollover_of_rest (cfg : Settings) {b : State} (h : UnitsAtRest b) :
    rollover cfg b = b.setPlacement (rolloverRecord (dropReleased b (b.placement.frozen.getD [])) b.placement) := by
  have hnothing : abandonRequest b = b := by simp only [abandonRequest, h.request]
  rw [rollover, hnothing]
  exact serviceHead_of_standing (serviceOnce_of_free h.head)

/-- The state that the flow sender finds at the boundary of a unit at rest. -/
def rolled (cfg : Settings) (b : State) : State :=
  grantPermits ((b.setPlacement (rolloverRecord (dropReleased b (b.placement.frozen.getD [])) b.placement)).setPeers
    (rolloverPeers cfg b.timeBase.cycle b.peers))

theorem boundaryBlocks_of_rest (cfg : Settings) (entered : Bool) {b : State} (h : UnitsAtRest b) :
    boundaryBlocks cfg entered b = flowBoundary cfg entered (rolled cfg b) := by
  simp only [boundaryBlocks, rollover_of_rest cfg h]
  rfl

theorem flowBoundary_of_unsensed {cfg : Settings} (h : cfg.flowSensing = false) (entered : Bool) (s : State) :
    flowBoundary cfg entered s = s := by
  rw [flowBoundary, h, Bool.false_and, if_neg Bool.false_ne_true]

/-- A unit at rest that does not sense flow has its ages and its rollover at the boundary, and nothing else. -/
theorem everySlot_of_unsensed {cfg : Settings} (h : cfg.flowSensing = false) (slot : Nat) (s : State) :
    everySlot cfg slot s = armed slot s := samplePin_of_unsensed h _

end Sys2Proof.Machine

namespace Sys2Proof.Proofs.CycleAges
open Sys2Proof.Machine

/-- A moment of a boundary reached by a crossing: the step, and the state that the blocks leave. -/
theorem boundary_moment {cfg : Settings} {s : State} {interval : Nat} {flow : Bool} (hdue : BoundaryDue cfg s) (hcrossing : CrossingDue interval s) :
    ∃ t : State, crossingStep interval flow s = crossingCounted t ∧
      AfterBoundary cfg (boundaryTaken cfg (crossed interval flow 0 s)) t := by
  refine ⟨_, ?_, afterBoundary cfg (boundaryEntered cfg (crossed interval flow 0 s)) (boundaryTaken cfg (crossed interval flow 0 s))⟩
  rw [crossingStep_boundary hdue hcrossing flow, slotEvent_of_boundary]

/-- A good-TIME age of 1 or more is above 1 after the boundary (R6, R17). -/
theorem goodRecently_aged {t : TimeBase} (h : ∀ a : Nat, t.goodAge = some a → 1 ≤ a) : goodRecently (ageTimes t) = false := by
  cases hage : t.goodAge with
  | none => simp [goodRecently, ageTimes, hage]
  | some a =>
    have := h a hage
    simp only [goodRecently, ageTimes, hage, Option.map_some, saturate, decide_eq_false_iff_not]
    omega

theorem syncTimeout_at_boundary (cfg : Settings) (s : State) (interval : Nat) (flow : Bool) (hdue : BoundaryDue cfg s)
    (hcrossing : CrossingDue interval s) (hsettled : settledState s.supervisor.station = true) (hsync : s.timeBase.sync ≠ .freeRunning)
    (hlower : ∃ a : Nat, s.timeBase.heardNow = some a ∧ a < cfg.address) (hgood : ∀ a : Nat, s.timeBase.goodAge = some a → 1 ≤ a)
    (hbound : cfg.syncTimeout ≤ 255) (hage : cfg.syncTimeout ≤ s.timeBase.timeAge + 1) :
    ∃ t : State, exec (.syncTimeout (.crossing interval flow)) s = .next t ∧
      t.timeBase.sync = .freeRunning ∧ viewIncomplete t = true ∧
      t.timeBase.timeAge = min 255 (s.timeBase.timeAge + 1) ∧ t.timeBase.reference = s.timeBase.heardNow ∧
      t.timeBase.cycle = s.timeBase.cycle + 1 + s.timeBase.pendingOffset := by
  obtain ⟨t, hstep, hafter⟩ := boundary_moment (cfg := cfg) (flow := flow) hdue hcrossing
  obtain ⟨a, hheard, hless⟩ := hlower
  have hother : s.supervisor.station ≠ .listening := fun e => by
    rw [e] at hsettled
    exact nomatch hsettled
  have hread := beforeEvent_read cfg 0 interval flow s
  obtain ⟨p, c, htime⟩ := hread.timeBase
  have htimes := hafter.timeBase.trans (boundaryTaken_timeBase cfg (crossed interval flow 0 s))
  obtain ⟨now, before, reference, flag, hdecided, hnow⟩ := stationBoundary_timeBase cfg (beforeEvent cfg 0 (crossed interval flow 0 s))
  have hnow := hnow (by rw [hread.station]; exact hother)
  rw [hdecided, htime] at htimes
  rw [htime] at hnow
  have hlow : lowerOf cfg.address now = a := by
    rw [hnow, hheard]
    exact Nat.min_eq_right (Nat.le_of_lt hless)
  generalize (stationBoundary cfg (beforeEvent cfg 0 (crossed interval flow 0 s))).supervisor.station = station at htimes
  have hfree : t.timeBase.sync = .freeRunning := by
    rw [htimes]
    refine (cycleTimes_sync cfg station _).trans ?_
    have hrecent := goodRecently_aged (t := { s.timeBase with
      position := 0, measuredPeriod := p, mainsClass := c, heardNow := now, heardBefore := before, reference := reference, joinFlag := flag })
      hgood
    rw [hrecent]
    show (if _ && decide (some (lowerOf cfg.address now) = _) || false then _ else _) = _
    rw [hlow, if_neg (by simp; omega)]
    exact if_pos (by show cfg.syncTimeout ≤ min 255 (s.timeBase.timeAge + 1); omega)
  refine ⟨crossingCounted t, congrArg Host.Outcome.next (whenSeen_crossing (seen := seesSyncTimeout) hstep ?_), hfree, ?_, ?_, ?_, ?_⟩
  · have hcounted : (crossingCounted t).timeBase.sync = .freeRunning := hfree
    simp only [seesSyncTimeout, hcounted, decide_true, Bool.true_or, Bool.and_true, decide_eq_true_eq]
    exact hsync
  · show (t.placement.viewFlag || decide (t.timeBase.sync = .freeRunning)) = true
    rw [hfree, decide_eq_true rfl, Bool.or_true]
  · show t.timeBase.timeAge = _
    rw [htimes]
    rfl
  · show t.timeBase.reference = _
    rw [htimes]
    refine (cycleTimes_reference cfg station true _).trans ?_
    rw [hheard]
    exact congrArg some hlow
  · show t.timeBase.cycle = _
    rw [htimes]
    rfl

/-- The entries after a boundary, compared with the cycle that begins (R105, R106). -/
theorem entries_after {cfg : Settings} {s t : State} {interval : Nat} {flow : Bool}
    (hafter : AfterBoundary cfg (boundaryTaken cfg (crossed interval flow 0 s)) t) :
    t.peers.entries = (s.peers.entries.map (ageEntry ((s.timeBase.cycle + 1 + s.timeBase.pendingOffset).setWidth 8))).filter
      fun e => decide (e.silentCount ≤ cfg.silentLimit) := by
  obtain ⟨now, before, reference, flag, hcycle, -, -⟩ := boundaryTaken_times (cfg := cfg) (s := s) (interval := interval) (flow := flow)
  rw [hafter.entries, rolloverPeers, hcycle.cycle, boundaryTaken_peers, (beforeEvent_read cfg 0 interval flow s).entries]

/-- An entry SILENT for `silent_limit` windows does not outlast the boundary (R106). -/
theorem ageEntry_over {limit : Nat} {e : Entry} (now : Byte) (hlimit : limit ≤ 14) (hsilent : e.state = .silent) (hcount : limit ≤ e.silentCount) :
    ¬ (ageEntry now e).silentCount ≤ limit := by
  have hnot : ¬(e.state = .fresh ∧ e.lastHeard = now) := fun k => nomatch hsilent.symm.trans k.1
  simp only [ageEntry, if_neg hnot, saturate]
  omega

theorem hasEntry_iff (t : PeerTable) (a : Nat) : hasEntry t a = true ↔ ∃ e ∈ t.entries, e.address = a := by
  simp [hasEntry, List.any_eq_true]

/-- Settles O9: each age at the boundary, by what the blocks make of the state in which they take the event. -/
theorem cycleBoundaryEndsWhatHasAged : Obligations.CycleBoundaryEndsWhatHasAged := by
  unfold Obligations.CycleBoundaryEndsWhatHasAged
  refine ⟨syncTimeout_at_boundary, fun cfg s interval flow a hdue hcrossing hlimit hentry hsilent => ?_,
    fun cfg s interval flow hdue hcrossing hold => ?_, fun cfg s interval flow hdue hcrossing hrest hflow hknown hbound hage => ?_,
    fun cfg s interval flow hdue hcrossing hsag => ?_⟩
  · obtain ⟨t, hstep, hafter⟩ := boundary_moment (cfg := cfg) (flow := flow) hdue hcrossing
    have hentries := entries_after hafter
    have hgone : hasEntry t.peers a = false := by
      rw [Bool.eq_false_iff, Ne, hasEntry_iff]
      rintro ⟨x, hx, haddress⟩
      rw [hentries, List.mem_filter, List.mem_map] at hx
      obtain ⟨⟨e, he, rfl⟩, hkept⟩ := hx
      obtain ⟨hstate, hcount⟩ := hsilent e he haddress
      exact ageEntry_over _ hlimit hstate hcount (of_decide_eq_true hkept)
    obtain ⟨e, he, haddress⟩ := (hasEntry_iff _ _).mp hentry
    refine ⟨crossingCounted t, congrArg Host.Outcome.next (whenSeen_crossing (seen := seesEntryRemoval) hstep ?_), hgone, hafter.row, hentries⟩
    refine List.any_eq_true.mpr ⟨e, he, ?_⟩
    have hcounted : hasEntry (crossingCounted t).peers a = false := hgone
    rw [haddress, hcounted]
    rfl
  · obtain ⟨t, hstep, hafter⟩ := boundary_moment (cfg := cfg) (flow := flow) hdue hcrossing
    have hread := beforeEvent_read cfg 0 interval flow s
    have hupstream : t.peers.upstream = ageRecord s.peers.upstream := by rw [hafter.upstream, boundaryTaken_peers, hread.upstream]
    have hdownstream : t.peers.downstream = ageRecord s.peers.downstream := by rw [hafter.downstream, boundaryTaken_peers, hread.downstream]
    have hexpired : ∀ r : BoundaryRecord, r.age = 2 → (ageRecord r).valid = false := fun r hr => by
      simp [ageRecord, BoundaryRecord.valid, saturate, hr]
    refine ⟨crossingCounted t, congrArg Host.Outcome.next (whenSeen_crossing (seen := seesRecordExpiry) hstep ?_), hupstream, hdownstream,
      fun h => (congrArg _ hupstream).trans (hexpired _ h), fun h => (congrArg _ hdownstream).trans (hexpired _ h)⟩
    have hvalid : ∀ r : BoundaryRecord, r.age = 2 → r.temperature.isSome = true → r.valid = true := fun r hr ht => by
      simp [BoundaryRecord.valid, hr, ht]
    show (s.peers.upstream.valid && !t.peers.upstream.valid || s.peers.downstream.valid && !t.peers.downstream.valid) = true
    rw [hupstream, hdownstream]
    obtain ⟨hr, ht⟩ | ⟨hr, ht⟩ := hold
    · rw [hvalid _ hr ht, hexpired _ hr]
      rfl
    · rw [hvalid s.peers.downstream hr ht, hexpired _ hr]
      exact Bool.or_true _
  · have hstep := crossingStep_boundary hdue hcrossing flow
    have htaken := boundaryTaken_resting cfg hrest.computation interval flow
    rw [slotEvent_of_boundary, boundaryBlocks_of_rest cfg _ (htaken.atRest hrest), flowBoundary_of_unsensed hflow,
      everySlot_of_unsensed hflow] at hstep
    generalize boundaryTaken cfg (crossed interval flow 0 s) = b at hstep htaken
    have hline : (crossingCounted (armed 0 (rolled cfg b))).peers.line =
        { state := .unknown, source := none, age := min 255 (s.peers.line.age + 1) } := by
      show ageLine cfg b.peers.line = _
      rw [htaken.peers]
      exact if_pos (by show cfg.lineTimeout ≤ min 255 (s.peers.line.age + 1); omega)
    refine ⟨_, congrArg Host.Outcome.next (whenSeen_crossing (seen := seesLineTimeout) hstep ?_), hline⟩
    simp only [seesLineTimeout, hline, decide_true, Bool.true_or, Bool.and_true, decide_eq_true_eq]
    exact hknown
  · obtain ⟨t, hstep, hafter⟩ := boundary_moment (cfg := cfg) (flow := flow) hdue hcrossing
    have hcount : t.placement.sagCount = 0 := by
      rw [hafter.sagCount, boundaryTaken_placement, (beforeEvent_read cfg 0 interval flow s).sagCount, hsag]
    have hended : sagActive t.placement = false := by rw [sagActive, hcount]; rfl
    refine ⟨crossingCounted t, congrArg Host.Outcome.next (whenSeen_crossing (seen := seesSagEnd) hstep ?_), hcount, hended, ?_⟩
    · show (sagActive s.placement && !sagActive t.placement) = true
      rw [hended, sagActive, hsag]
      rfl
    · show t.timeBase.takenSlot = 0
      rw [hafter.timeBase]
      rfl

end Sys2Proof.Proofs.CycleAges

/-! PROOFS. The flow sender: its samples, its requests, and what the points of a slot leave of them (R112, R113, R124, R158). -/

namespace Sys2Proof.Machine

/-! ### A LINE request by what it finds (R113) -/

theorem lineRequest_of_sending {cfg : Settings} {change : Bool} {s : State} {level : FlowLevel} (hlevel : s.peers.flow.confirmed = some level)
    (hsettled : settledState s.supervisor.station = true) (hnone : s.peers.flow.request = .none) (hsends : linkSends s.link.state = true) :
    lineRequest cfg change s = putLine change level s := by
  simp [lineRequest, hlevel, hsettled, hnone, hsends]

theorem lineRequest_of_silent {cfg : Settings} {change : Bool} {s : State} {level : FlowLevel} (hlevel : s.peers.flow.confirmed = some level)
    (hsettled : settledState s.supervisor.station = true) (hnone : s.peers.flow.request = .none) (hsends : linkSends s.link.state = false) :
    lineRequest cfg change s = restartPeriod (adoptOwn cfg level s) := by
  simp [lineRequest, hlevel, hsettled, hnone, hsends]

/-- A request is made only by a settled station and only while none stands. -/
theorem lineRequest_of_busy {cfg : Settings} {change : Bool} {s : State}
    (h : settledState s.supervisor.station = false ∨ s.peers.flow.request ≠ .none) : lineRequest cfg change s = s := by
  have hblocked : (settledState s.supervisor.station && decide (s.peers.flow.request = .none)) = false := by
    obtain h | h := h
    · rw [h, Bool.false_and]
    · rw [decide_eq_false h, Bool.and_false]
  simp only [lineRequest, hblocked]
  cases s.peers.flow.confirmed <;> rfl

/-- A LINE request given a descriptor (R158). -/
def lineFilled (change : Bool) (level : FlowLevel) (s : State) : State :=
  (s.setRing (fillRing .line
    (lineBytes level s.peers.flow.changeCycle change (decide (s.supervisor.station = .held)) s.timeBase.cycle) s.ring)).setPeers
    { s.peers with flow := { s.peers.flow with request := .queued, carried := some level, periodCount := 0 } }

theorem putLine_of_room {change : Bool} {level : FlowLevel} {s : State} (h : s.ring.occupancy < 6) :
    putLine change level s = lineFilled change level s := by
  have hroom : ringFull s.ring = false := decide_eq_false (Nat.not_le.mpr h)
  simp only [putLine, hroom]
  rfl

/-! ### A sample by the level it finds (R112) -/

theorem sampleFlow_of_equal {x : FlowLevel} {now : Cycle} {f : FlowSender} (h : f.confirmed = some x) :
    sampleFlow x now f = ({ f with candidate := none, candidateCount := 0 }, false) := if_pos h

theorem sampleFlow_of_other {x : FlowLevel} {now : Cycle} {f : FlowSender} (h : f.confirmed ≠ some x) (hcandidate : f.candidate ≠ some x) :
    sampleFlow x now f = ({ f with candidate := some x, candidateCount := 1 }, false) := (if_neg h).trans (if_neg hcandidate)

theorem sampleFlow_of_second {x : FlowLevel} {now : Cycle} {f : FlowSender} (h : f.confirmed ≠ some x) (hcandidate : f.candidate = some x) :
    sampleFlow x now f =
      ({ f with confirmed := some x, changeCycle := now.setWidth 8, candidate := none, candidateCount := 0 }, true) :=
  (if_neg h).trans (if_pos hcandidate)

/-- A sample leaves the request, the report it carries and the period count, and confirms the level sampled or none. -/
theorem sampleFlow_cases (x : FlowLevel) (now : Cycle) (f : FlowSender) :
    (∃ (c : Option FlowLevel) (n : Nat), sampleFlow x now f = ({ f with candidate := c, candidateCount := n }, false)) ∨
    sampleFlow x now f =
      ({ f with confirmed := some x, changeCycle := now.setWidth 8, candidate := none, candidateCount := 0 }, true) := by
  by_cases h : f.confirmed = some x
  · exact .inl ⟨_, _, sampleFlow_of_equal h⟩
  · by_cases hcandidate : f.candidate = some x
    · exact .inr (sampleFlow_of_second h hcandidate)
    · exact .inl ⟨_, _, sampleFlow_of_other h hcandidate⟩

theorem samplePin_of_sample {cfg : Settings} (hflow : cfg.flowSensing = true) {s : State} {f : FlowSender} {confirmed : Bool}
    (h : sampleFlow (flowLevel s.flowPin) s.timeBase.cycle s.peers.flow = (f, confirmed)) :
    samplePin cfg s =
      if confirmed then lineRequest cfg true (s.setPeers { s.peers with flow := f }) else s.setPeers { s.peers with flow := f } := by
  simp only [samplePin, hflow, if_true, h]

/-- While a request stands, a sample changes nothing but the level and the candidate. -/
theorem samplePin_of_busy {cfg : Settings} (hflow : cfg.flowSensing = true) {s : State} (hbusy : s.peers.flow.request ≠ .none) :
    ∃ (confirmed : Option FlowLevel) (changeCycle : Byte) (candidate : Option FlowLevel) (count : Nat),
      samplePin cfg s = s.setPeers { s.peers with flow := { s.peers.flow with
        confirmed := confirmed, changeCycle := changeCycle, candidate := candidate, candidateCount := count } } := by
  obtain ⟨c, n, h⟩ | h := sampleFlow_cases (flowLevel s.flowPin) s.timeBase.cycle s.peers.flow
  · exact ⟨s.peers.flow.confirmed, s.peers.flow.changeCycle, c, n, (samplePin_of_sample hflow h).trans (if_neg Bool.false_ne_true)⟩
  · exact ⟨_, _, _, _, (samplePin_of_sample hflow h).trans ((if_pos rfl).trans (lineRequest_of_busy (.inr (by exact hbusy))))⟩

/-- A settled station whose link cannot send keeps the record it has adopted at its confirmed level. -/
theorem samplePin_of_adopted {cfg : Settings} (hflow : cfg.flowSensing = true) {s : State} {level : FlowLevel}
    (hsettled : settledState s.supervisor.station = true) (hsends : linkSends s.link.state = false) (hnone : s.peers.flow.request = .none)
    (hlevel : s.peers.flow.confirmed = some level) (hcount : s.peers.flow.periodCount = 0)
    (hline : s.peers.line = { state := lineOfLevel level, source := some cfg.address, age := 0 }) :
    (samplePin cfg s).peers.flow.request = .none ∧ (samplePin cfg s).peers.flow.periodCount = 0 ∧
    ∃ x : FlowLevel, (samplePin cfg s).peers.flow.confirmed = some x ∧
      (samplePin cfg s).peers.line = { state := lineOfLevel x, source := some cfg.address, age := 0 } := by
  obtain ⟨c, n, h⟩ | h := sampleFlow_cases (flowLevel s.flowPin) s.timeBase.cycle s.peers.flow
  · rw [(samplePin_of_sample hflow h).trans (if_neg Bool.false_ne_true)]
    exact ⟨hnone, hcount, level, hlevel, hline⟩
  · rw [(samplePin_of_sample hflow h).trans ((if_pos rfl).trans
      (lineRequest_of_silent (by rfl) (by exact hsettled) (by exact hnone) (by exact hsends)))]
    exact ⟨hnone, rfl, _, rfl, rfl⟩

theorem lineOfLevel_eq {c : Option FlowLevel} {x : FlowLevel} (h : c = some x) :
    lineOfLevel x = if c = some FlowLevel.flowing then .flowing else .standing := by
  subst h
  cases x <;> rfl

/-! ### The points of a slot, with nothing at the head to serve (R7, R160) -/

/-- No request stands or waits, and either the ring is empty or its head stands READY before a link that sends. -/
structure QuietRing (s : State) : Prop where
  request : s.placement.request = .none
  waiting : s.ring.waiting = []
  head : ((headDescriptor s.ring).state = .ready ∧ linkSends s.link.state = true ∧ s.ring.head ≠ s.ring.fill) ∨
    (s.ring.fill = s.ring.head ∧ ∀ i : Index, (s.ring.descriptors.get i).state = .free)

theorem QuietRing.standing {cfg : Settings} {s : State} (h : QuietRing s) : serviceOnce cfg s = none := by
  obtain ⟨hready, hsends, -⟩ | ⟨-, hfree⟩ := h.head
  · exact serviceOnce_of_ready hready hsends
  · exact serviceOnce_of_free (hfree _)

/-- A unit at rest in a sound ring with nothing waiting has an empty ring. -/
theorem RingSound.empty {s : State} (h : RingSound s) (hfree : (headDescriptor s.ring).state = .free) :
    s.ring.occupancy = 0 ∧ s.ring.fill = s.ring.head ∧ ∀ i : Index, (s.ring.descriptors.get i).state = .free := by
  have hzero : s.ring.occupancy = 0 := by
    by_contra hne
    refine h.inside s.ring.head ?_ hfree
    rw [occupied, decide_eq_true_eq]
    omega
  have hfill := h.fill
  refine ⟨hzero, Fin.ext ?_, fun i => h.outside i ?_⟩
  · rw [hzero] at hfill
    omega
  · rw [occupied, hzero]
    rfl

theorem serviceSteps_of_some {cfg : Settings} {s t : State} (h : serviceOnce cfg s = some t) (n : Nat) :
    serviceSteps cfg (n + 1) s = serviceSteps cfg n t := by
  simp only [serviceSteps, h]

theorem serviceSteps_of_none {cfg : Settings} {s : State} (h : serviceOnce cfg s = none) (n : Nat) : serviceSteps cfg n s = s := by
  cases n <;> simp only [serviceSteps, h]

/-- A STATUS frame that a link without a sender leaves at the head completes at once, and its descriptor is released (R160, R192). -/
theorem serviceHead_of_unsent_status {cfg : Settings} {s : State} {payload : List Byte} (hhead : headDescriptor s.ring = readyDescriptor .status payload)
    (hsends : linkSends s.link.state = false) (hwaiting : s.ring.waiting = [])
    (hnext : (s.ring.descriptors.get (nextIndex s.ring.head)).state = .free) :
    (serviceHead cfg s).peers = s.peers := by
  have hne : nextIndex s.ring.head ≠ s.ring.head := by simp [nextIndex]
  have hfailed : serviceOnce cfg s = some (s.setRing (setDescriptor s.ring s.ring.head
      (failDescriptor .detached (readyDescriptor .status payload)))) := by
    simp only [serviceOnce, hhead]
    exact if_neg (by rw [hsends]; exact Bool.false_ne_true)
  have hsecond : headDescriptor (setDescriptor s.ring s.ring.head (failDescriptor .detached (readyDescriptor .status payload))) =
      failDescriptor .detached (readyDescriptor .status payload) := by
    simp [headDescriptor, setDescriptor]
  have hreleased : serviceOnce cfg (s.setRing (setDescriptor s.ring s.ring.head (failDescriptor .detached (readyDescriptor .status payload)))) =
      some (releaseHead (takeStatus (failDescriptor .detached (readyDescriptor .status payload)) (s.setRing (setDescriptor s.ring s.ring.head
        (failDescriptor .detached (readyDescriptor .status payload)))))) := by
    simp only [serviceOnce, setRing_ring, hsecond]
    rfl
  generalize hu : releaseHead (takeStatus (failDescriptor .detached (readyDescriptor .status payload)) (s.setRing (setDescriptor s.ring s.ring.head
        (failDescriptor .detached (readyDescriptor .status payload))))) = u at hreleased
  have hrest : u.peers = s.peers ∧ (headDescriptor u.ring).state = .free := by
    rw [← hu]
    simp only [releaseHead, serveWaiting]
    split
    case h_2 w ws hw => exact nomatch hwaiting.symm.trans hw
    case h_1 =>
      refine ⟨rfl, ?_⟩
      show ((((s.ring.descriptors.set s.ring.head _).set s.ring.head Descriptor.freed)).get (nextIndex s.ring.head)).state = .free
      rw [Six.get_set, if_neg hne, Six.get_set, if_neg hne, hnext]
  rw [serviceHead, serviceSteps_of_some hfailed, serviceSteps_of_some hreleased, serviceSteps_of_none (serviceOnce_of_free hrest.2)]
  exact hrest.1

/-- What a slot point leaves where the ring is quiet: the Peer Table, and the ring but for a STATUS frame. -/
structure PointQuiet (s t : State) : Prop where
  peers : t.peers = s.peers
  head : (headDescriptor s.ring).state = .ready → t.ring.descriptors.get s.ring.head = s.ring.descriptors.get s.ring.head
  unsettled : settledState s.supervisor.station = false → t.ring = s.ring

theorem demandPoint_pointQuiet (cfg : Settings) (s : State) : PointQuiet s (demandPoint cfg s) := by
  have hbegun : ∀ u : State, (beginComputation cfg u).peers = u.peers ∧ (beginComputation cfg u).ring = u.ring := fun u => by
    rw [beginComputation]
    split <;> exact ⟨rfl, rfl⟩
  have hsame : (demandPoint cfg s).peers = s.peers ∧ (demandPoint cfg s).ring = s.ring := by
    simp only [demandPoint]
    cases s.supervisor.station
    case running => exact hbegun (handOver (computeDemands cfg (selectSources s cfg)))
    case held => exact hbegun (selectSources s cfg)
    all_goals exact ⟨rfl, rfl⟩
  obtain ⟨hpeers, hring⟩ := hsame
  exact ⟨hpeers, fun _ => by rw [hring], fun _ => hring⟩

theorem freeze_pointQuiet {cfg : Settings} {s : State} (h : QuietRing s) : PointQuiet s (freeze cfg s) := by
  have hclosed : closeWindow cfg s = s.setPlacement { s.placement with computation := none } := by
    simp only [closeWindow, setPlacement_placement, h.request]
    exact serviceHead_of_standing (QuietRing.standing ⟨rfl, h.waiting, h.head⟩)
  rw [freeze, hclosed]
  split <;> exact ⟨rfl, fun _ => rfl, fun _ => rfl⟩

theorem statusPoint_pointQuiet {cfg : Settings} {s : State} (h : QuietRing s) : PointQuiet s (statusPoint cfg s) := by
  by_cases hsettled : settledState s.supervisor.station = true
  · rw [statusPoint, if_pos hsettled]
    by_cases hdue : (statusDue cfg (statusCounted s).supervisor && !refusesStatus (statusCounted s).ring) = true
    · refine (congrArg (PointQuiet s) (if_pos hdue)).mpr ?_
      change PointQuiet s (serviceHead cfg (putStatus (statusCounted s)))
      have hput : (putStatus (statusCounted s)).ring = fillRing .status (statusBytes (statusCounted s)) s.ring := rfl
      obtain ⟨hready, hsends, hne⟩ | ⟨hfill, hfree⟩ := h.head
      · have hkept : (putStatus (statusCounted s)).ring.descriptors.get s.ring.head = s.ring.descriptors.get s.ring.head := by
          rw [hput, fillRing, Six.get_set, if_neg hne]
        have hstands : serviceHead cfg (putStatus (statusCounted s)) = putStatus (statusCounted s) :=
          serviceHead_of_standing (serviceOnce_of_ready (by exact (congrArg Descriptor.state hkept).trans hready) (by exact hsends))
        rw [hstands]
        exact ⟨rfl, fun _ => hkept, fun k => nomatch hsettled.symm.trans k⟩
      · have hhead : headDescriptor (putStatus (statusCounted s)).ring = readyDescriptor .status (statusBytes (statusCounted s)) := by
          rw [hput, headDescriptor, fillRing, Six.get_set, if_pos hfill.symm]
        have hunready : ∀ x, (headDescriptor s.ring).state = .ready → x := fun x k => nomatch (hfree s.ring.head).symm.trans k
        by_cases hsends : linkSends s.link.state = true
        · rw [serviceHead_of_standing (s := putStatus (statusCounted s)) (serviceOnce_of_ready (by rw [hhead]; rfl) (by exact hsends))]
          exact ⟨rfl, hunready _, fun k => nomatch hsettled.symm.trans k⟩
        · have hnext : ((putStatus (statusCounted s)).ring.descriptors.get (nextIndex (putStatus (statusCounted s)).ring.head)).state = .free := by
            rw [hput]
            show ((s.ring.descriptors.set s.ring.fill _).get (nextIndex s.ring.head)).state = .free
            rw [hfill, Six.get_set, if_neg (by simp [nextIndex]), hfree]
          have hpeers := serviceHead_of_unsent_status (cfg := cfg) hhead (Bool.eq_false_of_not_eq_true hsends) (by exact h.waiting) hnext
          exact ⟨hpeers, hunready _, fun k => nomatch hsettled.symm.trans k⟩
    · refine (congrArg (PointQuiet s) (if_neg hdue)).mpr ⟨rfl, fun _ => rfl, fun _ => rfl⟩
  · rw [statusPoint, if_neg hsettled]
    exact ⟨rfl, fun _ => rfl, fun _ => rfl⟩

theorem slotPoint_pointQuiet {cfg : Settings} {s : State} (slot : Nat) (h : QuietRing s) : PointQuiet s (slotPoint cfg slot s) := by
  rw [slotPoint]
  split
  · exact demandPoint_pointQuiet cfg s
  · split
    · exact freeze_pointQuiet h
    · split
      · exact statusPoint_pointQuiet h
      · exact ⟨rfl, fun _ => rfl, fun _ => rfl⟩

end Sys2Proof.Machine

/-! PROOFS. The periodic LINE report at a cycle boundary, the first report, and the change reports (R111 to R113, R124, R149, R158). -/

namespace Sys2Proof.Machine

/-! ### The flow sender at the boundary of a unit at rest (R113) -/

/-- The period count of the flow sender moved on. -/
def periodCounted (s : State) : State :=
  s.setPeers { s.peers with flow := { s.peers.flow with periodCount := saturate 16 (s.peers.flow.periodCount + 1) } }

theorem flowBoundary_entered {cfg : Settings} {s : State} (hflow : cfg.flowSensing = true)
    (hsettled : settledState s.supervisor.station = true) : flowBoundary cfg true s = lineRequest cfg false (periodCounted s) := by
  rw [flowBoundary, hflow, hsettled, if_pos (by rfl)]
  rfl

theorem flowBoundary_periodic {cfg : Settings} {s : State} (hflow : cfg.flowSensing = true)
    (hsettled : settledState s.supervisor.station = true) (hnone : s.peers.flow.request = .none) (hcount : s.peers.flow.periodCount = 15) :
    flowBoundary cfg false s = lineRequest cfg false (periodCounted s) := by
  have hsixteen : saturate 16 (s.peers.flow.periodCount + 1) = 16 := by rw [hcount]; rfl
  rw [flowBoundary, hflow, hsettled, if_pos (by rfl)]
  exact (if_neg Bool.false_ne_true).trans ((if_pos hsixteen).trans (if_pos hnone))

theorem boundaryEntered_of_joined {cfg : Settings} {s : State} {interval : Nat} {flow : Bool} (h : s.supervisor.station ≠ .listening) :
    boundaryEntered cfg (crossed interval flow 0 s) = false := by
  rw [boundaryEntered, (beforeEvent_read cfg 0 interval flow s).station, decide_eq_false h, Bool.false_and]

theorem settled_joined {s : State} (h : settledState s.supervisor.station = true) : s.supervisor.station ≠ .listening := fun e => by
  rw [e] at h
  exact nomatch h

/-- The decision at a boundary leaves a settled station settled (R179). -/
theorem boundaryTaken_settled {cfg : Settings} {s : State} {interval : Nat} {flow : Bool} (h : settledState s.supervisor.station = true) :
    settledState (boundaryTaken cfg (crossed interval flow 0 s)).supervisor.station = true := by
  have hread := beforeEvent_read cfg 0 interval flow s
  rw [boundaryTaken_moves (settled_joined h)]
  exact boundaryDecision_settled cfg (by rw [hread.station]; exact h)

/-- Outside LISTENING a unit at rest comes to the event with its link as it stands. -/
theorem boundaryTaken_link {cfg : Settings} {s : State} {interval : Nat} {flow : Bool} (hrest : s.placement.computation = none)
    (h : s.supervisor.station ≠ .listening) : (boundaryTaken cfg (crossed interval flow 0 s)).link = s.link := by
  have hread := beforeEvent_read cfg 0 interval flow s
  obtain ⟨x, sc, hdecision⟩ := boundaryDecision_supervisorScannerAlone cfg (beforeEvent cfg 0 (crossed interval flow 0 s))
  rw [(boundaryTaken_rest cfg _).2.1, stationBoundary_of_no_join (fun k => h (hread.station.symm.trans k.1)), hdecision,
    beforeEvent_of_rest cfg (.inr (by exact hrest))]
  rfl

/-- The boundary of a unit at rest, by the flow sender's part in it. -/
theorem crossingStep_boundary_of_rest {cfg : Settings} {interval : Nat} {s : State} (hdue : BoundaryDue cfg s)
    (hcrossing : CrossingDue interval s) (hrest : UnitsAtRest s) (flow : Bool) :
    crossingStep interval flow s = crossingCounted (samplePin cfg (armed 0 (flowBoundary cfg
      (boundaryEntered cfg (crossed interval flow 0 s)) (rolled cfg (boundaryTaken cfg (crossed interval flow 0 s)))))) := by
  rw [crossingStep_boundary hdue hcrossing flow, slotEvent_of_boundary,
    boundaryBlocks_of_rest cfg _ ((boundaryTaken_resting cfg hrest.computation interval flow).atRest hrest)]
  rfl

/-- The event of a slot other than 0 comes to its point by the FLOW sample, taken of the state before the crossing. -/
theorem atPoint_sampled (cfg : Settings) {slot : Nat} {s : State} (h : s.placement.computation = none) (interval : Nat) (flow : Bool)
    (position : Nat) : ∃ v : State, atPoint cfg slot (crossed interval flow position s) = samplePin cfg v ∧ v.flowPin = flow ∧
      v.timeBase.cycle = s.timeBase.cycle ∧ v.peers = s.peers ∧ v.link = s.link ∧ v.placement = s.placement ∧
      v.supervisor.station = s.supervisor.station ∧ ∃ m : Mailbox, v.ring = { s.ring with mailbox := m } := by
  obtain ⟨p, c, hmeasured⟩ := measured_eq interval flow s
  rw [crossed, hmeasured, atPoint_of_rest cfg (.inr (by exact h))]
  refine ⟨_, rfl, rfl, rfl, rfl, rfl, rfl, rfl, if s.ring.mailbox = .offered then .empty else s.ring.mailbox, ?_⟩
  exact expireMailbox_eq s.ring

/-- At the end of a join the blocks find the station RUNNING and its link decided (R149, R178). -/
theorem boundaryTaken_join {cfg : Settings} {s : State} {interval : Nat} {flow : Bool} (hrest : s.placement.computation = none)
    (hlistening : s.supervisor.station = .listening) (hbound : cfg.joinCycles ≤ 16) (hjoin : cfg.joinCycles ≤ s.supervisor.joinCount + 1)
    (hclear : s.supervisor.mainsLost = false) :
    (boundaryTaken cfg (crossed interval flow 0 s)).supervisor.station = .running ∧
    (boundaryTaken cfg (crossed interval flow 0 s)).link = decideLink s.link ∧ boundaryEntered cfg (crossed interval flow 0 s) = true := by
  have hread := beforeEvent_read cfg 0 interval flow s
  obtain ⟨hsupervisor, hlink, -⟩ := boundaryTaken_rest cfg (crossed interval flow 0 s)
  rw [stationBoundary_of_join (hread.station.trans hlistening) (by rw [hread.joinCount]; omega) (hread.mainsLost.trans hclear)]
    at hsupervisor hlink
  have hrunning : (boundaryTaken cfg (crossed interval flow 0 s)).supervisor.station = .running := by rw [hsupervisor]; rfl
  refine ⟨hrunning, ?_, ?_⟩
  · rw [hlink, beforeEvent_of_rest cfg (.inr (by exact hrest))]
    rfl
  · rw [boundaryEntered, hrunning, hread.station, hlistening]
    rfl

theorem fillRing_head {p : Producer} {payload : List Byte} {r : Ring} (h : r.fill = r.head) :
    headDescriptor (fillRing p payload r) = readyDescriptor p payload := by
  rw [headDescriptor, fillRing, Six.get_set, if_pos h.symm]

theorem seesBoundary_of {s t : State} (h : s.timeBase.takenSlot = 31) (ht : t.timeBase.takenSlot = 0) : seesBoundary s t = true := by
  simp [seesBoundary, h, ht]

end Sys2Proof.Machine

namespace Sys2Proof.Proofs.FlowReports
open Sys2Proof.Machine

/-- Settles O10: the report at the sixteenth boundary, given a descriptor or adopted. -/
theorem periodicLineReportIsRequested : Obligations.PeriodicLineReportIsRequested := by
  unfold Obligations.PeriodicLineReportIsRequested
  refine ⟨fun cfg s interval flow level hdue hcrossing hrest hflow hsettled hsends hlevel hnone hcount hroom => ?_,
    fun cfg s interval flow level hdue hcrossing hrest hflow hsettled hsends hlevel hnone hcount hknown hbound hage => ?_⟩
  · have hstep := crossingStep_boundary_of_rest hdue hcrossing hrest flow
    have htaken := boundaryTaken_resting cfg hrest.computation interval flow
    have hstation := boundaryTaken_settled (cfg := cfg) (interval := interval) (flow := flow) hsettled
    have hlink := boundaryTaken_link (cfg := cfg) (interval := interval) (flow := flow) hrest.computation (settled_joined hsettled)
    have hslot : (boundaryTaken cfg (crossed interval flow 0 s)).timeBase.takenSlot = 0 := rfl
    rw [boundaryEntered_of_joined (settled_joined hsettled)] at hstep
    generalize boundaryTaken cfg (crossed interval flow 0 s) = b at hstep htaken hstation hlink hslot
    obtain ⟨m, hring⟩ := htaken.ring
    rw [flowBoundary_periodic hflow (by exact hstation) (by exact (congrArg (·.flow.request) htaken.peers).trans hnone)
        (by exact (congrArg (·.flow.periodCount) htaken.peers).trans hcount),
      lineRequest_of_sending (level := level) (by exact (congrArg (·.flow.confirmed) htaken.peers).trans hlevel) (by exact hstation)
        (by exact (congrArg (·.flow.request) htaken.peers).trans hnone) (by exact (congrArg (linkSends ·.state) hlink).trans hsends),
      putLine_of_room (by exact (congrArg Ring.occupancy hring).symm ▸ hroom)] at hstep
    obtain ⟨confirmed, changeCycle, candidate, count, hsampled⟩ :=
      samplePin_of_busy hflow (s := armed 0 (lineFilled false level (periodCounted (rolled cfg b)))) (fun k => nomatch k)
    rw [hsampled] at hstep
    have hfilled : b.ring.fill = s.ring.fill := by rw [hring]
    refine ⟨_, congrArg Host.Outcome.next (whenSeen_crossing (seen := seesPeriodic) hstep ?_), rfl, rfl, rfl, ?_, ?_, ?_⟩
    · have hboundary := seesBoundary_of hdue.taken hslot
      simp only [seesPeriodic, hcount, hlevel]
      exact hboundary
    · show b.ring.occupancy + 1 = _
      rw [hring]
    · show b.ring.fill + 1 = _
      rw [hring]
    · show ((b.ring.descriptors.set b.ring.fill _).get s.ring.fill) = _
      rw [hfilled, Six.get_set, if_pos rfl]
      show readyDescriptor .line (lineBytes level b.peers.flow.changeCycle false _ _) = _
      rw [htaken.peers]
      rfl
  · have hstep := crossingStep_boundary_of_rest hdue hcrossing hrest flow
    have htaken := boundaryTaken_resting cfg hrest.computation interval flow
    have hstation := boundaryTaken_settled (cfg := cfg) (interval := interval) (flow := flow) hsettled
    have hlink := boundaryTaken_link (cfg := cfg) (interval := interval) (flow := flow) hrest.computation (settled_joined hsettled)
    have hslot : (boundaryTaken cfg (crossed interval flow 0 s)).timeBase.takenSlot = 0 := rfl
    rw [boundaryEntered_of_joined (settled_joined hsettled)] at hstep
    generalize boundaryTaken cfg (crossed interval flow 0 s) = b at hstep htaken hstation hlink hslot
    have hstill : (b.peers.flow.request = .none ∧ b.peers.flow.periodCount = 15) ∧ b.peers.flow.confirmed = some level := by
      rw [htaken.peers]
      exact ⟨⟨hnone, hcount⟩, hlevel⟩
    have hsilent : linkSends b.link.state = false := by rw [hlink]; exact hsends
    rw [flowBoundary_periodic hflow (by exact hstation) (by exact hstill.1.1) (by exact hstill.1.2),
      lineRequest_of_silent (level := level) (by exact hstill.2) (by exact hstation) (by exact hstill.1.1) (by exact hsilent)] at hstep
    have hadopted := samplePin_of_adopted (level := level) hflow
      (s := armed 0 (restartPeriod (adoptOwn cfg level (periodCounted (rolled cfg b)))))
      (by exact hstation) (by exact hsilent) (by exact hstill.1.1) (by exact hstill.2) (by rfl) (by rfl)
    have htime := (samplePin_served cfg (armed 0 (restartPeriod (adoptOwn cfg level (periodCounted (rolled cfg b)))))).timeBase
    generalize samplePin cfg (armed 0 (restartPeriod (adoptOwn cfg level (periodCounted (rolled cfg b))))) = t at hstep hadopted htime
    obtain ⟨hrequest, hperiod, x, hconfirmed, hline⟩ := hadopted
    have htakenslot : t.timeBase.takenSlot = 0 := (congrArg TimeBase.takenSlot htime).trans hslot
    refine ⟨crossingCounted t, congrArg Host.Outcome.next (whenSeen_crossing (seen := seesLineTimeout) hstep ?_), hperiod, ?_, hrequest, ?_⟩
    · have hboundary : seesBoundary s (crossingCounted t) = true := seesBoundary_of hdue.taken htakenslot
      have haged : (ageLine cfg s.peers.line).state = .unknown := by
        exact congrArg LineRecord.state (if_pos (by show cfg.lineTimeout ≤ min 255 (s.peers.line.age + 1); omega))
      have hage : (crossingCounted t).peers.line.age = 0 := congrArg LineRecord.age hline
      simp only [seesLineTimeout, adoptsAtTimeout, hdue.active, hboundary, haged, hage, decide_true, Bool.and_true, Bool.or_true,
        decide_eq_true_eq]
      exact hknown
    · exact fun k => nomatch hconfirmed.symm.trans k
    · have hconfirmed' : (crossingCounted t).peers.flow.confirmed = some x := hconfirmed
      refine hline.trans ?_
      rw [lineOfLevel_eq hconfirmed']

/-- A change confirmed at the event of a slot other than 0: a frame given the head's descriptor, a report adopted, or neither in LISTENING. -/
theorem change_reported (cfg : Settings) (slot : Nat) (s : State) (interval : Nat) (flow : Bool) (x : FlowLevel) (hdue : SlotDue cfg slot s)
    (hcrossing : CrossingDue interval s) (hrest : UnitsAtRest s) (hflow : cfg.flowSensing = true)
    (hlevel : x = (if flow then .flowing else .standing)) (hcandidate : s.peers.flow.candidate = some x)
    (hnew : s.peers.flow.confirmed ≠ some x) (hnone : s.peers.flow.request = .none) (hsound : RingSound s) (hwaiting : s.ring.waiting = []) :
    ∃ t : State, exec (.crossing interval flow) s = .next t ∧
      t.peers.flow.confirmed = some x ∧ t.peers.flow.changeCycle = s.timeBase.cycle.setWidth 8 ∧
      t.peers.flow.candidate = none ∧ t.peers.flow.candidateCount = 0 ∧
      (settledState s.supervisor.station = true → linkSends s.link.state = true →
        t.peers.flow.request = .queued ∧ t.peers.flow.carried = some x ∧ t.peers.flow.periodCount = 0 ∧ t.peers.line = s.peers.line ∧
        t.ring.descriptors.get s.ring.fill =
          { state := .ready, reason := none, producer := some .line, cancel := false,
            payload := lineBytes x (s.timeBase.cycle.setWidth 8) true (decide (s.supervisor.station = .held)) s.timeBase.cycle }) ∧
      (settledState s.supervisor.station = true → linkSends s.link.state = false →
        t.peers.flow.request = .none ∧ t.peers.flow.periodCount = 0 ∧
        t.peers.line = { state := if flow then .flowing else .standing, source := some cfg.address, age := 0 }) ∧
      (s.supervisor.station = .listening →
        t.peers.flow.request = .none ∧ t.peers.flow.periodCount = s.peers.flow.periodCount ∧ t.peers.line = s.peers.line ∧
        t.ring.occupancy = s.ring.occupancy) := by
  have hexec := exec_crossing_slot hdue hcrossing flow
  obtain ⟨v, hpoint, hpin, hcycle, hpeers, hlink, hplacement, hstation, m, hring⟩ :=
    atPoint_sampled cfg (slot := slot) hrest.computation interval flow (slot * cfg.slotLen)
  obtain ⟨hzero, hfill, hfree⟩ := hsound.empty hrest.head
  have hsample : flowLevel v.flowPin = x := by rw [hpin, hlevel]; rfl
  have hconfirmed := (samplePin_of_sample hflow (s := v) (sampleFlow_of_second (by rw [hsample, hpeers]; exact hnew)
    (by rw [hsample, hpeers]; exact hcandidate))).trans (if_pos rfl)
  rw [hsample, hcycle, hpeers] at hconfirmed
  rw [hpoint, hconfirmed] at hexec
  have hnorequest : v.placement.request = .none := by rw [hplacement]; exact hrest.request
  have hempty : v.ring.waiting = [] ∧ v.ring.fill = v.ring.head ∧ ∀ i : Index, (v.ring.descriptors.get i).state = .free := by
    rw [hring]
    exact ⟨hwaiting, hfill, hfree⟩
  have hroom : v.ring.occupancy = s.ring.occupancy := by rw [hring]
  by_cases hsettled : settledState s.supervisor.station = true
  · have hother : s.supervisor.station ≠ .listening := settled_joined hsettled
    by_cases hsends : linkSends s.link.state = true
    · rw [lineRequest_of_sending (level := x) (by rfl) (by show settledState v.supervisor.station = true; rw [hstation]; exact hsettled)
        (by exact hnone) (by show linkSends v.link.state = true; rw [hlink]; exact hsends),
        putLine_of_room (by show v.ring.occupancy < 6; omega)] at hexec
      generalize hu : lineFilled true x _ = u at hexec
      have hhead : headDescriptor u.ring =
          readyDescriptor .line (lineBytes x (s.timeBase.cycle.setWidth 8) true (decide (s.supervisor.station = .held)) s.timeBase.cycle) := by
        rw [← hu, ← hstation]
        refine (fillRing_head hempty.2.1).trans ?_
        rw [← hcycle]
        rfl
      have hquiet := slotPoint_pointQuiet (cfg := cfg) slot (s := u) (by
        refine ⟨by rw [← hu]; exact hnorequest, by rw [← hu]; exact hempty.1, .inl ⟨by rw [hhead]; rfl, ?_, ?_⟩⟩
        · rw [← hu]
          show linkSends v.link.state = true
          rw [hlink]
          exact hsends
        · rw [← hu]
          show v.ring.head ≠ nextIndex v.ring.fill
          rw [hempty.2.1]
          simp [nextIndex])
      have hflowpeers : u.peers.flow = { s.peers.flow with
          confirmed := some x, changeCycle := s.timeBase.cycle.setWidth 8, candidate := none, candidateCount := 0, request := .queued,
          carried := some x, periodCount := 0 } ∧ u.peers.line = s.peers.line ∧ u.ring.head = s.ring.head := by
        rw [← hu]
        refine ⟨rfl, rfl, ?_⟩
        show v.ring.head = _
        rw [hring]
      refine ⟨_, hexec, ?_⟩
      show (slotPoint cfg slot u).peers.flow.confirmed = _ ∧ (slotPoint cfg slot u).peers.flow.changeCycle = _ ∧
        (slotPoint cfg slot u).peers.flow.candidate = _ ∧ (slotPoint cfg slot u).peers.flow.candidateCount = _ ∧ _
      rw [hquiet.peers, hflowpeers.1]
      refine ⟨rfl, rfl, rfl, rfl, fun _ _ => ?_, fun _ k => (nomatch hsends.symm.trans k), fun k => absurd k hother⟩
      show (slotPoint cfg slot u).peers.flow.request = _ ∧ (slotPoint cfg slot u).peers.flow.carried = _ ∧
        (slotPoint cfg slot u).peers.flow.periodCount = _ ∧ (slotPoint cfg slot u).peers.line = _ ∧
        (slotPoint cfg slot u).ring.descriptors.get s.ring.fill = _
      rw [hquiet.peers, hflowpeers.1, hfill, ← hflowpeers.2.2]
      refine ⟨rfl, rfl, rfl, hflowpeers.2.1, (hquiet.head (by rw [hhead]; rfl)).trans hhead⟩
    · have hsilent : linkSends s.link.state = false := Bool.eq_false_of_not_eq_true hsends
      rw [lineRequest_of_silent (level := x) (by rfl) (by show settledState v.supervisor.station = true; rw [hstation]; exact hsettled)
        (by exact hnone) (by show linkSends v.link.state = false; rw [hlink]; exact hsilent)] at hexec
      have hquiet := slotPoint_pointQuiet (cfg := cfg) slot (s := restartPeriod (adoptOwn cfg x (v.setPeers { s.peers with flow :=
        { s.peers.flow with confirmed := some x, changeCycle := s.timeBase.cycle.setWidth 8, candidate := none, candidateCount := 0 } })))
        ⟨hnorequest, hempty.1, .inr hempty.2⟩
      generalize hu : slotPoint cfg slot _ = u at hexec hquiet
      refine ⟨_, hexec, ?_⟩
      show u.peers.flow.confirmed = _ ∧ u.peers.flow.changeCycle = _ ∧ u.peers.flow.candidate = _ ∧ u.peers.flow.candidateCount = _ ∧
        (_ → _ → u.peers.flow.request = _ ∧ _) ∧ (_ → _ → u.peers.flow.request = _ ∧ u.peers.flow.periodCount = _ ∧ u.peers.line = _) ∧ _
      rw [hquiet.peers]
      refine ⟨rfl, rfl, rfl, rfl, fun _ k => (nomatch hsilent.symm.trans k), fun _ _ => ⟨hnone, rfl, ?_⟩, fun k => absurd k hother⟩
      show ({ state := lineOfLevel x, source := some cfg.address, age := 0 } : LineRecord) = _
      rw [hlevel]
      cases flow <;> rfl
  · have hunsettled : settledState s.supervisor.station = false := Bool.eq_false_of_not_eq_true hsettled
    rw [lineRequest_of_busy (.inl (by show settledState v.supervisor.station = false; rw [hstation]; exact hunsettled))] at hexec
    have hquiet := slotPoint_pointQuiet (cfg := cfg) slot (s := v.setPeers { s.peers with flow :=
      { s.peers.flow with confirmed := some x, changeCycle := s.timeBase.cycle.setWidth 8, candidate := none, candidateCount := 0 } })
      ⟨hnorequest, hempty.1, .inr hempty.2⟩
    generalize hu : slotPoint cfg slot _ = u at hexec hquiet
    refine ⟨_, hexec, ?_⟩
    show u.peers.flow.confirmed = _ ∧ u.peers.flow.changeCycle = _ ∧ u.peers.flow.candidate = _ ∧ u.peers.flow.candidateCount = _ ∧
      _ ∧ _ ∧ (_ → u.peers.flow.request = _ ∧ u.peers.flow.periodCount = _ ∧ u.peers.line = _ ∧ u.ring.occupancy = _)
    rw [hquiet.peers, hquiet.unsettled (by show settledState v.supervisor.station = false; rw [hstation]; exact hunsettled)]
    exact ⟨rfl, rfl, rfl, rfl, fun k => absurd k hsettled, fun k => absurd k hsettled, fun _ => ⟨hnone, rfl, rfl, hroom⟩⟩

/-- The first report, at the boundary that enters RUNNING. -/
theorem first_report (cfg : Settings) (s : State) (interval : Nat) (flow : Bool) (level : FlowLevel) (hdue : BoundaryDue cfg s)
    (hcrossing : CrossingDue interval s) (hrest : UnitsAtRest s) (hflow : cfg.flowSensing = true) (hlistening : s.supervisor.station = .listening)
    (hbound : cfg.joinCycles ≤ 16) (hjoin : cfg.joinCycles ≤ s.supervisor.joinCount + 1) (hclear : s.supervisor.mainsLost = false)
    (hlevel : s.peers.flow.confirmed = some level) (hnone : s.peers.flow.request = .none) (hroom : s.ring.occupancy < 6) :
    ∃ t : State, exec (.crossing interval flow) s = .next t ∧ t.supervisor.station = .running ∧ t.peers.flow.periodCount = 0 ∧
      (s.link.loopResult = some .passed → s.link.clash = false →
        t.peers.flow.request = .queued ∧ t.peers.flow.carried = some level ∧
        t.ring.descriptors.get s.ring.fill =
          { state := .ready, reason := none, producer := some .line, cancel := false,
            payload := lineBytes level s.peers.flow.changeCycle false false t.timeBase.cycle }) ∧
      (s.link.loopResult ≠ some .passed ∨ s.link.clash = true →
        t.peers.flow.request = .none ∧
        t.peers.line = { state := if t.peers.flow.confirmed = some .flowing then .flowing else .standing,
                         source := some cfg.address, age := 0 }) := by
  have hstep := crossingStep_boundary_of_rest hdue hcrossing hrest flow
  have htaken := boundaryTaken_resting cfg hrest.computation interval flow
  obtain ⟨hrunning, hlink, hentered⟩ := boundaryTaken_join (interval := interval) (flow := flow) hrest.computation hlistening hbound hjoin hclear
  rw [hentered] at hstep
  generalize boundaryTaken cfg (crossed interval flow 0 s) = b at hstep htaken hrunning hlink
  obtain ⟨m, hring⟩ := htaken.ring
  have hsettled : settledState b.supervisor.station = true := by rw [hrunning]; rfl
  have hstill : b.peers.flow.request = .none ∧ b.peers.flow.confirmed = some level := by
    rw [htaken.peers]
    exact ⟨hnone, hlevel⟩
  rw [flowBoundary_entered hflow (by exact hsettled)] at hstep
  by_cases hpassed : s.link.loopResult = some .passed ∧ s.link.clash = false
  · have hactive : linkSends b.link.state = true := by rw [hlink, decideLink, if_pos hpassed]; rfl
    rw [lineRequest_of_sending (level := level) (by exact hstill.2) (by exact hsettled) (by exact hstill.1) (by exact hactive),
      putLine_of_room (by exact (congrArg Ring.occupancy hring).symm ▸ hroom)] at hstep
    obtain ⟨confirmed, changeCycle, candidate, count, hsampled⟩ :=
      samplePin_of_busy hflow (s := armed 0 (lineFilled false level (periodCounted (rolled cfg b)))) (fun k => nomatch k)
    rw [hsampled] at hstep
    refine ⟨_, congrArg Host.Outcome.next hstep, hrunning, rfl, fun _ _ => ⟨rfl, rfl, ?_⟩, fun k => ?_⟩
    · have hfilled : b.ring.fill = s.ring.fill := by rw [hring]
      show ((b.ring.descriptors.set b.ring.fill _).get s.ring.fill) = _
      rw [hfilled, Six.get_set, if_pos rfl]
      show readyDescriptor .line (lineBytes level b.peers.flow.changeCycle false (decide (b.supervisor.station = .held)) _) = _
      rw [htaken.peers, hrunning]
      rfl
    · exact absurd hpassed (by rw [not_and_or, Bool.not_eq_false]; exact k)
  · have hsilent : linkSends b.link.state = false := by rw [hlink, decideLink, if_neg hpassed]; rfl
    rw [lineRequest_of_silent (level := level) (by exact hstill.2) (by exact hsettled) (by exact hstill.1) (by exact hsilent)] at hstep
    have hadopted := samplePin_of_adopted (level := level) hflow
      (s := armed 0 (restartPeriod (adoptOwn cfg level (periodCounted (rolled cfg b)))))
      (by exact hsettled) (by exact hsilent) (by exact hstill.1) (by exact hstill.2) (by rfl) (by rfl)
    have hstation := (samplePin_served cfg (armed 0 (restartPeriod (adoptOwn cfg level (periodCounted (rolled cfg b)))))).supStation
    generalize samplePin cfg (armed 0 (restartPeriod (adoptOwn cfg level (periodCounted (rolled cfg b))))) = t at hstep hadopted hstation
    obtain ⟨hrequest, hperiod, x, hconfirmed, hline⟩ := hadopted
    refine ⟨crossingCounted t, congrArg Host.Outcome.next hstep, hstation.trans hrunning, hperiod, fun k l => absurd ⟨k, l⟩ hpassed,
      fun _ => ⟨hrequest, ?_⟩⟩
    have hconfirmed' : (crossingCounted t).peers.flow.confirmed = some x := hconfirmed
    refine hline.trans ?_
    rw [lineOfLevel_eq hconfirmed']

/-- A station that does not sense flow keeps its flow sender record at every slot-boundary event. -/
theorem unsensed_flow_stands (cfg : Settings) (s : State) (interval : Nat) (flow : Bool)
    (hdue : BoundaryDue cfg s ∨ ∃ slot : Nat, SlotDue cfg slot s) (hcrossing : CrossingDue interval s) (hrest : UnitsAtRest s)
    (hsound : RingSound s) (hwaiting : s.ring.waiting = []) (hflow : cfg.flowSensing = false) :
    ∃ t : State, exec (.crossing interval flow) s = .next t ∧ t.peers.flow = s.peers.flow ∧ t.flowPin = flow := by
  obtain hboundary | ⟨slot, hslot⟩ := hdue
  · have hpin := (slotEvent_eventKept cfg true 0 (crossed interval flow 0 s)).flowPin
    have hstep := crossingStep_boundary_of_rest hboundary hcrossing hrest flow
    have htaken := boundaryTaken_resting cfg hrest.computation interval flow
    rw [crossingStep_boundary hboundary hcrossing flow, flowBoundary_of_unsensed hflow, samplePin_of_unsensed hflow] at hstep
    refine ⟨_, congrArg Host.Outcome.next (crossingStep_boundary hboundary hcrossing flow), ?_, hpin⟩
    rw [hstep]
    show (boundaryTaken cfg (crossed interval flow 0 s)).peers.flow = _
    rw [htaken.peers]
  · have hpin := (slotEvent_eventKept cfg true slot (crossed interval flow (slot * cfg.slotLen) s)).flowPin
    rw [slotEvent_of_slot cfg true (Nat.ne_of_gt hslot.range.1)] at hpin
    have hstill := atPoint_still hflow (slot := slot) (.inr hrest.computation) interval flow (slot * cfg.slotLen)
    have hexec := exec_crossing_slot hslot hcrossing flow
    generalize atPoint cfg slot (crossed interval flow (slot * cfg.slotLen) s) = u at hstill hexec hpin
    obtain ⟨-, hfill, hfree⟩ := hsound.empty hrest.head
    have hring : u.ring = { s.ring with mailbox := if s.ring.mailbox = .offered then .empty else s.ring.mailbox } :=
      hstill.ring.trans (expireMailbox_eq s.ring)
    have hquiet := slotPoint_pointQuiet (cfg := cfg) (s := u) slot (by
      refine ⟨by rw [hstill.placement]; exact hrest.request, ?_, .inr ?_⟩ <;> rw [hring]
      · exact hwaiting
      · exact ⟨hfill, hfree⟩)
    refine ⟨_, hexec, ?_, hpin⟩
    show (slotPoint cfg slot u).peers.flow = _
    rw [hquiet.peers, hstill.peers]

/-- Settles O11: the sample by the level it finds, and the three reports at the events of the slots. -/
theorem flowSenderReportsItsLevel : Obligations.FlowSenderReportsItsLevel := by
  unfold Obligations.FlowSenderReportsItsLevel
  exact ⟨fun x now f => ⟨sampleFlow_of_equal, sampleFlow_of_other, sampleFlow_of_second⟩, change_reported, first_report, unsensed_flow_stands⟩

end Sys2Proof.Proofs.FlowReports

/-! PROOFS. The completion of a frame that stands alone in the ring: its service, and what its producer takes of it (R83 to R87, R114, R160,
R161, R192). -/

namespace Sys2Proof.Machine

/-! ### The ring about a head alone (R158, R161) -/

/-- One descriptor is occupied, nothing waits, and the descriptor after the head is FREE. -/
structure HeadAlone (r : Ring) : Prop where
  occupancy : r.occupancy = 1
  waiting : r.waiting = []
  next : (r.descriptors.get (r.head + 1)).state = .free

/-- The ring after the release of a head that stood alone. -/
def freedAlone (r : Ring) : Ring := { r with descriptors := r.descriptors.set r.head Descriptor.freed, head := r.head + 1, occupancy := 0 }

theorem Index.succ_ne (i : Index) : i + 1 ≠ i := by simp

theorem Six.set_set {α : Type} (v : Six α) (i : Index) (x y : α) : (v.set i x).set i y = v.set i y :=
  Six.ext_get fun j => by
    simp only [Six.get_set]
    split <;> rfl

theorem freedAlone_setDescriptor (r : Ring) (d : Descriptor) : freedAlone (setDescriptor r r.head d) = freedAlone r := by
  simp only [freedAlone, setDescriptor, Six.set_set]

theorem HeadAlone.setHead {r : Ring} (h : HeadAlone r) (d : Descriptor) : HeadAlone (setDescriptor r r.head d) where
  occupancy := h.occupancy
  waiting := h.waiting
  next := by
    show ((r.descriptors.set r.head d).get (r.head + 1)).state = .free
    rw [Six.get_set, if_neg (Index.succ_ne _), h.next]

theorem headDescriptor_setHead (r : Ring) (d : Descriptor) : headDescriptor (setDescriptor r r.head d) = d := by
  rw [headDescriptor, setDescriptor, Six.get_set, if_pos rfl]

theorem freedAlone_head {r : Ring} (h : HeadAlone r) : (headDescriptor (freedAlone r)).state = .free := by
  show ((r.descriptors.set r.head _).get (r.head + 1)).state = .free
  rw [Six.get_set, if_neg (Index.succ_ne _), h.next]

theorem releaseHead_alone {s : State} (h : HeadAlone s.ring) : releaseHead s = s.setRing (freedAlone s.ring) := by
  obtain ⟨-, hreleased⟩ | ⟨w, ws, hwaits, -⟩ := releaseHead_cases s
  · rw [hreleased, freeHead, freedAlone, h.occupancy]
    rfl
  · exact (nomatch h.waiting.symm.trans hwaits)

/-! ### The service of a completed head (R160, R161) -/

theorem serviceOnce_of_done {cfg : Settings} {s : State} (h : (headDescriptor s.ring).state = .doneOk ∨ (headDescriptor s.ring).state = .doneFail) :
    serviceOnce cfg s = takeHead cfg (headDescriptor s.ring) s := by
  obtain h | h := h <;> simp only [serviceOnce, h]

/-- One piece of service, after which the head stands. -/
theorem serviceHead_once {cfg : Settings} {s t : State} (h : serviceOnce cfg s = some t) (hstands : serviceOnce cfg t = none) :
    serviceHead cfg s = t := (serviceSteps_of_some h 23).trans (serviceSteps_of_none hstands 23)

theorem serviceHead_place {cfg : Settings} {s : State} (halone : HeadAlone s.ring)
    (hdone : (headDescriptor s.ring).state = .doneOk ∨ (headDescriptor s.ring).state = .doneFail)
    (hproducer : (headDescriptor s.ring).producer = some .place) (hcomputation : s.placement.computation = none) :
    serviceHead cfg s = (takePlace cfg s.ring.head (headDescriptor s.ring) s).setRing (freedAlone s.ring) := by
  obtain ⟨-, hring, -, -⟩ := takePlace_exchanged cfg s.ring.head (headDescriptor s.ring) s
  have hunused : mapInUse s.placement = false := by rw [mapInUse, hcomputation]; rfl
  refine serviceHead_once ?_ (serviceOnce_of_free (freedAlone_head halone))
  rw [serviceOnce_of_done hdone, takeHead, hproducer]
  simp only [hunused, Bool.false_eq_true, if_false]
  rw [releaseHead_alone (by rw [hring]; exact halone), hring]

theorem serviceHead_status {cfg : Settings} {s : State} (halone : HeadAlone s.ring)
    (hdone : (headDescriptor s.ring).state = .doneOk ∨ (headDescriptor s.ring).state = .doneFail)
    (hproducer : (headDescriptor s.ring).producer = some .status) :
    serviceHead cfg s = (takeStatus (headDescriptor s.ring) s).setRing (freedAlone s.ring) := by
  obtain ⟨hring, -, -⟩ := takeStatus_same (headDescriptor s.ring) s
  refine serviceHead_once ?_ (serviceOnce_of_free (freedAlone_head halone))
  rw [serviceOnce_of_done hdone, takeHead, hproducer]
  simp only
  rw [releaseHead_alone (by rw [hring]; exact halone), hring]

/-- The LINE completion of a head alone, before a new change request. -/
def lineReleased (cfg : Settings) (s : State) : State :=
  (clearLine (adoptCompleted cfg (headDescriptor s.ring) s)).setRing (freedAlone s.ring)

theorem serviceOnce_line {cfg : Settings} {s : State} (halone : HeadAlone s.ring)
    (hdone : (headDescriptor s.ring).state = .doneOk ∨ (headDescriptor s.ring).state = .doneFail)
    (hproducer : (headDescriptor s.ring).producer = some .line) :
    serviceOnce cfg s = some (if s.peers.flow.confirmed ≠ s.peers.flow.carried then lineRequest cfg true (lineReleased cfg s)
      else lineReleased cfg s) := by
  obtain ⟨hring, -, -⟩ := clearLine_same cfg (headDescriptor s.ring) s
  rw [serviceOnce_of_done hdone, takeHead, hproducer]
  simp only [takeLine, lineReleased]
  rw [releaseHead_alone (by rw [hring]; exact halone), hring]

theorem serviceHead_line_kept {cfg : Settings} {s : State} (halone : HeadAlone s.ring)
    (hdone : (headDescriptor s.ring).state = .doneOk ∨ (headDescriptor s.ring).state = .doneFail)
    (hproducer : (headDescriptor s.ring).producer = some .line) (hkept : s.peers.flow.confirmed = s.peers.flow.carried) :
    serviceHead cfg s = lineReleased cfg s :=
  serviceHead_once ((serviceOnce_line halone hdone hproducer).trans (congrArg some (if_neg (not_not_intro hkept))))
    (serviceOnce_of_free (freedAlone_head halone))

/-- A confirmed level that has moved on is requested at once, in the descriptor that is now the head (R114). -/
theorem serviceHead_line_moved {cfg : Settings} {s : State} {level : FlowLevel} (halone : HeadAlone s.ring)
    (hdone : (headDescriptor s.ring).state = .doneOk ∨ (headDescriptor s.ring).state = .doneFail)
    (hproducer : (headDescriptor s.ring).producer = some .line) (hlevel : s.peers.flow.confirmed = some level)
    (hmoved : s.peers.flow.confirmed ≠ s.peers.flow.carried) (hsettled : settledState s.supervisor.station = true)
    (hsends : linkSends s.link.state = true) (hfill : s.ring.fill = s.ring.head + 1) :
    serviceHead cfg s = lineFilled true level (lineReleased cfg s) := by
  obtain ⟨hring, hlink, -⟩ := clearLine_same cfg (headDescriptor s.ring) s
  have hpeers : (lineReleased cfg s).peers.flow.confirmed = some level ∧ (lineReleased cfg s).peers.flow.request = .none ∧
      (lineReleased cfg s).supervisor = s.supervisor := by
    rw [← hlevel]
    simp only [lineReleased, clearLine, adoptCompleted]
    split <;> exact ⟨rfl, rfl, rfl⟩
  have hsends' : linkSends (lineReleased cfg s).link.state = true := by
    have hkept : (lineReleased cfg s).link = s.link := hlink
    rw [hkept]
    exact hsends
  have hfilled : lineRequest cfg true (lineReleased cfg s) = lineFilled true level (lineReleased cfg s) := by
    rw [lineRequest_of_sending hpeers.1 (by rw [hpeers.2.2]; exact hsettled) hpeers.2.1 hsends']
    exact putLine_of_room (by show 0 < 6; decide)
  refine serviceHead_once ((serviceOnce_line halone hdone hproducer).trans (congrArg some ((if_pos hmoved).trans hfilled))) ?_
  refine serviceOnce_of_ready ?_ hsends'
  exact congrArg Descriptor.state (fillRing_head (r := freedAlone s.ring) hfill)

/-! ### What the placement unit takes of its completion (R83 to R87) -/

theorem takePlace_off {cfg : Settings} {i : Index} {d : Descriptor} {s : State} (h : requestOn i s.placement.request = false) :
    takePlace cfg i d s = s := if_neg (by rw [h]; exact Bool.false_ne_true)

theorem yieldIdle_of_passing {cfg : Settings} {s : State} (h : yieldFails cfg s.placement.map = false) : yieldIdle cfg s = s := by
  rw [yieldIdle, h, Bool.and_false, if_neg Bool.false_ne_true]

theorem takePlace_ok {cfg : Settings} {i : Index} {d : Descriptor} {s : State} (hon : requestOn i s.placement.request = true)
    (hreason : d.reason = none) : takePlace cfg i d s = takePlaceOk cfg s := by
  simp only [takePlace, hon, if_true, hreason]

theorem takePlace_fail {cfg : Settings} {i : Index} {d : Descriptor} {s : State} {reason : FailReason}
    (hon : requestOn i s.placement.request = true) (hreason : d.reason = some reason) :
    takePlace cfg i d s = takePlaceFail cfg reason s := by
  simp only [takePlace, hon, if_true, hreason]

theorem takePlaceOk_after {cfg : Settings} {s : State} (h : 28 ≤ s.timeBase.takenSlot) :
    takePlaceOk cfg s = s.setPlacement (countSent s.placement) := if_pos (decide_eq_true h)

theorem takePlaceOk_before {cfg : Settings} {s : State} (h : s.timeBase.takenSlot < 28)
    (hpasses : yieldFails cfg (announce (countSent s.placement)).map = false) :
    takePlaceOk cfg s = s.setPlacement (announce (countSent s.placement)) :=
  (if_neg (by rw [afterFreeze, decide_eq_false (Nat.not_le.mpr h)]; exact Bool.false_ne_true)).trans (yieldIdle_of_passing hpasses)

theorem takePlaceFail_cancelled {cfg : Settings} {s : State} (h : s.timeBase.takenSlot < 28) :
    takePlaceFail cfg .cancelled s = beginComputation cfg (s.setPlacement (returnAnnounced (endRequest .cancelled s.placement))) :=
  (if_neg (by rw [afterFreeze, decide_eq_false (Nat.not_le.mpr h)]; exact Bool.false_ne_true)).trans (if_pos rfl)

theorem takePlaceFail_before {cfg : Settings} {s : State} {reason : FailReason} (h : s.timeBase.takenSlot < 28) (hreason : reason ≠ .cancelled)
    (hpasses : ∀ x : Announced, s.placement.announced = some x → yieldFails cfg (setOwn x.runs x.order s.placement.map) = false) :
    takePlaceFail cfg reason s = s.setPlacement (returnAnnounced (endRequest reason s.placement)) := by
  refine (if_neg (by rw [afterFreeze, decide_eq_false (Nat.not_le.mpr h)]; exact Bool.false_ne_true)).trans ((if_neg hreason).trans ?_)
  show (if s.placement.announced.isSome then _ else _) = _
  cases hannounced : s.placement.announced with
  | none => exact if_neg (by rw [Option.isSome_none]; exact Bool.false_ne_true)
  | some x =>
    refine (if_pos rfl).trans (yieldIdle_of_passing ?_)
    show yieldFails cfg (returnAnnounced (endRequest reason s.placement)).map = false
    have hannounced' : (endRequest reason s.placement).announced = some x := hannounced
    rw [returnAnnounced, hannounced']
    exact hpasses x hannounced

theorem returnAnnounced_eq (p : PlacementUnit) : returnAnnounced p = { p with map := match p.announced with
    | none => p.map
    | some x => setOwn x.runs x.order p.map } := by
  obtain ⟨_, _, _, _, _, announced⟩ := p
  cases announced <;> rfl

/-- A cancelled PLACE frame of a RUNNING station ends its request, and a recompute begins (R83, R86). -/
theorem takePlace_cancelled {cfg : Settings} {i : Index} {d : Descriptor} {s : State} (hon : requestOn i s.placement.request = true)
    (hreason : d.reason = some .cancelled) (hslot : s.timeBase.takenSlot < 28) (hstation : s.supervisor.station = .running)
    (hcomputation : s.placement.computation = none) : ∃ c : Computation, takePlace cfg i d s = s.setPlacement
      { returnAnnounced (endRequest .cancelled s.placement) with computation := some c } := by
  have hnone : (returnAnnounced (endRequest .cancelled s.placement)).computation = none := by
    rw [returnAnnounced_eq]
    exact hcomputation
  exact ⟨_, (takePlace_fail hon hreason).trans ((takePlaceFail_cancelled hslot).trans
    (beginComputation_begun (.inl hstation) (by exact hnone)))⟩

end Sys2Proof.Machine

/-! PROOFS. The end of an own attempt: what it counts, and what it completes (R83 to R87, R113, R114, R138, R139, R141, R145, R146, R161, R192). -/

namespace Sys2Proof.Machine

/-! ### The error counts at a station that sends (R146, R150) -/

/-- The link state that an evaluation gives below the detachment count (R150). -/
def stateFor (tec recv : Nat) (state : LinkState) : LinkState :=
  if 96 ≤ tec ∨ 96 ≤ recv then .passive else if tec ≤ 80 ∧ recv ≤ 80 then .active else state

theorem stateFor_sends {tec recv : Nat} {state : LinkState} (h : linkSends state = true) : linkSends (stateFor tec recv state) = true := by
  unfold stateFor
  split
  · rfl
  · split
    · rfl
    · exact h

theorem evalLink_of_low {l : Link} (hsends : linkSends l.state = true) (htec : l.tec < 192) :
    evalLink l = { l with state := stateFor l.tec l.recv l.state } := by
  rw [evalLink, if_pos hsends, if_neg (Nat.not_le.mpr htec), stateFor]
  split
  · rfl
  · split <;> rfl

theorem tecDown_of_sends {l : Link} (hsends : linkSends l.state = true) (htec : l.tec < 192) :
    tecDown l = { l with tec := l.tec - 1, state := stateFor (l.tec - 1) l.recv l.state } := by
  rw [tecDown, if_pos hsends]
  exact evalLink_of_low hsends (Nat.lt_of_le_of_lt (Nat.sub_le _ _) htec)

theorem tecUp_of_low {l : Link} (hsends : linkSends l.state = true) (htec : l.tec < 188) :
    tecUp l = { l with tec := l.tec + 4, state := stateFor (l.tec + 4) l.recv l.state } := by
  have hcount : saturate 255 (l.tec + 4) = l.tec + 4 := Nat.min_eq_right (by omega)
  rw [tecUp, if_pos hsends, hcount]
  exact evalLink_of_low hsends (by show l.tec + 4 < 192; omega)

/-- The failure that brings TEC to 192 detaches the link (R150, R151). -/
theorem tecUp_of_high {l : Link} (hsends : linkSends l.state = true) (htec : 188 ≤ l.tec) :
    tecUp l = { l with tec := min 255 (l.tec + 4), state := .detached, quietRun := 0, quietCount := 0 } := by
  rw [tecUp, if_pos hsends, evalLink]
  exact (if_pos hsends).trans (if_pos (by show 192 ≤ min 255 (l.tec + 4); omega))

/-! ### The frame in hand completed (R145, R161, R166) -/

theorem exec_attemptEnd {cfg : Settings} {s : State} {a : Attempt} (hactive : activeSettings s = some cfg) (hattempt : s.link.attempt = some a)
    (bits : List Bool) : exec (.attemptEnd (.sampled bits)) s = .next (attemptBits cfg bits a s) := by
  show Host.Outcome.next (whenActive s _) = _
  rw [whenActive_of_active hactive, hattempt]
  rfl

/-- A descriptor with the outcome of its frame. -/
def completedAs (reason : Option FailReason) (d : Descriptor) : Descriptor :=
  { d with state := if reason = none then .doneOk else .doneFail, reason := reason }

theorem completedAs_done (reason : Option FailReason) (d : Descriptor) :
    (completedAs reason d).state = .doneOk ∨ (completedAs reason d).state = .doneFail := by
  unfold completedAs
  split
  · exact .inl rfl
  · exact .inr rfl

theorem completeInHand_ring {reason : Option FailReason} {s : State} (h : s.link.inHand = some .ring) :
    completeInHand reason s =
      (s.setRing (setDescriptor s.ring s.ring.head (completedAs reason (headDescriptor s.ring)))).setLink
        { s.link with inHand := none, attempt := none } := by
  simp only [completeInHand, h]
  rfl

theorem completeInHand_mailbox {reason : Option FailReason} {s : State} (h : s.link.inHand = some .mailbox) :
    completeInHand reason s =
      (s.setRing { s.ring with mailbox := .empty }).setLink { s.link with inHand := none, attempt := none } := by
  simp only [completeInHand, h]
  rfl

/-- What the completion of a head alone leaves to its producer: the descriptor with its outcome, and no frame in hand. -/
structure HeadCompleted (reason : Option FailReason) (s u : State) : Prop where
  head : headDescriptor u.ring = completedAs reason (headDescriptor s.ring)
  index : u.ring.head = s.ring.head
  fill : u.ring.fill = s.ring.fill
  alone : HeadAlone u.ring
  freed : freedAlone u.ring = freedAlone s.ring

theorem completeInHand_completed {reason : Option FailReason} {s : State} (h : s.link.inHand = some .ring) (halone : HeadAlone s.ring) :
    HeadCompleted reason s (completeInHand reason s) := by
  rw [completeInHand_ring h]
  exact ⟨headDescriptor_setHead _ _, rfl, rfl, halone.setHead _, freedAlone_setDescriptor _ _⟩

theorem HeadCompleted.done {reason : Option FailReason} {s u : State} (h : HeadCompleted reason s u) :
    (headDescriptor u.ring).state = .doneOk ∨ (headDescriptor u.ring).state = .doneFail := by
  rw [h.head]
  exact completedAs_done _ _

theorem HeadCompleted.producer {reason : Option FailReason} {s u : State} (h : HeadCompleted reason s u) :
    (headDescriptor u.ring).producer = (headDescriptor s.ring).producer := by
  rw [h.head]
  rfl

/-! ### A success (R139, R145, R146) -/

/-- The state in which a frame sent whole completes. -/
def succeeded (s : State) : State :=
  let s1 := leaveFrame false false (s.setLink (tecDown s.link))
  s1.setLink { s1.link with tracking := .idle 0 }

theorem attemptBits_success {cfg : Settings} {s : State} {a : Attempt} {bits : List Bool}
    (h : txCompare a.sent (a.samples ++ bits) = .success []) :
    attemptBits cfg bits a s = serviceHead cfg (completeInHand none (succeeded s)) := by
  simp only [attemptBits, h]
  rfl

/-- A success at a station that sends changes the link, and drops the timestamp. -/
theorem succeeded_eq {s : State} (hsends : linkSends s.link.state = true) (htec : s.link.tec < 192) : ∃ state : LinkState,
    linkSends state = true ∧
    succeeded s = (s.setTimeBase { s.timeBase with timestamp := none }).setLink { s.link with
      tec := s.link.tec - 1, state := state, tracking := .idle 0, attempt := none, reception := none, ackDriven := false,
      rejectDriven := false } := by
  refine ⟨_, stateFor_sends (tec := s.link.tec - 1) (recv := s.link.recv) hsends, ?_⟩
  simp only [succeeded, tecDown_of_sends hsends htec]
  rfl

theorem HeadAlone.of {r : Ring} (hoccupancy : r.occupancy = 1) (hwaiting : r.waiting = [])
    (hnext : r.descriptors.get (r.head + 1) = Descriptor.freed) : HeadAlone r := ⟨hoccupancy, hwaiting, by rw [hnext]; rfl⟩

/-- The state in which a ring frame sent whole is left to its producer. -/
def sentWhole (state : LinkState) (s : State) : State :=
  ((s.setTimeBase { s.timeBase with timestamp := none }).setRing
    (setDescriptor s.ring s.ring.head (completedAs none (headDescriptor s.ring)))).setLink { s.link with
      tec := s.link.tec - 1, state := state, tracking := .idle 0, inHand := none, attempt := none, reception := none,
      ackDriven := false, rejectDriven := false }

/-- ATTEMPT_END with success of a ring frame that stands alone: its head is served. -/
theorem exec_success_ring {cfg : Settings} {s : State} {a : Attempt} {bits : List Bool} (hactive : activeSettings s = some cfg)
    (hattempt : s.link.attempt = some a) (hhand : s.link.inHand = some .ring) (hsends : linkSends s.link.state = true)
    (htec : s.link.tec < 192) (halone : HeadAlone s.ring) (hsuccess : txCompare a.sent (a.samples ++ bits) = .success []) :
    ∃ state : LinkState, linkSends state = true ∧ HeadCompleted none s (sentWhole state s) ∧
      exec (.attemptEnd (.sampled bits)) s = .next (serviceHead cfg (sentWhole state s)) := by
  obtain ⟨state, hstate, hsucceeded⟩ := succeeded_eq hsends htec
  have hcompleted := completeInHand_completed (reason := none) (s := succeeded s) (by rw [hsucceeded]; exact hhand)
    (by rw [hsucceeded]; exact halone)
  have hwhole : completeInHand none (succeeded s) = sentWhole state s := by
    rw [hsucceeded, completeInHand_ring (by exact hhand)]
    rfl
  rw [hwhole, hsucceeded] at hcompleted
  refine ⟨state, hstate, ⟨hcompleted.head, hcompleted.index, hcompleted.fill, hcompleted.alone, hcompleted.freed⟩, ?_⟩
  rw [exec_attemptEnd hactive hattempt, attemptBits_success hsuccess, hwhole]

/-- The LINE completion of a head whose report is known (R114). -/
theorem lineReleased_eq {cfg : Settings} {s : State} {level : FlowLevel}
    (h : adoptedLevel (headDescriptor s.ring) s.peers.flow = some level) :
    lineReleased cfg s = (s.setPeers { s.peers with
      line := { state := lineOfLevel level, source := some cfg.address, age := 0 }
      flow := { s.peers.flow with request := .none, carried := none } }).setRing (freedAlone s.ring) := by
  simp only [lineReleased, adoptCompleted, h]
  rfl

theorem lineOfLevel_ite (x : FlowLevel) : lineOfLevel x = if x = .flowing then .flowing else .standing := by cases x <;> rfl

end Sys2Proof.Machine

namespace Sys2Proof.Proofs.AttemptSuccess
open Sys2Proof.Machine

/-- Settles O44: the frame of each producer, from the state in which it completes. -/
theorem successfulAttemptCompletesTheFrame : Obligations.SuccessfulAttemptCompletesTheFrame := by
  unfold Obligations.SuccessfulAttemptCompletesTheFrame
  refine ⟨?_, ?_, ?_, ?_⟩
  · intro cfg s a bits hactive hattempt hhand hsends htec hsuccess hhead
    obtain ⟨state, hstate, hsucceeded⟩ := succeeded_eq hsends htec
    have hexec := exec_attemptEnd hactive hattempt bits
    have hmailbox : (succeeded s).link.inHand = some .mailbox := by rw [hsucceeded]; exact hhand
    rw [attemptBits_success hsuccess, completeInHand_mailbox hmailbox, hsucceeded, serviceHead_of_standing] at hexec
    · exact ⟨_, hexec, rfl, rfl, rfl, rfl, rfl, rfl, rfl, rfl, rfl, rfl⟩
    · obtain h | h | h := hhead
      · exact serviceOnce_of_free h
      · exact serviceOnce_of_ready h hstate
      · exact serviceOnce_of_sending h
  · intro cfg s a bits hactive hattempt hhand _ hproducer hsends htec hcomputation hrequest hoccupancy hwaiting hnext hpasses hsuccess
    obtain ⟨state, -, hcompleted, hexec⟩ := exec_success_ring hactive hattempt hhand hsends htec (.of hoccupancy hwaiting hnext) hsuccess
    have hon : requestOn s.ring.head s.placement.request = true := by
      obtain h | h := hrequest <;> rw [h] <;> exact decide_eq_true rfl
    rw [serviceHead_place hcompleted.alone hcompleted.done (hcompleted.producer.trans hproducer) (by exact hcomputation), hcompleted.freed,
      hcompleted.index, hcompleted.head, takePlace_ok (by exact hon) (by rfl)] at hexec
    by_cases hslot : s.timeBase.takenSlot < 28
    · rw [takePlaceOk_before (by exact hslot) (by exact hpasses)] at hexec
      exact ⟨_, hexec, rfl, rfl, rfl, rfl, fun _ => rfl, fun k => absurd hslot (Nat.not_lt.mpr k), rfl, rfl, rfl, rfl⟩
    · rw [takePlaceOk_after (by exact Nat.not_lt.mp hslot)] at hexec
      exact ⟨_, hexec, rfl, rfl, rfl, rfl, fun k => absurd k hslot, fun _ => rfl, rfl, rfl, rfl, rfl⟩
  · intro cfg s a bits carried confirmed hactive hattempt hhand _ _ hproducer hsends htec hsettled hoccupancy hwaiting hfill hnext hcarried
      hconfirmed hsuccess
    obtain ⟨state, hstate, hcompleted, hexec⟩ :=
      exec_success_ring hactive hattempt hhand hsends htec (.of hoccupancy hwaiting hnext) hsuccess
    have hadopted : adoptedLevel (headDescriptor (sentWhole state s).ring) (sentWhole state s).peers.flow = some carried := by
      rw [hcompleted.head]
      exact hcarried
    have hfreed : (s.ring.descriptors.set s.ring.head Descriptor.freed).get s.ring.head = Descriptor.freed := Six.get_set_same _ _ _
    by_cases hsame : confirmed = carried
    · rw [serviceHead_line_kept hcompleted.alone hcompleted.done (hcompleted.producer.trans hproducer)
        (by show s.peers.flow.confirmed = s.peers.flow.carried; rw [hconfirmed, hcarried, hsame]), lineReleased_eq hadopted,
        hcompleted.freed] at hexec
      exact ⟨_, hexec, rfl, hfreed, rfl, rfl, rfl, rfl, by rw [← lineOfLevel_ite]; rfl, hconfirmed, fun _ => ⟨rfl, rfl⟩,
        fun k => absurd hsame k⟩
    · rw [serviceHead_line_moved hcompleted.alone hcompleted.done (hcompleted.producer.trans hproducer) (level := confirmed) (by exact hconfirmed)
        (by show s.peers.flow.confirmed ≠ s.peers.flow.carried; rw [hconfirmed, hcarried]; exact fun k => hsame (Option.some.inj k))
        (by exact hsettled) (by exact hstate) (by exact hfill), lineReleased_eq hadopted, hcompleted.freed] at hexec
      have hother : ∀ d : Descriptor, ((s.ring.descriptors.set s.ring.head Descriptor.freed).set s.ring.fill d).get s.ring.head =
          Descriptor.freed := fun d => by
        rw [Six.get_set, if_neg (by rw [hfill]; exact (Index.succ_ne _).symm), hfreed]
      have hfilled : ∀ d : Descriptor, ((s.ring.descriptors.set s.ring.head Descriptor.freed).set s.ring.fill d).get (s.ring.head + 1) = d :=
        fun d => by rw [← hfill, Six.get_set_same]
      exact ⟨_, hexec, rfl, hother _, rfl, rfl, rfl, rfl, by rw [← lineOfLevel_ite]; rfl, hconfirmed, fun k => absurd k hsame,
        fun _ => ⟨rfl, rfl, hfilled _⟩⟩
  · intro cfg s a bits hactive hattempt hhand _ _ hproducer hsends htec hoccupancy hwaiting hnext hsuccess
    obtain ⟨state, -, hcompleted, hexec⟩ := exec_success_ring hactive hattempt hhand hsends htec (.of hoccupancy hwaiting hnext) hsuccess
    rw [serviceHead_status hcompleted.alone hcompleted.done (hcompleted.producer.trans hproducer), hcompleted.freed, hcompleted.head] at hexec
    exact ⟨_, hexec, rfl, Six.get_set_same _ _ _, rfl, rfl, rfl, rfl, rfl, rfl, hwaiting, rfl, rfl, rfl, rfl, rfl⟩

end Sys2Proof.Proofs.AttemptSuccess

/-! PROOFS. Failed attempts: what they count, what keeps the frame in hand, and what the fourth failure and a recorded cancel end (R83, R86, R114,
R128, R138, R139, R141, R145, R146, R150, R192). -/

namespace Sys2Proof.Machine

/-! ### What becomes of a ring frame at a failure (R145) -/

/-- The tries of a ring frame counted. -/
def failureCounted (ackError : Bool) (s : State) : State :=
  s.setLink { s.link with ringTries := countFailure ackError s.link.ringTries }

theorem triesInHand_ring {l : Link} (h : l.inHand = some .ring) : triesInHand l = l.ringTries := by
  rw [triesInHand, h]
  rfl

theorem setTries_ring {l : Link} (h : l.inHand = some .ring) (t : Tries) : setTries t l = { l with ringTries := t } := by
  rw [setTries, h]
  rfl

/-- What an attached station does with the frame in hand, its tries counted. -/
def settledBy (cfg : Settings) (tries : Tries) (s : State) : State :=
  if cancelRecordedInHand s then serviceHead cfg (completeInHand (some .cancelled) s)
  else if 4 ≤ tries.count then serviceHead cfg (completeInHand (some (if tries.noAck then .noAck else .errors)) s)
  else s.setLink { s.link with attempt := none }

theorem settleFailure_ring {cfg : Settings} {ackError : Bool} {s : State} (hhand : s.link.inHand = some .ring)
    (hattached : s.link.state ≠ .detached) :
    settleFailure cfg ackError s =
      if (headDescriptor s.ring).cancel = true then serviceHead cfg (completeInHand (some .cancelled) (failureCounted ackError s))
      else if 3 ≤ s.link.ringTries.count then
        serviceHead cfg (completeInHand (some (if s.link.ringTries.noAck && ackError then .noAck else .errors)) (failureCounted ackError s))
      else (failureCounted ackError s).setLink { (failureCounted ackError s).link with attempt := none } := by
  have hset : s.setLink (setTries (countFailure ackError (triesInHand s.link)) s.link) = failureCounted ackError s := by
    rw [triesInHand_ring hhand, setTries_ring hhand]
    rfl
  have hcancel : cancelRecordedInHand (failureCounted ackError s) = (headDescriptor s.ring).cancel := by
    show (decide (s.link.inHand = some .ring) && _) = _
    rw [hhand, decide_eq_true rfl, Bool.true_and]
    rfl
  have hbranches : settleFailure cfg ackError s = settledBy cfg (countFailure ackError (triesInHand s.link))
      (s.setLink (setTries (countFailure ackError (triesInHand s.link)) s.link)) := if_neg hattached
  rw [hbranches, hset, settledBy, hcancel, triesInHand_ring hhand]
  refine if_congr Iff.rfl rfl (if_congr ?_ rfl rfl)
  exact Nat.succ_le_succ_iff

/-! ### The failures by their kind (R138, R139, R141) -/

/-- A frame's end at a station that leaves it, with the outcome of its attempt still to settle. -/
theorem attemptBits_endReject {cfg : Settings} {s : State} {a : Attempt} {bits : List Bool}
    (h : txCompare a.sent (a.samples ++ bits) = .endReject []) :
    attemptBits cfg bits a s = settleFailure cfg false (leaveFrame false false (s.setLink (tecUp s.link))) := by
  simp only [attemptBits, h]
  rfl

/-- The count of an acknowledge error: none while PASSIVE (R146). -/
def ackCounted (s : State) : State := if s.link.state = .active then s.setLink (tecUp s.link) else s

theorem attemptBits_ackError {cfg : Settings} {s : State} {a : Attempt} {bits : List Bool}
    (h : txCompare a.sent (a.samples ++ bits) = .ackError []) :
    attemptBits cfg bits a s =
      settleFailure cfg true (leaveFrame false (decide ((ackCounted s).link.state = .active)) (ackCounted s)) := by
  simp only [attemptBits, h]
  rfl

theorem attemptBits_bitError {cfg : Settings} {s : State} {a : Attempt} {bits : List Bool}
    (h : txCompare a.sent (a.samples ++ bits) = .bitError []) :
    attemptBits cfg bits a s =
      if (tecUp s.link).state = .active then settleFailure cfg false (leaveFrame false true (s.setLink (tecUp s.link)))
      else settleFailure cfg false (s.setLink { tecUp s.link with
        tracking := .inFrame (a.samples ++ bits).length, reception := some { bits := a.samples ++ bits, mute := true, ack := none } }) := by
  have hseen : (a.samples ++ bits).take ((a.samples ++ bits).length - ([] : List Bool).length) = a.samples ++ bits := List.take_length
  simp only [attemptBits, h, bitErrorEnd, hseen]
  rfl

/-- The link of a station after an acknowledge error, which counts while it is ACTIVE alone. -/
theorem ackCounted_cases {s : State} (hsends : linkSends s.link.state = true) (htec : s.link.tec < 188) :
    (s.link.state = .active ∧
      ackCounted s = s.setLink { s.link with tec := s.link.tec + 4, state := stateFor (s.link.tec + 4) s.link.recv .active }) ∨
    (s.link.state = .passive ∧ ackCounted s = s) := by
  unfold ackCounted
  by_cases hactive : s.link.state = .active
  · rw [if_pos hactive, tecUp_of_low hsends htec, hactive]
    exact .inl ⟨rfl, rfl⟩
  · rw [if_neg hactive]
    refine .inr ⟨?_, rfl⟩
    cases hstate : s.link.state
    case active => exact absurd hstate hactive
    case passive => rfl
    case detached | listenOnly => rw [hstate] at hsends; exact nomatch hsends

theorem attached_of_sends {x : LinkState} (h : linkSends x = true) : x ≠ .detached := fun e => by rw [e] at h; exact nomatch h

/-- A ring frame with a failure behind it, in the state that is left to its producer: the end of the frame at the station, and the outcome of
the frame. -/
def givenUp (reason : FailReason) (tec : Nat) (state : LinkState) (tries : Tries) (tracking : Tracking) (reject : Bool) (s : State) : State :=
  ((s.setTimeBase { s.timeBase with timestamp := none }).setRing
    (setDescriptor s.ring s.ring.head (completedAs (some reason) (headDescriptor s.ring)))).setLink { s.link with
      tec := tec, state := state, ringTries := tries, tracking := tracking, inHand := none, attempt := none, reception := none,
      ackDriven := false, rejectDriven := reject }

theorem givenUp_completed {reason : FailReason} {tec : Nat} {state : LinkState} {tries : Tries} {tracking : Tracking} {reject : Bool} {s : State}
    (halone : HeadAlone s.ring) : HeadCompleted (some reason) s (givenUp reason tec state tries tracking reject s) :=
  ⟨headDescriptor_setHead _ _, rfl, rfl, halone.setHead _, freedAlone_setDescriptor _ _⟩

/-- ATTEMPT_END with a failure seen after the Check, of a ring frame that it ends: by a recorded cancel, or as the fourth failure. -/
theorem exec_failure_ring {cfg : Settings} {s : State} {a : Attempt} {bits : List Bool} (hactive : activeSettings s = some cfg)
    (hattempt : s.link.attempt = some a) (hhand : s.link.inHand = some .ring) (hsends : linkSends s.link.state = true)
    (htec : s.link.tec < 188)
    (hends : (headDescriptor s.ring).cancel = true ∨ s.link.ringTries.count = 3)
    (hfailure : txCompare a.sent (a.samples ++ bits) = .endReject [] ∨ txCompare a.sent (a.samples ++ bits) = .ackError []) :
    ∃ (tec : Nat) (state : LinkState) (tries : Tries) (tracking : Tracking) (reject : Bool),
      (txCompare a.sent (a.samples ++ bits) = .endReject [] → tec = s.link.tec + 4) ∧
      exec (.attemptEnd (.sampled bits)) s = .next (serviceHead cfg (givenUp
        (if (headDescriptor s.ring).cancel = true then .cancelled
          else if s.link.ringTries.noAck = true ∧ txCompare a.sent (a.samples ++ bits) = .ackError [] then .noAck else .errors)
        tec state tries tracking reject s)) := by
  have hended : ∀ (ackError : Bool) (u : State), u.link.inHand = some .ring → u.link.state ≠ .detached → u.ring = s.ring →
      u.link.ringTries = s.link.ringTries → settleFailure cfg ackError u = serviceHead cfg (completeInHand (some
        (if (headDescriptor s.ring).cancel = true then .cancelled
          else if s.link.ringTries.noAck && ackError then .noAck else .errors)) (failureCounted ackError u)) := by
    intro ackError u hring hattached hsame htries
    rw [settleFailure_ring hring hattached, hsame, htries]
    obtain hcancel | hcount := hends
    · rw [if_pos hcancel, if_pos hcancel]
    · split
      · rfl
      · rw [if_pos (Nat.le_of_eq hcount.symm)]
  obtain hreject | hack := hfailure
  · refine ⟨s.link.tec + 4, stateFor (s.link.tec + 4) s.link.recv s.link.state, countFailure false s.link.ringTries, .waitingIdle 0, false,
      fun _ => rfl, ?_⟩
    have hlink := tecUp_of_low hsends htec
    rw [exec_attemptEnd hactive hattempt, attemptBits_endReject hreject, hlink,
      hended _ _ (by exact hhand) (by exact attached_of_sends (stateFor_sends hsends)) (by rfl) (by rfl), completeInHand_ring (by exact hhand)]
    simp only [hreject, reduceCtorEq, and_false, if_false, Bool.and_false, Bool.false_eq_true]
    rfl
  · have hreason : (s.link.ringTries.noAck && true) = true ↔
        (s.link.ringTries.noAck = true ∧ txCompare a.sent (a.samples ++ bits) = .ackError []) := by simp [hack]
    rw [exec_attemptEnd hactive hattempt, attemptBits_ackError hack]
    obtain ⟨-, hcounted⟩ | ⟨hpassive, hcounted⟩ := ackCounted_cases hsends htec
    · rw [hcounted, hended _ _ (by exact hhand) (by exact attached_of_sends (stateFor_sends (by rfl))) (by rfl) (by rfl),
        completeInHand_ring (by exact hhand)]
      simp only [hreason]
      exact ⟨_, _, _, _, _, fun k => (nomatch hack.symm.trans k), rfl⟩
    · rw [hcounted, hended _ _ (by exact hhand) (by exact attached_of_sends hsends) (by rfl) (by rfl), completeInHand_ring (by exact hhand)]
      simp only [hreason]
      exact ⟨s.link.tec, s.link.state, _, _, _, fun k => (nomatch hack.symm.trans k), rfl⟩

end Sys2Proof.Machine

namespace Sys2Proof.Proofs.AttemptFailure
open Sys2Proof.Machine

/-- Settles O45: the failure by its kind, and the frame that it ends by its producer. -/
theorem failedAttemptCountsAndEnds : Obligations.FailedAttemptCountsAndEnds := by
  unfold Obligations.FailedAttemptCountsAndEnds
  refine ⟨?_, ?_, ?_, ?_⟩
  · intro cfg s a bits hactive hattempt hhand _ hcancel hsends htec hcount hfailure
    have hkept : ∀ (ackError : Bool) (u : State), u.link.inHand = some .ring → u.link.state ≠ .detached → u.ring = s.ring →
        u.link.ringTries = s.link.ringTries → settleFailure cfg ackError u =
          (failureCounted ackError u).setLink { (failureCounted ackError u).link with attempt := none } := by
      intro ackError u hring hattached hsame htries
      rw [settleFailure_ring hring hattached, hsame, htries, hcancel, if_neg Bool.false_ne_true, if_neg (Nat.not_le.mpr hcount)]
    have hexec := exec_attemptEnd hactive hattempt bits
    have hlink := tecUp_of_low hsends htec
    have hattached := attached_of_sends (stateFor_sends (tec := s.link.tec + 4) (recv := s.link.recv) hsends)
    obtain hreject | hack | hbit := hfailure
    · rw [attemptBits_endReject hreject, hlink, hkept _ _ (by exact hhand) (by exact hattached) (by rfl) (by rfl)] at hexec
      refine ⟨_, hexec, ?_⟩
      simp [hreject, failureCounted, leaveFrame, countFailure, stateFor, hhand]
    · rw [attemptBits_ackError hack] at hexec
      obtain ⟨hstate, hcounted⟩ | ⟨hstate, hcounted⟩ := ackCounted_cases hsends htec
      · rw [hcounted, hkept _ _ (by exact hhand) (by exact attached_of_sends (stateFor_sends (by rfl))) (by rfl) (by rfl)] at hexec
        refine ⟨_, hexec, ?_⟩
        simp +contextual [hack, hstate, failureCounted, leaveFrame, countFailure, stateFor, burstBits, hhand]
      · rw [hcounted, hkept _ _ (by exact hhand) (by exact attached_of_sends hsends) (by rfl) (by rfl)] at hexec
        refine ⟨_, hexec, ?_⟩
        simp [hack, hstate, failureCounted, leaveFrame, countFailure, hhand]
    · rw [attemptBits_bitError hbit, hlink] at hexec
      have hspelled : (if 92 ≤ s.link.tec ∨ 96 ≤ s.link.recv then .passive
          else if s.link.tec ≤ 76 ∧ s.link.recv ≤ 80 then .active else s.link.state) =
          stateFor (s.link.tec + 4) s.link.recv s.link.state := by simp [stateFor]
      by_cases hstill : stateFor (s.link.tec + 4) s.link.recv s.link.state = .active
      · rw [if_pos (by exact hstill), hkept _ _ (by exact hhand) (by exact hattached) (by rfl) (by rfl)] at hexec
        refine ⟨_, hexec, ?_⟩
        simp [hbit, failureCounted, leaveFrame, countFailure, burstBits, hhand, hspelled, hstill]
      · rw [if_neg (by exact hstill), hkept _ _ (by exact hhand) (by exact hattached) (by rfl) (by rfl)] at hexec
        refine ⟨_, hexec, ?_⟩
        simp [hbit, failureCounted, countFailure, hhand, hspelled, hstill]
  · intro cfg s a bits hactive hattempt hhand _ hcancel hproducer hsends htec hcount hreject hoccupancy hwaiting hnext
    obtain ⟨tec, state, tries, tracking, reject, hcounted, hexec⟩ :=
      exec_failure_ring hactive hattempt hhand hsends htec (.inr hcount) (.inl hreject)
    simp only [hcancel, hreject, reduceCtorEq, and_false, if_false, Bool.false_eq_true] at hexec
    have hcompleted := givenUp_completed (reason := .errors) (tec := tec) (state := state) (tries := tries) (tracking := tracking)
      (reject := reject) (HeadAlone.of hoccupancy hwaiting hnext)
    rw [serviceHead_status hcompleted.alone hcompleted.done (hcompleted.producer.trans hproducer), hcompleted.freed, hcompleted.head] at hexec
    exact ⟨_, hexec, rfl, rfl, rfl, hcounted hreject, rfl, rfl, rfl, rfl⟩
  · intro cfg s a bits hactive hattempt hhand _ hproducer hsends htec hcomputation hslot hoccupancy hwaiting hnext hfailure
    by_cases hends : (headDescriptor s.ring).cancel = true ∨ s.link.ringTries.count = 3
    · obtain ⟨tec, state, tries, tracking, reject, -, hexec⟩ := exec_failure_ring hactive hattempt hhand hsends htec hends hfailure
      generalize hreason : (if (headDescriptor s.ring).cancel = true then FailReason.cancelled else _) = reason at hexec
      have hcompleted := givenUp_completed (reason := reason) (tec := tec) (state := state) (tries := tries) (tracking := tracking)
        (reject := reject) (HeadAlone.of hoccupancy hwaiting hnext)
      rw [serviceHead_place hcompleted.alone hcompleted.done (hcompleted.producer.trans hproducer) (by exact hcomputation), hcompleted.freed,
        hcompleted.index, hcompleted.head] at hexec
      refine ⟨_, hexec, fun hcancel hrequest hcount hpasses => ?_, fun hcancel hrequest hstation => ?_⟩
      · have hon : requestOn s.ring.head s.placement.request = true := by rw [hrequest]; exact decide_eq_true rfl
        rw [hcancel, if_neg Bool.false_ne_true] at hreason
        have hother : reason ≠ .cancelled := by
          rw [← hreason]
          split <;> exact fun k => nomatch k
        rw [takePlace_fail (by exact hon) (by rfl), takePlaceFail_before (by exact hslot) hother (by exact hpasses), ← hreason]
        refine ⟨?_, rfl, rfl⟩
        show returnAnnounced (endRequest _ s.placement) = _
        rw [returnAnnounced_eq, endRequest, if_neg (by rw [hreason]; exact hother)] <;> rfl
      · have hon : requestOn s.ring.head s.placement.request = true := by rw [hrequest]; exact decide_eq_true rfl
        rw [if_pos hcancel] at hreason
        obtain ⟨c, htaken⟩ := takePlace_cancelled (cfg := cfg) (s := givenUp reason tec state tries tracking reject s)
          (d := completedAs (some reason) (headDescriptor s.ring)) (by exact hon) (by rw [← hreason]; rfl) hslot hstation hcomputation
        rw [htaken, returnAnnounced_eq]
        exact ⟨rfl, rfl, rfl, rfl, rfl, rfl⟩
    · exact ⟨_, exec_attemptEnd hactive hattempt bits, fun _ _ hcount => absurd (.inr hcount) hends,
        fun hcancel => absurd (.inl hcancel) hends⟩
  · intro cfg s a bits level hactive hattempt hhand _ hproducer hcancel hsends htec hcount hoccupancy hwaiting hnext hconfirmed hcarried hreject
    obtain ⟨tec, state, tries, tracking, reject, -, hexec⟩ :=
      exec_failure_ring hactive hattempt hhand hsends htec (.inr hcount) (.inl hreject)
    simp only [hcancel, hreject, reduceCtorEq, and_false, if_false, Bool.false_eq_true] at hexec
    have hcompleted := givenUp_completed (reason := .errors) (tec := tec) (state := state) (tries := tries) (tracking := tracking)
      (reject := reject) (HeadAlone.of hoccupancy hwaiting hnext)
    have hadopted : adoptedLevel (headDescriptor (givenUp .errors tec state tries tracking reject s).ring)
        (givenUp .errors tec state tries tracking reject s).peers.flow = some level := by
      rw [hcompleted.head]
      exact hconfirmed
    rw [serviceHead_line_kept hcompleted.alone hcompleted.done (hcompleted.producer.trans hproducer)
      (by exact hconfirmed.trans hcarried.symm), lineReleased_eq hadopted, hcompleted.freed] at hexec
    exact ⟨_, hexec, by rw [← lineOfLevel_ite]; rfl, rfl, rfl, rfl⟩

end Sys2Proof.Proofs.AttemptFailure

/-! PROOFS. The chance to send, and the attempt that begins there: the frame taken, and the bits that lose arbitration (R16, R134 to R137, R148,
R152, R160, R166). -/

namespace Sys2Proof.Machine

/-! ### Recessive bits and the chance (R135, R148, R152) -/

theorem exec_chanceToSend {cfg : Settings} {s : State} (hactive : activeSettings s = some cfg) (recessive : Nat) (bits : List Bool) :
    exec (.chanceToSend recessive (.sampled bits)) s = .next (chanceStep cfg recessive (.sampled bits) s) :=
  congrArg Host.Outcome.next (whenActive_of_active hactive _)

theorem countRecessive_attached {s : State} {count : Nat} (n : Nat) (hidle : s.link.tracking = .idle count) (hattached : s.link.state ≠ .detached) :
    countRecessive n s = s.setLink { s.link with tracking := .idle (count + n) } := by
  simp only [countRecessive, hidle, if_neg hattached]

/-- Recessive bits short of an interval raise the quiet run (R152). -/
theorem quietBit_recessive {l : Link} (n : Nat) (hdetached : l.state = .detached) (h : l.quietRun + n < 12) :
    (List.replicate n true).foldl quietBit l = { l with quietRun := l.quietRun + n } := by
  induction n generalizing l with
  | zero => rfl
  | succ n ih =>
    have hone : quietBit l true = { l with quietRun := l.quietRun + 1 } := by
      simp only [quietBit, hdetached, if_true, Bool.not_true, Bool.false_eq_true, if_false]
      exact if_pos (by omega)
    rw [List.replicate_succ, List.foldl_cons, hone, ih (by exact hdetached) (by show l.quietRun + 1 + n < 12; omega)]
    rw [Nat.add_comm n 1, ← Nat.add_assoc]

theorem countRecessive_detached {s : State} {count : Nat} (n : Nat) (hidle : s.link.tracking = .idle count) (hdetached : s.link.state = .detached)
    (h : s.link.quietRun + n < 12) :
    countRecessive n s = s.setLink { s.link with tracking := .idle (count + n), quietRun := s.link.quietRun + n } := by
  simp only [countRecessive, hidle, if_pos hdetached]
  exact congrArg s.setLink (quietBit_recessive (l := { s.link with tracking := .idle (count + n) }) n hdetached h)

/-- The wait of 3 or 11 recessive bits is over (R135). -/
def ChanceDue (state : LinkState) (count : Nat) : Prop := (state = .active ∧ 3 ≤ count) ∨ (state = .passive ∧ 11 ≤ count)

theorem ChanceDue.sends {state : LinkState} {count : Nat} (h : ChanceDue state count) : linkSends state = true := by
  obtain ⟨rfl, -⟩ | ⟨rfl, -⟩ := h <;> rfl

theorem atChance_idle (l : Link) (count : Nat) : atChance { l with tracking := .idle count } = true ↔ ChanceDue l.state count := by
  unfold ChanceDue
  cases l.state <;> simp [atChance, waitBefore]

/-- At a chance the bits of the command go to the frame taken in hand. -/
theorem chanceStep_due {cfg : Settings} {s : State} {count recessive : Nat} {bits : List Bool} (hidle : s.link.tracking = .idle count)
    (hdue : ChanceDue s.link.state (count + recessive)) {u : State}
    (htaken : takeInHand cfg (s.setLink { s.link with tracking := .idle (count + recessive) }) = u) :
    chanceStep cfg recessive (.sampled bits) s = if u.link.attempt.isSome then firstBits cfg bits u else u := by
  have hchance := (atChance_idle s.link (count + recessive)).mpr hdue
  simp only [chanceStep, countRecessive_attached recessive hidle (attached_of_sends hdue.sends)]
  refine (if_pos hchance).trans ?_
  rw [htaken]
  rfl

theorem chanceStep_undue {cfg : Settings} {s : State} {recessive : Nat} {bits : List Bool}
    (h : atChance (countRecessive recessive s).link = false) : chanceStep cfg recessive (.sampled bits) s = countRecessive recessive s :=
  if_neg (by rw [h]; exact Bool.false_ne_true)

/-! ### The frame taken in hand (R136, R160, R166) -/

theorem takeInHand_mailbox {cfg : Settings} {s : State} (h : s.ring.mailbox ≠ .empty) : takeInHand cfg s = sendTime cfg s := if_neg h

theorem takeInHand_ring {cfg : Settings} {s : State} {p : Producer} (h : s.ring.mailbox = .empty)
    (hproducer : (headDescriptor s.ring).producer = some p)
    (hstate : (headDescriptor s.ring).state = .ready ∨ (headDescriptor s.ring).state = .sending) :
    takeInHand cfg s = sendRing cfg p (headDescriptor s.ring) s := by
  simp only [takeInHand, if_pos h, hproducer, if_pos hstate]

theorem takeInHand_nothing {cfg : Settings} {s : State} (h : s.ring.mailbox = .empty)
    (hhead : (headDescriptor s.ring).producer = none ∨
      ((headDescriptor s.ring).state ≠ .ready ∧ (headDescriptor s.ring).state ≠ .sending)) : takeInHand cfg s = s := by
  simp only [takeInHand, if_pos h]
  obtain hnone | hstate := hhead
  · rw [hnone]
  · cases (headDescriptor s.ring).producer with
    | none => rfl
    | some p => exact if_neg (not_or.mpr hstate)

theorem txCompare_nil (sent : List SentBit) : txCompare sent [] = .pending := by cases sent <;> rfl

theorem firstBits_nil {cfg : Settings} {s : State} {sent : List SentBit} (h : s.link.attempt = some { sent := sent, samples := [] }) :
    firstBits cfg [] s = s.setLink { s.link with tracking := .inFrame 0, attempt := some { sent := sent, samples := [] } } := by
  simp only [firstBits, h, txCompare_nil]
  rfl

theorem firstBits_lost {cfg : Settings} {s : State} {a : Attempt} {bits rest : List Bool} (h : s.link.attempt = some a)
    (hlost : txCompare a.sent bits = .lost rest) : firstBits cfg bits s = loseArbitration cfg bits s := by
  simp only [firstBits, h, hlost]

/-! ### Lost arbitration (R137, R145) -/

/-- The frame that a station receives from the bits it has sampled; it has found no error in them (R137, R140). -/
theorem takeRxBits_opened {l : Link} (h : linkSends l.state = true) (bits : List Bool) :
    takeRxBits l bits Reception.opened = { bits := bits, mute := false, ack := (ackTail bits).map fun _ => true } := by
  have hkept : ∀ bits : List Bool, bits.foldl quietBit l = l := fun bits => by
    induction bits with
    | nil => rfl
    | cons b bits ih =>
      have hone : quietBit l b = l := if_neg (attached_of_sends h)
      rw [List.foldl_cons, hone, ih]
  have hack : ∀ rx : Reception, rx.mute = false → acknowledges rx l = true := fun rx hmute => by
    rw [acknowledges, h, hmute]
    rfl
  simp only [takeRxBits, Reception.opened, List.nil_append, hkept, hack]
  cases ackTail bits <;> rfl

/-- The link of a station that goes on receiving the frame of another. -/
def lostTo (samples : List Bool) (s : State) : State :=
  s.setLink { s.link with
    tracking := .inFrame samples.length, attempt := none, reception := some (takeRxBits s.link samples Reception.opened) }

theorem loseArbitration_kept {cfg : Settings} {s : State} {samples : List Bool} (h : s.link.inHand ≠ some .ring ∨ (headDescriptor s.ring).cancel = false) :
    loseArbitration cfg samples s = lostTo samples s := by
  refine if_neg ?_
  show ¬(decide (s.link.inHand = some .ring) && (headDescriptor s.ring).cancel) = true
  obtain h | h := h
  · rw [decide_eq_false h, Bool.false_and]
    exact Bool.false_ne_true
  · rw [h, Bool.and_false]
    exact Bool.false_ne_true

theorem loseArbitration_cancelled {cfg : Settings} {s : State} {samples : List Bool} (h : s.link.inHand = some .ring)
    (hcancel : (headDescriptor s.ring).cancel = true) :
    loseArbitration cfg samples s = serviceHead cfg (completeInHand (some .cancelled) (lostTo samples s)) := by
  refine if_pos ?_
  show (decide (s.link.inHand = some .ring) && (headDescriptor s.ring).cancel) = true
  rw [h, hcancel]
  rfl

end Sys2Proof.Machine

namespace Sys2Proof.Proofs.ChanceToSend
open Sys2Proof.Machine

/-- Settles O43: the recessive bits counted, and the frame taken at the chance. -/
theorem chanceToSendTakesAFrame : Obligations.ChanceToSendTakesAFrame := by
  unfold Obligations.ChanceToSendTakesAFrame
  refine ⟨fun cfg s count recessive hactive hidle hdue hmailbox => ?_, fun cfg s count recessive hactive hidle => ⟨?_, ?_, ?_, ?_⟩⟩
  · rw [exec_chanceToSend hactive, chanceStep_due hidle hdue (takeInHand_mailbox hmailbox)]
    refine congrArg Host.Outcome.next ((if_pos (by rfl)).trans ((firstBits_nil (by rfl)).trans ?_))
    rfl
  · intro p hdue hmailbox hproducer hstate
    rw [exec_chanceToSend hactive, chanceStep_due hidle hdue (takeInHand_ring (by exact hmailbox) (by exact hproducer) (by exact hstate))]
    refine congrArg Host.Outcome.next ((if_pos (by rfl)).trans ((firstBits_nil (by rfl)).trans ?_))
    rfl
  · intro hsends hnone hmailbox hhead
    rw [exec_chanceToSend hactive]
    by_cases hdue : ChanceDue s.link.state (count + recessive)
    · rw [chanceStep_due hidle hdue (takeInHand_nothing (by exact hmailbox) (by exact hhead))]
      exact congrArg Host.Outcome.next (if_neg (by show ¬s.link.attempt.isSome = true; rw [hnone]; exact Bool.false_ne_true))
    · have hcounted := countRecessive_attached recessive hidle (attached_of_sends hsends)
      rw [chanceStep_undue (by rw [hcounted]; exact Bool.eq_false_of_not_eq_true fun k => hdue ((atChance_idle _ _).mp k)), hcounted]
      rfl
  · intro hshort
    have hattached : s.link.state ≠ .detached := by
      obtain ⟨h, -⟩ | ⟨h, -⟩ := hshort <;> rw [h] <;> exact fun k => nomatch k
    have hundue : ¬ChanceDue s.link.state (count + recessive) := by
      rintro (⟨h, hcount⟩ | ⟨h, hcount⟩) <;> simp only [h, reduceCtorEq, true_and, false_and, or_false, false_or] at hshort <;> omega
    have hcounted := countRecessive_attached recessive hidle hattached
    rw [exec_chanceToSend hactive,
      chanceStep_undue (by rw [hcounted]; exact Bool.eq_false_of_not_eq_true fun k => hundue ((atChance_idle _ _).mp k)), hcounted]
    rfl
  · rintro (hstate | ⟨hstate, hrun⟩)
    · have hcounted := countRecessive_attached recessive hidle (by rw [hstate]; exact fun k => nomatch k)
      have hundue : ¬ChanceDue s.link.state (count + recessive) := fun k => by
        have := k.sends
        rw [hstate] at this
        exact nomatch this
      rw [exec_chanceToSend hactive,
        chanceStep_undue (by rw [hcounted]; exact Bool.eq_false_of_not_eq_true fun k => hundue ((atChance_idle _ _).mp k)), hcounted,
        if_neg (by rw [hstate]; exact fun k => nomatch k)]
      rfl
    · have hcounted := countRecessive_detached recessive hidle hstate hrun
      rw [exec_chanceToSend hactive, chanceStep_undue (by rw [hcounted]; simp [atChance, waitBefore, hstate]), hcounted, if_pos hstate]
      rfl

end Sys2Proof.Proofs.ChanceToSend

/-! PROOFS. The end of an own attempt by its bits, arbitration lost, and the failure that detaches the link (R86, R118, R119, R136 to R140, R145,
R151, R164). -/

namespace Sys2Proof.Machine

/-! ### An attempt by its bits (R137 to R139) -/

theorem txCompare_map (ss : List SentBit) (xs : List Bool) (rest : List SentBit) :
    txCompare (ss ++ rest) (ss.map SentBit.level ++ xs) = txCompare rest xs := by
  induction ss with
  | nil => rfl
  | cons b ss ih => simpa [txCompare] using ih

theorem txCompare_differs (b : SentBit) (post : List SentBit) (xs : List Bool) :
    txCompare (b :: post) ((!b.level) :: xs) = if b.arbitration = true ∧ b.level = true then .lost xs else .bitError xs := by
  rw [txCompare, if_neg (by cases b.level <;> simp)]
  exact if_congr (by simp) rfl rfl

theorem txCompare_whole (sent : List SentBit) (xs : List Bool) : txCompare sent (sent.map SentBit.level ++ xs) = txCompare [] xs := by
  simpa using txCompare_map sent xs []

theorem txEnd_rejected {k n : Nat} (h : n < k) (xs : List Bool) : txEnd k (List.replicate n true ++ false :: xs) = .endReject xs := by
  induction n generalizing k with
  | zero =>
    obtain ⟨k, rfl⟩ := Nat.exists_eq_succ_of_ne_zero (Nat.ne_of_gt h)
    rfl
  | succ n ih =>
    obtain ⟨k, rfl⟩ := Nat.exists_eq_succ_of_ne_zero (Nat.ne_of_gt (Nat.lt_of_le_of_lt (Nat.zero_le _) h))
    exact ih (Nat.lt_of_succ_lt_succ h)

/-- The arbitration bits of a stuffed part are its first data bits (R119, R137). -/
theorem stuffBits_arbitration (d : List Bool) (v : Bool) (n arb : Nat) :
    ((stuffBits v n arb d).filter SentBit.arbitration).map SentBit.level = d.take arb := by
  induction d generalizing v n arb with
  | nil =>
    rw [stuffBits]
    split <;> simp
  | cons b bs ih =>
    rw [stuffBits]
    split <;> cases arb <;> simp [ih]

/-! ### A link that has left the line (R86, R151, R164) -/

/-- A ring under a link that cannot send: nothing waits, and no descriptor is READY or SENDING. -/
structure Unsent (r : Ring) : Prop where
  waiting : r.waiting = []
  failed : ∀ i : Index, (r.descriptors.get i).state ≠ .ready ∧ (r.descriptors.get i).state ≠ .sending

theorem Unsent.set {r : Ring} (h : Unsent r) (i : Index) {d : Descriptor} (hd : d.state ≠ .ready ∧ d.state ≠ .sending) (j : Index) :
    ((r.descriptors.set i d).get j).state ≠ .ready ∧ ((r.descriptors.set i d).get j).state ≠ .sending := by
  rw [Six.get_set]
  split
  · exact hd
  · exact h.failed j

/-- What the service of the head keeps while the link cannot send. -/
structure UnsentKept (s t : State) : Prop where
  link : t.link = s.link
  ring : Unsent t.ring
  mailbox : t.ring.mailbox = s.ring.mailbox
  ended : s.placement.request = .none → t.placement.request = .none ∧ t.placement.lastFailure = s.placement.lastFailure

theorem UnsentKept.trans {s t u : State} (h : UnsentKept s t) (k : UnsentKept t u) : UnsentKept s u where
  link := k.link.trans h.link
  ring := k.ring
  mailbox := k.mailbox.trans h.mailbox
  ended hnone :=
    have hs := h.ended hnone
    have ht := k.ended hs.1
    ⟨ht.1, ht.2.trans hs.2⟩

/-- A completion taken with the ring and the link as they were, and its head released. -/
theorem releaseHead_unsentKept {s t : State} (h : Unsent s.ring) (hring : t.ring = s.ring) (hlink : t.link = s.link)
    (hended : s.placement.request = .none → t.placement.request = .none ∧ t.placement.lastFailure = s.placement.lastFailure) :
    UnsentKept s (releaseHead t) := by
  obtain ⟨-, hreleased⟩ | ⟨w, ws, hwaits, -⟩ := releaseHead_cases t
  · rw [hreleased, hring]
    exact ⟨hlink, ⟨h.waiting, h.set _ ⟨fun k => (nomatch k), fun k => (nomatch k)⟩⟩, rfl, hended⟩
  · rw [hring] at hwaits
    exact (nomatch h.waiting.symm.trans hwaits)

/-- A LINE request at a link that cannot send leaves the ring, the link and the placement unit. -/
theorem lineRequest_unsent (cfg : Settings) (change : Bool) {s : State} (h : linkSends s.link.state = false) :
    (lineRequest cfg change s).ring = s.ring ∧ (lineRequest cfg change s).link = s.link ∧
      (lineRequest cfg change s).placement = s.placement := by
  unfold lineRequest
  split
  · exact ⟨rfl, rfl, rfl⟩
  · split
    · rw [h]
      exact ⟨rfl, rfl, rfl⟩
    · exact ⟨rfl, rfl, rfl⟩

theorem takeHead_unsentKept {cfg : Settings} {s t : State} (hsends : linkSends s.link.state = false) (h : Unsent s.ring)
    (htaken : takeHead cfg (headDescriptor s.ring) s = some t) : UnsentKept s t := by
  unfold takeHead at htaken
  split at htaken
  · cases htaken
    exact releaseHead_unsentKept h rfl rfl fun k => ⟨k, rfl⟩
  · split at htaken
    · cases htaken
    · cases htaken
      obtain ⟨-, hring, hlink, -⟩ := takePlace_exchanged cfg s.ring.head (headDescriptor s.ring) s
      refine releaseHead_unsentKept h hring hlink fun k => ?_
      rw [takePlace_off (by rw [k]; rfl)]
      exact ⟨k, rfl⟩
  · cases htaken
    obtain ⟨hring, hlink, hplacement⟩ := clearLine_same cfg (headDescriptor s.ring) s
    have hreleased := releaseHead_unsentKept h hring hlink fun k => by rw [hplacement]; exact ⟨k, rfl⟩
    simp only [takeLine]
    split
    · obtain ⟨hring', hlink', hplacement'⟩ := lineRequest_unsent cfg true (s := releaseHead (clearLine (adoptCompleted cfg _ s)))
        (by rw [hreleased.link]; exact hsends)
      exact hreleased.trans ⟨hlink', by rw [hring']; exact hreleased.ring, by rw [hring'], by rw [hplacement']; exact fun k => ⟨k, rfl⟩⟩
    · exact hreleased
  · cases htaken
    obtain ⟨hring, hlink, hplacement⟩ := takeStatus_same (headDescriptor s.ring) s
    exact releaseHead_unsentKept h hring hlink fun k => by rw [hplacement]; exact ⟨k, rfl⟩

theorem serviceOnce_unsentKept {cfg : Settings} {s t : State} (hsends : linkSends s.link.state = false) (h : Unsent s.ring)
    (hserved : serviceOnce cfg s = some t) : UnsentKept s t := by
  have hfailed : ∀ reason : FailReason, UnsentKept s
      (s.setRing (setDescriptor s.ring s.ring.head (failDescriptor reason (headDescriptor s.ring)))) := fun reason =>
    ⟨rfl, ⟨h.waiting, h.set _ ⟨fun k => (nomatch k), fun k => (nomatch k)⟩⟩, rfl, fun k => ⟨k, rfl⟩⟩
  simp only [serviceOnce] at hserved
  split at hserved
  case h_1 | h_2 => cases hserved
  case h_3 hstate => exact absurd hstate (h.failed _).1
  case h_4 =>
    cases hserved
    exact hfailed .cancelled
  case h_5 | h_6 => exact takeHead_unsentKept hsends h hserved

theorem serviceSteps_unsentKept {cfg : Settings} (n : Nat) {s : State} (hsends : linkSends s.link.state = false) (h : Unsent s.ring) :
    UnsentKept s (serviceSteps cfg n s) := by
  induction n generalizing s with
  | zero => exact ⟨rfl, h, rfl, fun k => ⟨k, rfl⟩⟩
  | succ n ih =>
    cases hserved : serviceOnce cfg s with
    | none =>
      rw [serviceSteps_of_none hserved]
      exact ⟨rfl, h, rfl, fun k => ⟨k, rfl⟩⟩
    | some t =>
      rw [serviceSteps_of_some hserved]
      have hkept := serviceOnce_unsentKept hsends h hserved
      exact hkept.trans (ih (by rw [hkept.link]; exact hsends) hkept.ring)

theorem detachRing_unsent {r : Ring} (h : r.waiting = []) : Unsent (detachRing r) := by
  refine ⟨h, fun i => ?_⟩
  have hget : (detachRing r).descriptors.get i = detachDescriptor (r.descriptors.get i) := Six.get_map _ _ i
  rw [hget]
  simp only [detachDescriptor]
  split
  case h_1 | h_2 => exact ⟨fun k => (nomatch k), fun k => (nomatch k)⟩
  all_goals rename_i hstate; rw [hstate]; exact ⟨fun k => (nomatch k), fun k => (nomatch k)⟩

theorem yieldIdle_request (cfg : Settings) (s : State) :
    (yieldIdle cfg s).placement.request = s.placement.request ∧ (yieldIdle cfg s).placement.lastFailure = s.placement.lastFailure := by
  have hbegun : ∀ t : State, (beginComputation cfg t).placement.request = t.placement.request ∧
      (beginComputation cfg t).placement.lastFailure = t.placement.lastFailure := fun t => by
    rw [beginComputation]
    split <;> exact ⟨rfl, rfl⟩
  rw [yieldIdle]
  split
  · rw [yieldUnrequested]
    split
    · exact hbegun s
    · split
      · exact hbegun s
      · exact ⟨rfl, rfl⟩
  · exact ⟨rfl, rfl⟩

/-- A failure of the line ends the request with its reason, before the freeze and after it (R86, R87). -/
theorem takePlaceFail_ended {cfg : Settings} {reason : FailReason} (hreason : reason ≠ .cancelled) (s : State) :
    (takePlaceFail cfg reason s).placement.request = .none ∧ (takePlaceFail cfg reason s).placement.lastFailure = some reason := by
  have hended : (endRequest reason s.placement).request = .none ∧ (endRequest reason s.placement).lastFailure = some reason :=
    ⟨rfl, if_neg hreason⟩
  have hreturned : (returnAnnounced (endRequest reason s.placement)).request = .none ∧
      (returnAnnounced (endRequest reason s.placement)).lastFailure = some reason := by
    rw [returnAnnounced_eq]
    exact hended
  simp only [takePlaceFail, if_neg hreason]
  split
  · exact hended
  · split
    · obtain ⟨hrequest, hlast⟩ := yieldIdle_request cfg (s.setPlacement (returnAnnounced (endRequest reason s.placement)))
      exact ⟨hrequest.trans hreturned.1, hlast.trans hreturned.2⟩
    · exact hreturned

/-- The failure at the End field that brings TEC to 192 (R145, R151). -/
theorem attemptBits_detaches {cfg : Settings} {s : State} {a : Attempt} {bits : List Bool} (hsends : linkSends s.link.state = true)
    (htec : 188 ≤ s.link.tec) (h : txCompare a.sent (a.samples ++ bits) = .endReject []) : ∃ (ringTries timeTries : Tries),
    attemptBits cfg bits a s = serviceHead cfg (((s.setTimeBase { s.timeBase with timestamp := none }).setRing (detachRing s.ring)).setLink
      { s.link with
        tec := min 255 (s.link.tec + 4), state := .detached, quietRun := 0, quietCount := 0, ringTries := ringTries, timeTries := timeTries,
        tracking := .waitingIdle 0, inHand := none, attempt := none, reception := none, ackDriven := false, rejectDriven := false }) := by
  have htries : ∀ (t : Tries) (l : Link), ∃ (ringTries timeTries : Tries),
      setTries t l = { l with ringTries := ringTries, timeTries := timeTries } := fun t l => by
    rw [setTries]
    split
    · exact ⟨l.ringTries, t, rfl⟩
    · exact ⟨t, l.timeTries, rfl⟩
  obtain ⟨ringTries, timeTries, hset⟩ := htries (countFailure false (triesInHand
    (leaveFrame false false (s.setLink (tecUp s.link))).link)) (leaveFrame false false (s.setLink (tecUp s.link))).link
  refine ⟨ringTries, timeTries, ?_⟩
  rw [attemptBits_endReject h]
  simp only [settleFailure]
  rw [hset, tecUp_of_high hsends htec]
  rfl

end Sys2Proof.Machine

namespace Sys2Proof.Proofs.AttemptCourse
open Sys2Proof.Machine

/-- A head SENDING with the own PLACE frame ends with reason DETACHED when the link leaves the line. -/
theorem place_ends_detached {cfg : Settings} {s : State} (hsends : linkSends s.link.state = false) (hring : Unsent s.ring)
    (hhead : (headDescriptor s.ring).state = .doneFail) (hreason : (headDescriptor s.ring).reason = some .detached)
    (hproducer : (headDescriptor s.ring).producer = some .place) (hrequest : s.placement.request = .queued s.ring.head)
    (hcomputation : s.placement.computation = none) :
    (serviceHead cfg s).placement.lastFailure = some .detached ∧ (serviceHead cfg s).placement.request = .none := by
  have hon : requestOn s.ring.head s.placement.request = true := by rw [hrequest]; exact decide_eq_true rfl
  have hunused : mapInUse s.placement = false := by rw [mapInUse, hcomputation]; rfl
  obtain ⟨-, hring', hlink', -⟩ := takePlace_exchanged cfg s.ring.head (headDescriptor s.ring) s
  have htaken : serviceOnce cfg s = some (releaseHead (takePlace cfg s.ring.head (headDescriptor s.ring) s)) := by
    rw [serviceOnce_of_done (.inr hhead), takeHead, hproducer]
    simp only [hunused, Bool.false_eq_true, if_false]
  have hkept := serviceOnce_unsentKept hsends hring htaken
  have hended : (releaseHead (takePlace cfg s.ring.head (headDescriptor s.ring) s)).placement.request = .none ∧
      (releaseHead (takePlace cfg s.ring.head (headDescriptor s.ring) s)).placement.lastFailure = some .detached := by
    obtain ⟨-, hreleased⟩ | ⟨w, ws, hwaits, -⟩ := releaseHead_cases (takePlace cfg s.ring.head (headDescriptor s.ring) s)
    · rw [hreleased, takePlace_fail hon hreason]
      exact takePlaceFail_ended (reason := .detached) (cfg := cfg) (fun k => nomatch k) s
    · rw [hring'] at hwaits
      exact (nomatch hring.waiting.symm.trans hwaits)
  have hrest := (serviceSteps_unsentKept (cfg := cfg) 23 (by rw [hkept.link]; exact hsends) hkept.ring).ended hended.1
  rw [serviceHead, serviceSteps_of_some htaken]
  exact ⟨hrest.2.trans hended.2, hrest.1⟩

/-- Settles O46: the attempt compared bit by bit, arbitration lost with and without a cancel, and the detachment. -/
theorem lostArbitrationAndDetachment : Obligations.LostArbitrationAndDetachment := by
  unfold Obligations.LostArbitrationAndDetachment
  refine ⟨fun sent xs => ⟨?_, ?_, ?_, ?_, ?_⟩, ?_, ?_, ?_⟩
  · rintro pre post b rfl
    rw [txCompare_map]
    exact txCompare_differs b post xs
  · exact txCompare_whole sent (true :: xs)
  · intro n hn
    exact (txCompare_whole sent _).trans (txEnd_rejected hn xs)
  · exact txCompare_whole sent _
  · intro kind source group payload
    have hfirst : frameData kind source group payload = (natBits 3 kind ++ natBits 6 source) ++ (natBits 4 group ++ (natBits 6 payload.length ++
        (payload.flatMap byteBits ++ natBits 16 (checkBits (frameFields kind source group payload)).toNat))) := by
      simp [frameData, frameFields]
    have hnine : (natBits 3 kind ++ natBits 6 source).length = 9 := rfl
    rw [sentBits, stuffBits_arbitration, hfirst, ← hnine, List.take_left]
  · intro cfg s count recessive bits rest p hactive hidle hdue hmailbox hproducer hstate hcancel hlost
    rw [exec_chanceToSend hactive, chanceStep_due hidle hdue (takeInHand_ring (by exact hmailbox) (by exact hproducer) (by exact hstate))]
    refine congrArg Host.Outcome.next ((if_pos (by rfl)).trans ((firstBits_lost (by rfl) hlost).trans
      ((loseArbitration_kept (.inr ?_)).trans ?_)))
    · exact (congrArg Descriptor.cancel (headDescriptor_setHead s.ring _)).trans hcancel
    · rw [lostTo, takeRxBits_opened (by exact ChanceDue.sends hdue)]
      rfl
  · intro cfg s a bits rest hactive hattempt hhand _ hcancel hproducer hrequest hcomputation hslot hstation hoccupancy hwaiting hnext hlost
    have hended : attemptBits cfg bits a s = loseArbitration cfg (a.samples ++ bits) s := by simp only [attemptBits, hlost]
    have hexec := exec_attemptEnd hactive hattempt bits
    have hcompleted := completeInHand_completed (reason := some .cancelled) (s := lostTo (a.samples ++ bits) s) (by exact hhand)
      (HeadAlone.of (by exact hoccupancy) (by exact hwaiting) (by exact hnext))
    have hwhole := completeInHand_ring (reason := some .cancelled) (s := lostTo (a.samples ++ bits) s) (by exact hhand)
    rw [hended, loseArbitration_cancelled hhand hcancel] at hexec
    generalize completeInHand (some .cancelled) (lostTo (a.samples ++ bits) s) = v at hexec hcompleted hwhole
    have hrest : v.placement = s.placement ∧ v.timeBase = s.timeBase ∧ v.supervisor = s.supervisor := by
      rw [hwhole]
      exact ⟨rfl, rfl, rfl⟩
    obtain ⟨hplacement, htime, hsupervisor⟩ := hrest
    have hon : requestOn v.ring.head v.placement.request = true := by
      rw [hcompleted.index, hplacement, hrequest]
      exact decide_eq_true rfl
    obtain ⟨c, htaken⟩ := takePlace_cancelled (cfg := cfg) (d := headDescriptor v.ring) hon (by rw [hcompleted.head]; rfl)
      (by rw [htime]; exact hslot) (by rw [hsupervisor]; exact hstation) (by rw [hplacement]; exact hcomputation)
    rw [serviceHead_place hcompleted.alone hcompleted.done (hcompleted.producer.trans hproducer) (by rw [hplacement]; exact hcomputation),
      hcompleted.freed, htaken, returnAnnounced_eq, hplacement, hwhole] at hexec
    exact ⟨_, hexec, rfl, rfl, rfl, rfl, rfl, rfl, rfl, rfl, rfl⟩
  · intro cfg s a bits hactive hattempt hsends htec hwaiting hreject
    obtain ⟨ringTries, timeTries, hended⟩ := attemptBits_detaches (cfg := cfg) hsends htec hreject
    have hexec := exec_attemptEnd hactive hattempt bits
    rw [hended] at hexec
    have hunsent := detachRing_unsent hwaiting
    generalize hu : ((s.setTimeBase _).setRing (detachRing s.ring)).setLink _ = u at hexec
    have hlink : linkSends u.link.state = false := by rw [← hu]; rfl
    have hring : u.ring = detachRing s.ring := by rw [← hu]; rfl
    have hkept := serviceSteps_unsentKept (cfg := cfg) 24 hlink (by rw [hring]; exact hunsent)
    refine ⟨_, hexec, ?_⟩
    change UnsentKept u (serviceHead cfg u) at hkept
    rw [hkept.link, hkept.mailbox, hring, ← hu]
    refine ⟨rfl, rfl, rfl, rfl, rfl, rfl, rfl, rfl, rfl, ?_, fun hstate hproducer hrequest hcomputation => ?_⟩
    · rw [hu]
      exact hkept.ring.failed
    · rw [hu]
      have hhead : headDescriptor u.ring = failDescriptor .detached (headDescriptor s.ring) := by
        rw [hring]
        refine (Six.get_map _ _ _).trans ?_
        show detachDescriptor (headDescriptor s.ring) = _
        rw [detachDescriptor, hstate]
      exact place_ends_detached hlink (by rw [hring]; exact hunsent) (by rw [hhead]; rfl) (by rw [hhead]; rfl) (by rw [hhead]; exact hproducer)
        (by rw [← hu]; exact hrequest) (by rw [← hu]; exact hcomputation)

end Sys2Proof.Proofs.AttemptCourse

/-! PROOFS. The rollover at a cycle boundary: the frozen placement installed, and the request that it finds standing (R38, R95, R96, R158 to
R163). -/

namespace Sys2Proof.Machine

/-! ### What the flow sender may add to the ring at a boundary (R113, R158, R159) -/

/-- A LINE request put into a ring: a descriptor filled, or a place on the waiting list. -/
def LineAdded (r q : Ring) : Prop := ∃ payload : List Byte,
  (r.occupancy < 6 ∧ q = fillRing .line payload r) ∨ (¬r.occupancy < 6 ∧ q = putWaiting .line payload r)

/-- What a LINE request may do to the other blocks: nothing but one request in the ring, and then it stands. -/
structure FlowDone (s t : State) : Prop where
  placement : t.placement = s.placement
  zones : t.zones = s.zones
  link : t.link = s.link
  ring : (t.ring = s.ring ∧ t.peers.flow.request = s.peers.flow.request) ∨ (LineAdded s.ring t.ring ∧ t.peers.flow.request ≠ .none)

theorem lineRequest_flowDone (cfg : Settings) (change : Bool) (s : State) : FlowDone s (lineRequest cfg change s) := by
  unfold lineRequest
  split
  · exact ⟨rfl, rfl, rfl, .inl ⟨rfl, rfl⟩⟩
  · split
    · split
      · simp only [putLine]
        split
        · rename_i hfull
          exact ⟨rfl, rfl, rfl, .inr ⟨⟨_, .inr ⟨Nat.not_lt.mpr (of_decide_eq_true hfull), rfl⟩⟩, fun k => nomatch k⟩⟩
        · rename_i hroom
          exact ⟨rfl, rfl, rfl, .inr ⟨⟨_, .inl ⟨(ringFull_false_iff _).mp (Bool.eq_false_iff.mpr hroom), rfl⟩⟩, fun k => nomatch k⟩⟩
      · exact ⟨rfl, rfl, rfl, .inl ⟨rfl, rfl⟩⟩
    · exact ⟨rfl, rfl, rfl, .inl ⟨rfl, rfl⟩⟩

theorem flowBoundary_flowDone (cfg : Settings) (entered : Bool) (s : State) : FlowDone s (flowBoundary cfg entered s) := by
  have hcounted : ∀ f : FlowSender, f.request = s.peers.flow.request → FlowDone s (s.setPeers { s.peers with flow := f }) := fun f h =>
    ⟨rfl, rfl, rfl, .inl ⟨rfl, h⟩⟩
  have hrequested := lineRequest_flowDone cfg false (periodCounted s)
  have hrequested' : FlowDone s (lineRequest cfg false (periodCounted s)) :=
    ⟨hrequested.placement, hrequested.zones, hrequested.link, hrequested.ring⟩
  simp only [flowBoundary]
  split
  · split
    · exact hrequested'
    · split
      · split
        · exact hrequested'
        · exact hcounted _ rfl
      · exact hcounted _ rfl
  · exact ⟨rfl, rfl, rfl, .inl ⟨rfl, rfl⟩⟩

theorem samplePin_flowDone (cfg : Settings) (s : State) : FlowDone s (samplePin cfg s) := by
  by_cases hflow : cfg.flowSensing = true
  · obtain ⟨c, n, h⟩ | h := sampleFlow_cases (flowLevel s.flowPin) s.timeBase.cycle s.peers.flow
    · rw [(samplePin_of_sample hflow h).trans (if_neg Bool.false_ne_true)]
      exact ⟨rfl, rfl, rfl, .inl ⟨rfl, rfl⟩⟩
    · rw [(samplePin_of_sample hflow h).trans (if_pos rfl)]
      have hrequested := lineRequest_flowDone cfg true (s.setPeers { s.peers with flow := { s.peers.flow with
        confirmed := some (flowLevel s.flowPin), changeCycle := s.timeBase.cycle.setWidth 8, candidate := none, candidateCount := 0 } })
      exact ⟨hrequested.placement, hrequested.zones, hrequested.link, hrequested.ring⟩
  · rw [samplePin_of_unsensed (Bool.eq_false_of_not_eq_true hflow)]
    exact ⟨rfl, rfl, rfl, .inl ⟨rfl, rfl⟩⟩

/-- At a boundary the flow sender puts at most one request into the ring, and touches no other block. -/
structure RingAtMostLine (s t : State) : Prop where
  placement : t.placement = s.placement
  zones : t.zones = s.zones
  link : t.link = s.link
  ring : t.ring = s.ring ∨ LineAdded s.ring t.ring

theorem boundaryFlow (cfg : Settings) (entered : Bool) (s : State) :
    RingAtMostLine s (samplePin cfg (armed 0 (flowBoundary cfg entered s))) := by
  have hfirst := flowBoundary_flowDone cfg entered s
  have hsecond := samplePin_flowDone cfg (armed 0 (flowBoundary cfg entered s))
  refine ⟨hsecond.placement.trans hfirst.placement, hsecond.zones.trans hfirst.zones, hsecond.link.trans hfirst.link, ?_⟩
  obtain ⟨hring, -⟩ | ⟨hadded, hbusy⟩ := hfirst.ring
  · obtain ⟨hring', -⟩ | ⟨hadded', -⟩ := hsecond.ring
    · exact .inl (hring'.trans hring)
    · refine .inr ?_
      have hsame : (armed 0 (flowBoundary cfg entered s)).ring = s.ring := hring
      rw [hsame] at hadded'
      exact hadded'
  · by_cases hflow : cfg.flowSensing = true
    · obtain ⟨_, _, _, _, hsampled⟩ := samplePin_of_busy hflow (s := armed 0 (flowBoundary cfg entered s)) hbusy
      rw [hsampled]
      exact .inr hadded
    · rw [samplePin_of_unsensed (Bool.eq_false_of_not_eq_true hflow)]
      exact .inr hadded

/-- What stands in a ring after at most one LINE request: the head, the waiting list before it, and every descriptor but the one at the fill
position of a ring with room. -/
structure RingStands (r q : Ring) : Prop where
  head : q.head = r.head
  waiting : ∃ ws : List WaitingRequest, q.waiting = r.waiting ++ ws ∧ ∀ w ∈ ws, w.producer ≠ .place
  kept : ∀ i : Index, (r.occupancy < 6 → i ≠ r.fill) → q.descriptors.get i = r.descriptors.get i

theorem RingAtMostLine.stands {s t : State} (h : RingAtMostLine s t) : RingStands s.ring t.ring := by
  obtain hring | ⟨payload, ⟨hroom, hring⟩ | ⟨hfull, hring⟩⟩ := h.ring
  · rw [hring]
    exact ⟨rfl, ⟨[], (List.append_nil _).symm, fun w hw => nomatch hw⟩, fun _ _ => rfl⟩
  · rw [hring]
    exact ⟨rfl, ⟨[], (List.append_nil _).symm, fun w hw => nomatch hw⟩, fun i hi => (Six.get_set _ _ _ _).trans (if_neg (hi hroom))⟩
  · rw [hring]
    refine ⟨rfl, ⟨_, rfl, fun w hw => ?_⟩, fun _ _ => rfl⟩
    rw [List.mem_singleton.mp hw]
    exact fun k => nomatch k

/-- A descriptor of the occupied span is not the one at the fill position of a ring with room (R158). -/
theorem SpanSound.occupied_ne_fill {r : Ring} (h : SpanSound r) {i : Index} (hocc : occupied r i = true) (hroom : r.occupancy < 6) :
    i ≠ r.fill := by
  rintro rfl
  have hfill := h.fill
  rw [occupied, decide_eq_true_eq] at hocc
  omega

/-! ### The service of the head with no request of the unit standing or waiting (R96, R161) -/

/-- No request of the placement unit stands, and none waits in the ring. -/
structure NoPlace (s : State) : Prop where
  request : s.placement.request = .none
  waiting : ∀ w ∈ s.ring.waiting, w.producer ≠ .place

theorem releaseHead_noPlace {s : State} (h : NoPlace s) : NoPlace (releaseHead s) ∧ (releaseHead s).placement = s.placement := by
  obtain ⟨-, hreleased⟩ | ⟨w, ws, hwaits, hreleased⟩ := releaseHead_cases s
  · rw [hreleased]
    exact ⟨⟨h.request, h.waiting⟩, rfl⟩
  · have hne : w.producer ≠ .place := h.waiting w (hwaits ▸ List.mem_cons_self)
    have hrest : ∀ x ∈ ws, x.producer ≠ .place := fun x hx => h.waiting x (hwaits ▸ List.mem_cons_of_mem _ hx)
    rw [hreleased]
    cases hproducer : w.producer
    case place => exact absurd hproducer hne
    case line => exact ⟨⟨h.request, hrest⟩, rfl⟩
    case status => exact ⟨⟨h.request, hrest⟩, rfl⟩

theorem lineRequest_noPlace (cfg : Settings) (change : Bool) {s : State} (h : NoPlace s) :
    NoPlace (lineRequest cfg change s) ∧ (lineRequest cfg change s).placement = s.placement := by
  have hdone := lineRequest_flowDone cfg change s
  obtain ⟨ws, hws, hline⟩ := (RingAtMostLine.stands (s := s) (t := lineRequest cfg change s)
    ⟨hdone.placement, hdone.zones, hdone.link, hdone.ring.imp And.left And.left⟩).waiting
  refine ⟨⟨by rw [hdone.placement]; exact h.request, fun w hw => ?_⟩, hdone.placement⟩
  rw [hws, List.mem_append] at hw
  exact hw.elim (h.waiting w) (hline w)

theorem takeHead_noPlace {cfg : Settings} {s t : State} (h : NoPlace s) (htaken : takeHead cfg (headDescriptor s.ring) s = some t) :
    NoPlace t ∧ t.placement = s.placement := by
  have hreleased : ∀ u : State, u.ring = s.ring → u.placement = s.placement →
      NoPlace (releaseHead u) ∧ (releaseHead u).placement = s.placement := fun u hring hplacement => by
    have hu := releaseHead_noPlace (s := u) ⟨by rw [hplacement]; exact h.request, by rw [hring]; exact h.waiting⟩
    exact ⟨hu.1, hu.2.trans hplacement⟩
  unfold takeHead at htaken
  split at htaken
  · cases htaken
    exact hreleased s rfl rfl
  · split at htaken
    · cases htaken
    · cases htaken
      rw [takePlace_off (by rw [h.request]; rfl)]
      exact hreleased s rfl rfl
  · cases htaken
    obtain ⟨hring, -, hplacement⟩ := clearLine_same cfg (headDescriptor s.ring) s
    have hcleared := hreleased _ hring hplacement
    simp only [takeLine]
    split
    · obtain ⟨hnone, hrest⟩ := lineRequest_noPlace cfg true hcleared.1
      exact ⟨hnone, hrest.trans hcleared.2⟩
    · exact hcleared
  · cases htaken
    obtain ⟨hring, -, hplacement⟩ := takeStatus_same (headDescriptor s.ring) s
    exact hreleased _ hring hplacement

theorem serviceOnce_noPlace {cfg : Settings} {s t : State} (h : NoPlace s) (hserved : serviceOnce cfg s = some t) :
    NoPlace t ∧ t.placement = s.placement := by
  simp only [serviceOnce] at hserved
  split at hserved
  case h_1 | h_2 => cases hserved
  case h_3 =>
    split at hserved
    · cases hserved
    · cases hserved
      exact ⟨⟨h.request, h.waiting⟩, rfl⟩
  case h_4 =>
    cases hserved
    exact ⟨⟨h.request, h.waiting⟩, rfl⟩
  case h_5 | h_6 => exact takeHead_noPlace h hserved

/-- The service of the head then leaves the placement unit as it stands. -/
theorem serviceHead_noPlace {cfg : Settings} {s : State} (h : NoPlace s) : (serviceHead cfg s).placement = s.placement := by
  have hsteps : ∀ (n : Nat) (s : State), NoPlace s → (serviceSteps cfg n s).placement = s.placement := fun n => by
    induction n with
    | zero => exact fun s _ => rfl
    | succ n ih =>
      intro s h
      cases hserved : serviceOnce cfg s with
      | none => rw [serviceSteps_of_none hserved]
      | some t =>
        obtain ⟨hnone, hplacement⟩ := serviceOnce_noPlace h hserved
        rw [serviceSteps_of_some hserved, ih t hnone, hplacement]
  exact hsteps 24 s h

/-! ### The request abandoned at the ring (R96, R162, R163) -/

theorem cancelDescriptor_ready {r : Ring} {i : Index} (onLine : Bool) (h : (r.descriptors.get i).state = .ready) :
    cancelDescriptor i onLine r = (setDescriptor r i { r.descriptors.get i with state := .void }, .voided) := by
  simp only [cancelDescriptor, h]

theorem cancelDescriptor_onLine {r : Ring} {i : Index} (h : (r.descriptors.get i).state = .sending) :
    cancelDescriptor i true r = (setDescriptor r i { r.descriptors.get i with cancel := true }, .recorded) := by
  simp only [cancelDescriptor, h]
  exact if_pos trivial

theorem cancelDescriptor_between {r : Ring} {i : Index} (h : (r.descriptors.get i).state = .sending) :
    cancelDescriptor i false r =
      (setDescriptor r i (failDescriptor .cancelled { r.descriptors.get i with cancel := true }), .recorded) := by
  simp only [cancelDescriptor, h]
  exact if_neg Bool.false_ne_true

/-- The frame in hand dropped where it has completed between attempts (R136). -/
theorem dropRingFrame_eq (s : State) : ∃ hand : Option InHand, dropRingFrame s = s.setLink { s.link with inHand := hand } ∧
    (ringOnLine s = true → hand = s.link.inHand) ∧
    (ringOnLine s = false → (headDescriptor s.ring).state ≠ .sending → hand ≠ some .ring) := by
  unfold dropRingFrame
  split
  · rename_i h
    simp only [Bool.and_eq_true, Bool.not_eq_true', decide_eq_true_eq] at h
    obtain ⟨⟨-, hoff⟩, -⟩ := h
    exact ⟨none, rfl, fun k => (nomatch hoff.symm.trans k), fun _ _ => fun k => nomatch k⟩
  · rename_i h
    refine ⟨s.link.inHand, rfl, fun _ => rfl, fun hoff hstate hhand => h ?_⟩
    rw [hhand, hoff]
    simpa using hstate

/-- A voided PLACE frame of a head alone completes and is released, with no request on it (R160, R161). -/
theorem serviceHead_voided {cfg : Settings} {s : State} (halone : HeadAlone s.ring) (hvoid : (headDescriptor s.ring).state = .void)
    (hproducer : (headDescriptor s.ring).producer = some .place) (hcomputation : s.placement.computation = none)
    (hrequest : s.placement.request = .none) : serviceHead cfg s = s.setRing (freedAlone s.ring) := by
  have hfailed : serviceOnce cfg s = some (s.setRing (setDescriptor s.ring s.ring.head (failDescriptor .cancelled (headDescriptor s.ring)))) := by
    simp only [serviceOnce, hvoid]
  have hhead := headDescriptor_setHead s.ring (failDescriptor .cancelled (headDescriptor s.ring))
  have hunused : mapInUse s.placement = false := by rw [mapInUse, hcomputation]; rfl
  have hreleased : serviceOnce cfg (s.setRing (setDescriptor s.ring s.ring.head (failDescriptor .cancelled (headDescriptor s.ring)))) =
      some (s.setRing (freedAlone s.ring)) := by
    rw [serviceOnce_of_done (.inr (by rw [setRing_ring, hhead]; rfl)), setRing_ring, hhead, takeHead]
    show (match (headDescriptor s.ring).producer with | none => _ | some .place => _ | some .line => _ | some .status => _) = _
    rw [hproducer]
    show (if mapInUse s.placement then none else _) = _
    rw [hunused, if_neg Bool.false_ne_true, takePlace_off (by exact (congrArg (requestOn _) hrequest).trans rfl),
      releaseHead_alone (by exact halone.setHead _), setRing_ring, freedAlone_setDescriptor]
    rfl
  rw [serviceHead, serviceSteps_of_some hfailed, serviceSteps_of_some hreleased,
    serviceSteps_of_none (serviceOnce_of_free (freedAlone_head halone))]

/-- The state in which the blocks serve the head at a rollover: the request abandoned, and the record emptied (R96). -/
def abandoned (b : State) : State :=
  (abandonRequest b).setPlacement (rolloverRecord (dropReleased b (b.placement.frozen.getD [])) (abandonRequest b).placement)

theorem rollover_eq (cfg : Settings) (b : State) : rollover cfg b = serviceHead cfg (abandoned b) := rfl

/-- A boundary with a computation finished before it: the ring and the link as the rollover leaves them, but for one LINE request. -/
theorem crossingStep_rolled {cfg : Settings} {interval : Nat} {s : State} (hdue : BoundaryDue cfg s) (hcrossing : CrossingDue interval s)
    (flow : Bool) : ∃ t : State, crossingStep interval flow s = crossingCounted t ∧
      RingAtMostLine (grantPermits ((rollover cfg (boundaryTaken cfg (crossed interval flow 0 s))).setPeers
        (rolloverPeers cfg (rollover cfg (boundaryTaken cfg (crossed interval flow 0 s))).timeBase.cycle
          (rollover cfg (boundaryTaken cfg (crossed interval flow 0 s))).peers))) t := by
  refine ⟨_, ?_, boundaryFlow cfg (boundaryEntered cfg (crossed interval flow 0 s)) _⟩
  rw [crossingStep_boundary hdue hcrossing flow, slotEvent_of_boundary]
  rfl

end Sys2Proof.Machine

namespace Sys2Proof.Proofs.Rollover
open Sys2Proof.Machine

/-- The conditions and permits of the zones pass the decision at a boundary (R38, R56). -/
theorem boundaryTaken_zone {cfg : Settings} {s : State} {interval : Nat} {flow : Bool} (z : Index) :
    ((boundaryTaken cfg (crossed interval flow 0 s)).zones.get z).condition = (s.zones.get z).condition ∧
    ((boundaryTaken cfg (crossed interval flow 0 s)).zones.get z).permit = (s.zones.get z).permit := by
  have hread := beforeEvent_read cfg 0 interval flow s
  obtain ⟨-, -, hzones, -, -⟩ := boundaryTaken_rest cfg (crossed interval flow 0 s)
  obtain ⟨x, sc, hdecision⟩ := boundaryDecision_supervisorScannerAlone cfg (beforeEvent cfg 0 (crossed interval flow 0 s))
  have hentered : ∀ x : Zone, (enterRunningZone cfg x).condition = x.condition ∧ (enterRunningZone cfg x).permit = x.permit := fun x => by
    rw [enterRunningZone]
    split
    · split <;> exact ⟨rfl, rfl⟩
    · exact ⟨rfl, rfl⟩
  rw [hzones, stationBoundary]
  split
  · rw [hdecision]
    show (((beforeEvent cfg 0 (crossed interval flow 0 s)).zones.map (enterRunningZone cfg)).get z).condition = _ ∧
      (((beforeEvent cfg 0 (crossed interval flow 0 s)).zones.map (enterRunningZone cfg)).get z).permit = _
    rw [hread.zones, Six.get_map]
    exact hentered _
  · rw [hdecision]
    show ((beforeEvent cfg 0 (crossed interval flow 0 s)).zones.get z).condition = _ ∧
      ((beforeEvent cfg 0 (crossed interval flow 0 s)).zones.get z).permit = _
    rw [hread.zones]
    exact ⟨rfl, rfl⟩

theorem rollover_at_rest (cfg : Settings) (s : State) (interval : Nat) (flow : Bool) (hdue : BoundaryDue cfg s)
    (hcrossing : CrossingDue interval s) (hrest : UnitsAtRest s) :
    ∃ t : State, exec (.crossing interval flow) s = .next t ∧
      t.placement.current = (s.placement.frozen.getD []).filter (fun r =>
        !r.stuck || indexes.any fun z => decide (z.val + 1 = r.zone) && decide ((s.zones.get z).condition = .stuckOn)) ∧
      t.placement.working = none ∧ t.placement.announced = none ∧ t.placement.frozen = none ∧ t.placement.lastFailure = none ∧
      t.placement.request = .none ∧ t.placement.map = [] ∧ t.placement.orderCounter = 0 ∧ t.placement.viewFlag = false ∧
      t.placement.revisionsBefore = s.placement.revisionsSent ∧ t.placement.revisionsSent = 0 ∧
      t.placement.sagCount = s.placement.sagCount - 1 ∧ t.placement.unannounced = s.placement.unannounced ∧
      ∀ z : Index, (t.zones.get z).condition = (s.zones.get z).condition ∧
        ((s.zones.get z).condition = .normal → (t.zones.get z).permit = true) ∧
        ((s.zones.get z).condition ≠ .normal → (t.zones.get z).permit = (s.zones.get z).permit) := by
  obtain ⟨t, hstep, hkept⟩ := crossingStep_rolled hdue hcrossing flow
  have htaken := boundaryTaken_resting cfg hrest.computation interval flow
  have hzone := boundaryTaken_zone (cfg := cfg) (s := s) (interval := interval) (flow := flow)
  generalize boundaryTaken cfg (crossed interval flow 0 s) = b at hkept htaken hzone
  rw [rollover_of_rest cfg (htaken.atRest hrest)] at hkept
  have hplacement : t.placement = rolloverRecord (dropReleased b (s.placement.frozen.getD [])) s.placement := by
    rw [hkept.placement, ← htaken.placement]
    rfl
  have hcurrent : dropReleased b (s.placement.frozen.getD []) = (s.placement.frozen.getD []).filter (fun r =>
      !r.stuck || indexes.any fun z => decide (z.val + 1 = r.zone) && decide ((s.zones.get z).condition = .stuckOn)) := by
    simp only [dropReleased, fun z => (hzone z).1]
    rfl
  refine ⟨crossingCounted t, congrArg Host.Outcome.next hstep, ?_⟩
  show t.placement.current = _ ∧ t.placement.working = none ∧ t.placement.announced = none ∧ t.placement.frozen = none ∧
    t.placement.lastFailure = none ∧ t.placement.request = .none ∧ t.placement.map = [] ∧ t.placement.orderCounter = 0 ∧
    t.placement.viewFlag = false ∧ t.placement.revisionsBefore = _ ∧ t.placement.revisionsSent = 0 ∧ t.placement.sagCount = _ ∧
    t.placement.unannounced = _ ∧ ∀ z : Index, (t.zones.get z).condition = _ ∧ (_ → (t.zones.get z).permit = true) ∧
      (_ → (t.zones.get z).permit = _)
  rw [hplacement]
  refine ⟨hcurrent, rfl, rfl, rfl, rfl, rfl, rfl, rfl, rfl, rfl, rfl, rfl, rfl, fun z => ?_⟩
  obtain ⟨hcondition, hpermit⟩ := hzone z
  have hgranted : t.zones.get z = if (s.zones.get z).condition = .normal then { b.zones.get z with permit := true } else b.zones.get z := by
    rw [hkept.zones, grantPermits, setZones_zones, Six.get_ofFn, ← hcondition]
    rfl
  rw [hgranted]
  by_cases hnormal : (s.zones.get z).condition = .normal
  · rw [if_pos hnormal]
    exact ⟨hcondition, fun _ => rfl, fun k => absurd hnormal k⟩
  · rw [if_neg hnormal]
    exact ⟨hcondition, fun k => absurd k hnormal, fun _ => hpermit⟩

/-- The unit and the ring as a rollover finds them, with a frame at the head that the link may send. -/
structure AtRollover (b : State) : Prop where
  ring : RingSound b
  requests : RequestsSound b
  sends : linkSends b.link.state = true
  computation : b.placement.computation = none
  head : (headDescriptor b.ring).state = .ready ∨ (headDescriptor b.ring).state = .sending

theorem AtRollover.span {b : State} (h : AtRollover b) : SpanSound b.ring := ((ringSound_iff b).mp h.ring).1

/-- A head that still stands READY or SENDING is not served. -/
theorem rollover_standing {cfg : Settings} {b : State} (hsends : linkSends (abandoned b).link.state = true)
    (hhead : (headDescriptor (abandoned b).ring).state = .ready ∨ (headDescriptor (abandoned b).ring).state = .sending) :
    rollover cfg b = abandoned b := by
  rw [rollover_eq]
  obtain h | h := hhead
  · exact serviceHead_of_standing (serviceOnce_of_ready h hsends)
  · exact serviceHead_of_standing (serviceOnce_of_sending h)

theorem abandoned_noPlace {b : State} (h : AtRollover b) : NoPlace (abandoned b) :=
  have hring := (abandonRequest_exchanged b).ring h.ring
  ⟨rfl, fun w hw => abandonRequest_waiting b (hring.2 h.requests) w hw⟩

/-- The record of the unit after a rollover, whatever it finds standing. -/
theorem rollover_record {cfg : Settings} {b : State} (h : AtRollover b) : ∃ p : PlacementUnit,
    (rollover cfg b).placement = rolloverRecord (dropReleased b (b.placement.frozen.getD [])) p :=
  ⟨_, serviceHead_noPlace (abandoned_noPlace h)⟩

theorem rollover_waiting {cfg : Settings} {b : State} {q : Ring} (h : AtRollover b) (hrequest : b.placement.request = .waiting)
    (hq : RingStands (rollover cfg b).ring q) :
    (b.ring.waiting.filter fun w => decide (w.producer ≠ .place)).IsPrefix q.waiting ∧ (∀ w ∈ q.waiting, w.producer ≠ .place) ∧
    q.head = b.ring.head ∧ ∀ i : Index, occupied b.ring i = true → q.descriptors.get i = b.ring.descriptors.get i := by
  have hwithdrawn : abandonRequest b = b.setRing (withdrawWaiting .place b.ring) := by simp only [abandonRequest, hrequest]
  have hstanding : rollover cfg b = abandoned b := by
    refine rollover_standing ?_ ?_ <;> rw [abandoned, hwithdrawn]
    · exact h.sends
    · exact h.head
  have hnone := abandoned_noPlace h
  rw [← hstanding] at hnone
  obtain ⟨ws, hws, hline⟩ := hq.waiting
  have hring : (rollover cfg b).ring = withdrawWaiting .place b.ring := by rw [hstanding, abandoned, hwithdrawn]; rfl
  have hnone' := hnone.waiting
  rw [hring] at hq hws hnone'
  refine ⟨⟨ws, hws.symm⟩, fun w hw => ?_, hq.head, fun i hi => hq.kept i fun hroom => h.span.occupied_ne_fill hi hroom⟩
  rw [hws, List.mem_append] at hw
  exact hw.elim (hnone' w) (hline w)

theorem abandonRequest_queued {b : State} {i : Index} (h : b.placement.request = .queued i) :
    abandonRequest b = dropRingFrame (b.setRing (cancelDescriptor i (ringOnLine b) b.ring).1) := by simp only [abandonRequest, h]

/-- A QUEUED request behind the head, and one on the line, leave the head to stand; the descriptor is restated. -/
theorem rollover_restated {cfg : Settings} {b : State} {q : Ring} {i : Index} {d : Descriptor} {answer : CancelAnswer} (h : AtRollover b)
    (hrequest : b.placement.request = .queued i)
    (hcancel : cancelDescriptor i (ringOnLine b) b.ring = (setDescriptor b.ring i d, answer)) (hocc : occupied b.ring i = true)
    (hhead : i = b.ring.head → d.state = .sending) (hq : RingStands (rollover cfg b).ring q) :
    q.head = b.ring.head ∧ q.descriptors.get i = d ∧ rollover cfg b = abandoned b ∧
      ∃ hand : Option InHand, (rollover cfg b).link = { b.link with inHand := hand } ∧ (ringOnLine b = true → hand = b.link.inHand) := by
  obtain ⟨hand, hdropped, honline, -⟩ := dropRingFrame_eq (b.setRing (setDescriptor b.ring i d))
  have habandoned : abandonRequest b = (b.setRing (setDescriptor b.ring i d)).setLink { b.link with inHand := hand } := by
    rw [abandonRequest_queued hrequest, hcancel]
    exact hdropped
  have hstate : (headDescriptor (setDescriptor b.ring i d)).state = .ready ∨ (headDescriptor (setDescriptor b.ring i d)).state = .sending := by
    show ((b.ring.descriptors.set i d).get b.ring.head).state = _ ∨ ((b.ring.descriptors.set i d).get b.ring.head).state = _
    rw [Six.get_set]
    split
    · rename_i hi
      exact .inr (hhead hi.symm)
    · exact h.head
  have hstanding : rollover cfg b = abandoned b := by
    refine rollover_standing ?_ ?_ <;> rw [abandoned, habandoned]
    · exact h.sends
    · exact hstate
  have hring : (rollover cfg b).ring = setDescriptor b.ring i d := by rw [hstanding, abandoned, habandoned]; rfl
  rw [hring] at hq
  refine ⟨hq.head, (hq.kept i fun hroom => h.span.occupied_ne_fill hocc hroom).trans (Six.get_set_same _ _ _), hstanding, hand, ?_, honline⟩
  rw [hstanding, abandoned, habandoned]
  rfl

theorem head_of_one {r : Ring} {i : Index} (hocc : occupied r i = true) (hone : r.occupancy = 1) : i = r.head := by
  rw [occupied_iff] at hocc
  exact Fin.ext (by omega)

/-- A frame alone in a sound ring. -/
theorem AtRollover.alone {b : State} (h : AtRollover b) (hone : b.ring.occupancy = 1) (hwaiting : b.ring.waiting = []) : HeadAlone b.ring := by
  refine ⟨hone, hwaiting, (h.span.free _).mpr ?_⟩
  rw [occupied_false_iff, hone]
  have := nextIndex_val b.ring.head
  change (b.ring.head + 1).val = _ at this
  omega

/-- What is left of a ring whose head has been released, after at most one LINE request. -/
theorem freedAlone_stands {r q : Ring} (hfill : r.fill = r.head + 1) (hq : RingStands (freedAlone r) q) :
    q.head = r.head + 1 ∧ q.descriptors.get r.head = Descriptor.freed := by
  refine ⟨hq.head, (hq.kept r.head fun _ k => ?_).trans (Six.get_set_same _ _ _)⟩
  have hne : r.head ≠ r.fill := by rw [hfill]; exact (Index.succ_ne _).symm
  exact hne k

theorem AtRollover.fill {b : State} (h : AtRollover b) (hone : b.ring.occupancy = 1) : b.ring.fill = b.ring.head + 1 := by
  have hfill := h.span.fill
  have := nextIndex_val b.ring.head
  change (b.ring.head + 1).val = _ at this
  exact Fin.ext (by omega)

/-- A QUEUED request on a READY head alone: it is voided, and released at once (R160 to R162). -/
theorem rollover_voided {cfg : Settings} {b : State} {q : Ring} {i : Index} (h : AtRollover b) (hrequest : b.placement.request = .queued i)
    (hstate : (b.ring.descriptors.get i).state = .ready) (hocc : occupied b.ring i = true) (hone : b.ring.occupancy = 1)
    (hwaiting : b.ring.waiting = []) (hq : RingStands (rollover cfg b).ring q) :
    q.head = b.ring.head + 1 ∧ q.descriptors.get i = Descriptor.freed := by
  obtain rfl := head_of_one hocc hone
  obtain ⟨hand, hdropped, -, -⟩ := dropRingFrame_eq
    (b.setRing (setDescriptor b.ring b.ring.head { b.ring.descriptors.get b.ring.head with state := .void }))
  have habandoned := abandonRequest_queued hrequest
  rw [cancelDescriptor_ready _ hstate, hdropped] at habandoned
  have hproducer := (h.requests.stands _ (.inl hrequest)).1
  have hring : (rollover cfg b).ring = freedAlone b.ring := by
    rw [rollover_eq, abandoned, habandoned, serviceHead_voided (by exact (h.alone hone hwaiting).setHead _)
      (by exact congrArg Descriptor.state (headDescriptor_setHead _ _)) (by exact (congrArg Descriptor.producer (headDescriptor_setHead _ _)).trans hproducer)
      (by exact h.computation) (by rfl), setRing_ring]
    exact freedAlone_setDescriptor _ _
  rw [hring] at hq
  exact freedAlone_stands (h.fill hone) hq

/-- A QUEUED request on a head alone that is SENDING between attempts: it completes CANCELLED, is dropped and released (R136, R162). -/
theorem rollover_dropped {cfg : Settings} {b : State} {q : Ring} {i : Index} (h : AtRollover b) (hrequest : b.placement.request = .queued i)
    (hstate : (b.ring.descriptors.get i).state = .sending) (hocc : occupied b.ring i = true) (hone : b.ring.occupancy = 1)
    (hwaiting : b.ring.waiting = []) (hnone : b.link.attempt = none) (hq : RingStands (rollover cfg b).ring q) :
    q.head = b.ring.head + 1 ∧ q.descriptors.get i = Descriptor.freed ∧ (rollover cfg b).link.inHand ≠ some .ring := by
  obtain rfl := head_of_one hocc hone
  have hoff : ringOnLine b = false := by rw [ringOnLine, hnone]; rfl
  obtain ⟨hand, hdropped, -, hhand⟩ := dropRingFrame_eq
    (b.setRing (setDescriptor b.ring b.ring.head (failDescriptor .cancelled { b.ring.descriptors.get b.ring.head with cancel := true })))
  have hhead := headDescriptor_setHead b.ring (failDescriptor .cancelled { b.ring.descriptors.get b.ring.head with cancel := true })
  have habandoned := abandonRequest_queued hrequest
  rw [hoff, cancelDescriptor_between hstate, hdropped] at habandoned
  have hproducer := (h.requests.stands _ (.inl hrequest)).1
  have hserved : rollover cfg b = (abandoned b).setRing (freedAlone b.ring) := by
    rw [rollover_eq, abandoned, habandoned, serviceHead_place (by exact (h.alone hone hwaiting).setHead _)
      (by exact .inr (congrArg Descriptor.state hhead)) (by exact (congrArg Descriptor.producer hhead).trans hproducer)
      (by exact h.computation), takePlace_off (by rfl)]
    exact congrArg (State.setRing _) (freedAlone_setDescriptor _ _)
  have hdrop : (rollover cfg b).link.inHand = hand := by rw [hserved, abandoned, habandoned]; rfl
  rw [hserved] at hq
  obtain ⟨hnext, hfreed⟩ := freedAlone_stands (h.fill hone) hq
  refine ⟨hnext, hfreed, ?_⟩
  rw [hdrop]
  exact hhand hoff (by rw [setRing_ring, hhead]; exact fun k => nomatch k)

theorem rollover_of_request (cfg : Settings) (s : State) (interval : Nat) (flow : Bool) (hdue : BoundaryDue cfg s)
    (hcrossing : CrossingDue interval s) (hsound : RingSound s) (hrequests : RequestsSound s)
    (hsettled : settledState s.supervisor.station = true) (hsends : linkSends s.link.state = true) (hcomputation : s.placement.computation = none)
    (hhead : (headDescriptor s.ring).state = .ready ∨ (headDescriptor s.ring).state = .sending) :
    ∃ t : State, exec (.crossing interval flow) s = .next t ∧
      t.placement.request = .none ∧ t.placement.working = none ∧ t.placement.announced = none ∧ t.placement.frozen = none ∧
      t.placement.lastFailure = none ∧ t.placement.map = [] ∧ t.placement.orderCounter = 0 ∧
      (s.placement.request = .waiting →
        (s.ring.waiting.filter fun w => decide (w.producer ≠ .place)).IsPrefix t.ring.waiting ∧
        (∀ w ∈ t.ring.waiting, w.producer ≠ .place) ∧ t.ring.head = s.ring.head ∧
        ∀ i : Index, occupied s.ring i = true → t.ring.descriptors.get i = s.ring.descriptors.get i) ∧
      (∀ i : Index, s.placement.request = .queued i → occupied s.ring i = true →
        ((s.ring.descriptors.get i).state = .ready → i ≠ s.ring.head →
          t.ring.head = s.ring.head ∧ t.ring.descriptors.get i = { s.ring.descriptors.get i with state := .void }) ∧
        ((s.ring.descriptors.get i).state = .ready → s.ring.occupancy = 1 → s.ring.waiting = [] →
          t.ring.head = s.ring.head + 1 ∧ t.ring.descriptors.get i = Descriptor.freed) ∧
        ((s.ring.descriptors.get i).state = .sending → s.link.attempt.isSome = true → s.link.inHand = some .ring →
          t.ring.head = s.ring.head ∧ t.ring.descriptors.get i = { s.ring.descriptors.get i with cancel := true } ∧
          t.link.attempt = s.link.attempt ∧ t.link.inHand = some .ring) ∧
        ((s.ring.descriptors.get i).state = .sending → s.link.attempt = none → s.ring.occupancy = 1 → s.ring.waiting = [] →
          t.ring.head = s.ring.head + 1 ∧ t.ring.descriptors.get i = Descriptor.freed ∧ t.link.inHand ≠ some .ring)) ∧
      (∀ i : Index, s.placement.request = .cancelRecorded i → occupied s.ring i = true →
        t.ring.head = s.ring.head ∧ t.ring.descriptors.get i = s.ring.descriptors.get i ∧ t.link.attempt = s.link.attempt ∧
        t.link.inHand = s.link.inHand) := by
  obtain ⟨t, hstep, hkept⟩ := crossingStep_rolled hdue hcrossing flow
  have htaken := boundaryTaken_resting cfg hcomputation interval flow
  have hlink := boundaryTaken_link (cfg := cfg) (interval := interval) (flow := flow) hcomputation (settled_joined hsettled)
  generalize boundaryTaken cfg (crossed interval flow 0 s) = b at hkept htaken hlink
  obtain ⟨m, hring⟩ := htaken.ring
  have hb : AtRollover b := by
    refine ⟨(ringSound_iff b).mpr ?_, (requestsSound_iff b).mpr ?_, by rw [hlink]; exact hsends, by rw [htaken.placement]; exact hcomputation,
      by rw [hring]; exact hhead⟩ <;> rw [hring]
    · rw [hlink]
      obtain ⟨⟨hbound, hfill, hfree⟩, hhand⟩ := (ringSound_iff s).mp hsound
      exact ⟨⟨hbound, hfill, hfree⟩, hhand⟩
    · rw [htaken.placement]
      obtain ⟨hfull, hwaits, honce, hstands⟩ := (requestsSound_iff s).mp hrequests
      exact ⟨hfull, hwaits, honce, hstands⟩
  obtain ⟨p, hrecord⟩ := rollover_record (cfg := cfg) hb
  have hplacement : t.placement = rolloverRecord (dropReleased b (b.placement.frozen.getD [])) p := hkept.placement.trans hrecord
  have hq : RingStands (rollover cfg b).ring t.ring := hkept.stands
  have htlink : t.link = (rollover cfg b).link := hkept.link
  have hsame : b.ring.descriptors = s.ring.descriptors ∧ b.ring.head = s.ring.head ∧ b.ring.occupancy = s.ring.occupancy ∧
      b.ring.waiting = s.ring.waiting ∧ ∀ i : Index, occupied b.ring i = occupied s.ring i := by
    rw [hring]
    exact ⟨rfl, rfl, rfl, rfl, fun _ => rfl⟩
  obtain ⟨hdescriptors, hheads, hoccupancy, hwaitings, hocc⟩ := hsame
  have hrequest : b.placement.request = s.placement.request := by rw [htaken.placement]
  refine ⟨crossingCounted t, congrArg Host.Outcome.next hstep, ?_⟩
  show t.placement.request = _ ∧ t.placement.working = none ∧ t.placement.announced = none ∧ t.placement.frozen = none ∧
    t.placement.lastFailure = none ∧ t.placement.map = [] ∧ t.placement.orderCounter = 0 ∧ _
  rw [hplacement]
  refine ⟨rfl, rfl, rfl, rfl, rfl, rfl, rfl, fun k => ?_, fun i k hi => ⟨fun hstate hbehind => ?_, fun hstate hone hnone => ?_,
    fun hstate hattempt hhand => ?_, fun hstate hattempt hone hnone => ?_⟩, fun i k hi => ?_⟩
  · have hwaiting := rollover_waiting hb (hrequest.trans k) hq
    simp only [hdescriptors, hheads, hwaitings, hocc] at hwaiting
    exact hwaiting
  · obtain ⟨hhead', hget, -⟩ := rollover_restated hb (hrequest.trans k)
      (cancelDescriptor_ready _ (by rw [hdescriptors]; exact hstate)) (by rw [hocc]; exact hi) (fun e => absurd (e.trans hheads) hbehind) hq
    rw [hheads] at hhead'
    rw [hdescriptors] at hget
    exact ⟨hhead', hget⟩
  · have hvoided := rollover_voided hb (hrequest.trans k) (by rw [hdescriptors]; exact hstate) (by rw [hocc]; exact hi)
      (hoccupancy.trans hone) (hwaitings.trans hnone) hq
    rw [hheads] at hvoided
    exact hvoided
  · have honline : ringOnLine b = true := by rw [ringOnLine, hlink, hattempt, hhand]; rfl
    obtain ⟨hhead', hget, -, hand, hrolled, hin⟩ := rollover_restated hb (hrequest.trans k)
      (by rw [honline]; exact cancelDescriptor_onLine (by rw [hdescriptors]; exact hstate)) (by rw [hocc]; exact hi)
      (fun _ => by rw [hdescriptors]; exact hstate) hq
    rw [hheads] at hhead'
    rw [hdescriptors] at hget
    have hfinal : t.link = { s.link with inHand := hand } := by rw [htlink, hrolled, hlink]
    have hattempts : t.link.attempt = s.link.attempt ∧ t.link.inHand = hand := by
      rw [hfinal]
      exact ⟨rfl, rfl⟩
    refine ⟨hhead', hget, hattempts.1, hattempts.2.trans ((hin honline).trans ?_)⟩
    rw [hlink, hhand]
  · obtain ⟨hhead', hget, hin⟩ := rollover_dropped hb (hrequest.trans k) (by rw [hdescriptors]; exact hstate) (by rw [hocc]; exact hi)
      (hoccupancy.trans hone) (hwaitings.trans hnone) (by rw [hlink]; exact hattempt) hq
    rw [hheads] at hhead'
    exact ⟨hhead', hget, fun e => hin ((congrArg Link.inHand htlink).symm.trans e)⟩
  · have habandoned : abandonRequest b = b := by simp only [abandonRequest, hrequest.trans k]
    have hstanding : rollover cfg b = abandoned b := by
      refine rollover_standing ?_ ?_ <;> rw [abandoned, habandoned]
      · exact hb.sends
      · exact hb.head
    have hringed : (rollover cfg b).ring = b.ring ∧ (rollover cfg b).link = b.link := by
      rw [hstanding, abandoned, habandoned]
      exact ⟨rfl, rfl⟩
    rw [hringed.1] at hq
    have hfinal : t.link = s.link := htlink.trans (hringed.2.trans hlink)
    refine ⟨hq.head.trans hheads, ?_, congrArg Link.attempt hfinal, congrArg Link.inHand hfinal⟩
    rw [← hdescriptors]
    exact hq.kept i fun hroom => hb.span.occupied_ne_fill (by rw [hocc]; exact hi) hroom

/-- Settles O8: the rollover of a unit at rest, the request that it finds, and a completion that comes after it. -/
theorem rolloverInstallsTheFrozenPlacement : Obligations.RolloverInstallsTheFrozenPlacement := by
  unfold Obligations.RolloverInstallsTheFrozenPlacement
  refine ⟨rollover_at_rest, rollover_of_request, ?_⟩
  intro cfg s a bits hactive hattempt hhand _ hproducer hsends htec hcomputation hrequest hoccupancy hwaiting hnext hsuccess
  obtain ⟨state, -, hcompleted, hexec⟩ := exec_success_ring hactive hattempt hhand hsends htec (.of hoccupancy hwaiting hnext) hsuccess
  rw [serviceHead_place hcompleted.alone hcompleted.done (hcompleted.producer.trans hproducer) (by exact hcomputation), hcompleted.freed,
    takePlace_off (by exact (congrArg (requestOn _) hrequest).trans rfl)] at hexec
  exact ⟨_, hexec, rfl, rfl, rfl, rfl, rfl, rfl⟩

end Sys2Proof.Proofs.Rollover

/-! PROOFS. The completions of the scanner: trips, records, reports, and the heater fault tests, zone by zone (R19, R20, R27 to R34, R39 to R45, R95,
R182, R183, R188). -/

namespace Sys2Proof.Machine

/-! ### A test of one zone leaves the others (R38 to R45) -/

/-- What a trip or a heater fault test of one zone leaves: every other zone and gate, what `TestKept` names, the marks once set, and a scanner without
an open window. -/
structure ZoneTested (z : Index) (s t : State) : Prop where
  kept : TestKept s t
  zones : ∀ y : Index, y ≠ z → t.zones.get y = s.zones.get y
  gates : ∀ y : Index, y ≠ z → t.supervisor.gates.get y = s.supervisor.gates.get y
  mark : s.supervisor.changeMark = true → t.supervisor.changeMark = true
  window : s.scanner.window = none → t.scanner.window = none

theorem ZoneTested.refl (z : Index) (s : State) : ZoneTested z s s := ⟨TestKept.refl s, fun _ _ => rfl, fun _ _ => rfl, id, id⟩

theorem ZoneTested.trans {z : Index} {s t u : State} (h : ZoneTested z s t) (k : ZoneTested z t u) : ZoneTested z s u :=
  ⟨h.kept.trans k.kept, fun y hy => (k.zones y hy).trans (h.zones y hy), fun y hy => (k.gates y hy).trans (h.gates y hy), k.mark ∘ h.mark,
    k.window ∘ h.window⟩

theorem setZone_zoneTested (s : State) (z : Index) (x : Zone) : ZoneTested z s (s.setZone z x) :=
  ⟨setZone_testKept s z x, fun _ hy => (Six.get_set _ _ _ _).trans (if_neg hy), fun _ _ => rfl, id, id⟩

theorem leaveNormal_zoneTested (s : State) (z : Index) (x : Zone) : ZoneTested z s (leaveNormal s z x) := by
  refine ⟨leaveNormal_testKept s z x, fun _ hy => (Six.get_set _ _ _ _).trans (if_neg hy), fun _ hy => (Six.get_set _ _ _ _).trans (if_neg hy),
    fun _ => rfl, fun h => ?_⟩
  show s.scanner.window.map _ = none
  rw [h]
  rfl

theorem setLatch_zoneTested (z : Index) (s : State) : ZoneTested z s (s.setSupervisor { s.supervisor with contactorLatch := true }) :=
  ⟨setLatch_testKept s, fun _ _ => rfl, fun _ _ => rfl, id, id⟩

/-- A zone that leaves NORMAL: the record given, without its permit, and its gate off (R38, R186, R190). -/
theorem leaveNormal_zone (s : State) (z : Index) (x : Zone) : (leaveNormal s z x).zones.get z = { x with permit := false } ∧
    (leaveNormal s z x).supervisor.gates.get z = false ∧ (leaveNormal s z x).supervisor.changeMark = true :=
  ⟨Six.get_set_same _ _ _, Six.get_set_same _ _ _, rfl⟩

theorem tripZone_zoneTested (s : State) (z : Index) : ZoneTested z s (tripZone s z) := by
  simp only [tripZone]
  split
  · exact (leaveNormal_zoneTested s z _).trans (setLatch_zoneTested z _)
  · exact leaveNormal_zoneTested s z _

theorem tripTest_zoneTested (cfg : Settings) (s : State) (z : Index) : ZoneTested z s (tripTest cfg s z) := by
  unfold tripTest
  split
  · exact tripZone_zoneTested s z
  · exact .refl z s

theorem openTest_zoneTested (cfg : Settings) (s : State) (z : Index) : ZoneTested z s (openTest cfg s z) := by
  simp only [openTest]
  split
  · split
    · split
      · split
        · exact leaveNormal_zoneTested s z _
        · exact setZone_zoneTested s z _
      · exact setZone_zoneTested s z _
    · exact .refl z s
  · exact .refl z s

theorem stuckFinding_zoneTested (s : State) (z : Index) : ZoneTested z s (stuckFinding s z) := by
  simp only [stuckFinding]
  split
  · exact (setZone_zoneTested s z _).trans (setLatch_zoneTested z _)
  · exact leaveNormal_zoneTested s z _

theorem stuckTest_zoneTested (cfg : Settings) (s : State) (z : Index) : ZoneTested z s (stuckTest cfg s z) := by
  simp only [stuckTest]
  split
  · split
    · split
      · exact setZone_zoneTested s z _
      · split
        · split
          · exact stuckFinding_zoneTested s z
          · exact setZone_zoneTested s z _
        · exact setZone_zoneTested s z _
    · exact setZone_zoneTested s z _
    · exact .refl z s
  · exact .refl z s

theorem heaterTests_zoneTested (cfg : Settings) (s : State) (z : Index) : ZoneTested z s (heaterTests cfg s z) :=
  (openTest_zoneTested cfg s z).trans (stuckTest_zoneTested cfg _ z)

/-! ### The turn of one zone among all (R39, R41 to R45) -/

/-- Two states at which one zone and its gate agree, the second no earlier in a run of tests. -/
structure SameAt (z : Index) (s t : State) : Prop where
  kept : TestKept s t
  zone : t.zones.get z = s.zones.get z
  gate : t.supervisor.gates.get z = s.supervisor.gates.get z
  mark : s.supervisor.changeMark = true → t.supervisor.changeMark = true
  window : s.scanner.window = none → t.scanner.window = none

/-- The tests of other zones leave a zone and its gate. -/
theorem foldl_sameAt {f : State → Index → State} (hf : ∀ (t : State) (y : Index), ZoneTested y t (f t y)) {z : Index} (l : List Index)
    (hz : z ∉ l) (s : State) : SameAt z s (l.foldl f s) := by
  induction l generalizing s with
  | nil => exact ⟨TestKept.refl s, rfl, rfl, id, id⟩
  | cons y l ih =>
    obtain ⟨hne, hl⟩ := not_or.mp (mt List.mem_cons.mpr hz)
    have hone := hf s y
    have hrest := ih hl (f s y)
    exact ⟨hone.kept.trans hrest.kept, hrest.zone.trans (hone.zones z hne), hrest.gate.trans (hone.gates z hne), hrest.mark ∘ hone.mark,
      hrest.window ∘ hone.window⟩

/-- A run of tests over all zones gives each zone its turn: it comes to its test as it stood, and keeps what its test gives it. -/
theorem foldl_turn {f : State → Index → State} (hf : ∀ (t : State) (y : Index), ZoneTested y t (f t y)) (z : Index) (s : State) :
    ∃ u : State, SameAt z s u ∧ SameAt z (f u z) (indexes.foldl f s) := by
  obtain ⟨before, behind, hsplit⟩ := List.append_of_mem (mem_indexes z)
  have hnodup := indexes_nodup
  rw [hsplit, List.nodup_append, List.nodup_cons] at hnodup
  obtain ⟨-, ⟨hbehind, -⟩, hdisjoint⟩ := hnodup
  refine ⟨before.foldl f s, foldl_sameAt hf before (fun hmem => hdisjoint z hmem z List.mem_cons_self rfl) s, ?_⟩
  rw [hsplit, List.foldl_append, List.foldl_cons]
  exact foldl_sameAt hf behind hbehind _

/-- A run of tests over all zones, but for the zones, the gates and the marks. -/
theorem foldl_tested {f : State → Index → State} (hf : ∀ (t : State) (y : Index), ZoneTested y t (f t y)) (s : State) :
    TestKept s (indexes.foldl f s) ∧ (s.scanner.window = none → (indexes.foldl f s).scanner.window = none) :=
  ⟨foldl_keeps (P := TestKept s) (fun t z k => k.trans (hf t z).kept) indexes (TestKept.refl s),
    fun h => foldl_keeps (P := fun t => t.scanner.window = none) (fun t z k => (hf t z).window k) indexes h⟩

theorem TestKept.reads {s t : State} (h : TestKept s t) : t.scanner.control = s.scanner.control ∧ t.scanner.limiter = s.scanner.limiter ∧
    t.scanner.zones = s.scanner.zones ∧ t.scanner.scanDue = s.scanner.scanDue ∧ t.scanner.scan = s.scanner.scan ∧
    t.scanner.voltageClass = s.scanner.voltageClass ∧ t.scanner.voltage = s.scanner.voltage ∧ t.scanner.windowDue = s.scanner.windowDue := by
  rw [← h.scanner]
  exact ⟨rfl, rfl, rfl, rfl, rfl, rfl, rfl, rfl⟩

theorem TestKept.blocks {s t : State} (h : TestKept s t) : t.timeBase = s.timeBase ∧ t.placement = s.placement ∧ t.peers = s.peers ∧
    t.link = s.link ∧ t.ring = s.ring ∧ t.queue = s.queue ∧ t.loader = s.loader := by
  rw [← h.rest]
  exact ⟨rfl, rfl, rfl, rfl, rfl, rfl, rfl⟩

end Sys2Proof.Machine

namespace Sys2Proof.Proofs.ScanTrips
open Sys2Proof.Machine

/-- Settles O19: each zone's turn at the trip test, under the channels that the scan leaves. -/
theorem scanCompletionTripsHotZones : Obligations.ScanCompletionTripsHotZones := by
  unfold Obligations.ScanCompletionTripsHotZones
  refine ⟨fun cfg s control limiter hactive hdue => ?_, fun s control limiter hdue => ?_⟩
  · have hexec : exec (.scanCompletion control limiter) s =
        .next (indexes.foldl (tripTest cfg) (s.setScanner (applyScan cfg control limiter s.scanner))) :=
      congrArg Host.Outcome.next ((whenActive_of_active hactive _).trans (if_pos hdue))
    obtain ⟨hkept, -⟩ := foldl_tested (tripTest_zoneTested cfg) (s.setScanner (applyScan cfg control limiter s.scanner))
    have hturn := fun z => foldl_turn (tripTest_zoneTested cfg) z (s.setScanner (applyScan cfg control limiter s.scanner))
    generalize indexes.foldl (tripTest cfg) (s.setScanner (applyScan cfg control limiter s.scanner)) = t at hexec hkept hturn
    obtain ⟨hcontrol, hlimiter, hzones, hscanDue, hscan, hclass, -, -⟩ := hkept.reads
    obtain ⟨htime, hplacement, hpeers, hlink, hring, hqueue, hloader⟩ := hkept.blocks
    refine ⟨t, hexec, fun z => ?_, fun z => ?_, hscanDue, hscan, hzones, hclass, fun z => ?_, hkept.station, htime, hplacement, hpeers, hlink,
      hring, hqueue, hloader⟩
    · rw [hcontrol]
      exact Six.get_ofFn _ z
    · rw [hlimiter]
      exact Six.get_ofFn _ z
    · obtain ⟨u, hbefore, hafter⟩ := hturn z
      have hread : u.scanner.limiter.get z = t.scanner.limiter.get z := by rw [hbefore.kept.reads.2.1, hlimiter]
      have hzone : u.zones.get z = s.zones.get z := hbefore.zone
      have hcondition : ((cfg.zone z).enabled && decide ((u.zones.get z).condition ≠ .tripped) &&
          limiterTrips (cfg.zone z).tripLimit (u.scanner.limiter.get z)) = true ↔
          (cfg.zone z).enabled = true ∧ (s.zones.get z).condition ≠ .tripped ∧
            limiterTrips (cfg.zone z).tripLimit (t.scanner.limiter.get z) = true := by
        rw [hread, hzone]
        simp [and_assoc]
      by_cases htrips : (cfg.zone z).enabled = true ∧ (s.zones.get z).condition ≠ .tripped ∧
            limiterTrips (cfg.zone z).tripLimit (t.scanner.limiter.get z) = true
      · rw [if_pos htrips]
        have htripped : tripTest cfg u z = tripZone u z := if_pos (hcondition.mpr htrips)
        rw [htripped] at hafter
        have hleft : (tripZone u z).zones.get z = { s.zones.get z with condition := .tripped, mode := none, openCount := 0, permit := false } ∧
            (tripZone u z).supervisor.gates.get z = false ∧ (tripZone u z).supervisor.changeMark = true ∧
            ((s.zones.get z).condition = .stuckOn → (tripZone u z).supervisor.contactorLatch = true) := by
          obtain ⟨hrecord, hgate, hmark⟩ := leaveNormal_zone u z { u.zones.get z with condition := .tripped, mode := none, openCount := 0 }
          rw [hzone] at hrecord hgate hmark
          simp only [tripZone, hzone]
          split
          · exact ⟨hrecord, hgate, hmark, fun _ => rfl⟩
          · rename_i hother
            exact ⟨hrecord, hgate, hmark, fun k => absurd k hother⟩
        obtain ⟨hrecord, hgate, hmark, hlatch⟩ := hleft
        exact ⟨hafter.zone.trans hrecord, hafter.gate.trans hgate, hafter.mark hmark, fun k => hafter.kept.latch (hlatch k)⟩
      · rw [if_neg htrips]
        have hstays : tripTest cfg u z = u := if_neg fun k => htrips (hcondition.mp k)
        rw [hstays] at hafter
        exact ⟨hafter.zone.trans hzone, hafter.gate.trans hbefore.gate⟩
  · show Host.Outcome.next (whenActive s _) = _
    have hidle : ∀ cfg : Settings, scanStep cfg control limiter s = s := fun cfg => if_neg (by rw [hdue]; exact Bool.false_ne_true)
    simp only [hidle, whenActive]
    split <;> rfl

end Sys2Proof.Proofs.ScanTrips

/-! PROOFS. The completed window: what it records and reports, and the heater faults it finds (R20, R28 to R34, R41 to R45, R95, R182, R183, R188). -/

namespace Sys2Proof.Machine

/-! ### A completed window at the scanner (R28 to R33) -/

/-- The state in which the heater fault tests are made: the window recorded, and its sag reported. -/
def windowed (cfg : Settings) (w : Window) (currents : Six Nat) (voltage : Nat) (s : State) : State :=
  sagReport cfg w (s.setScanner (applyWindow cfg w currents voltage s.scanner))

theorem windowReady_of_completes {w : Window} {s : State} (h : WindowCompletes w s) : windowReady s.scanner = some w := by
  obtain h | ⟨hnone, hopen, hends⟩ := h
  · simp only [windowReady, h]
  · simp only [windowReady, hnone, hopen, Option.bind_some, windowClosing, if_pos hends]

theorem exec_windowCompletion {cfg : Settings} {s : State} {w : Window} (hactive : activeSettings s = some cfg) (h : WindowCompletes w s)
    (currents : Six Nat) (voltage : Nat) :
    exec (.windowCompletion currents voltage) s =
      .next (collapseReport (indexes.foldl (heaterTests cfg) (windowed cfg w currents voltage s))) := by
  refine congrArg Host.Outcome.next ((whenActive_of_active hactive _).trans ?_)
  simp only [windowStep, windowReady_of_completes h]
  rfl

theorem takeWindow_eq (sc : Scanner) : ∃ window : Option Window,
    takeWindow sc = { sc with windowDue := none, window := window } ∧ (sc.windowDue = none → window = none) := by
  unfold takeWindow
  split
  · rename_i w h
    exact ⟨_, rfl, fun k => (nomatch h.symm.trans k)⟩
  · rename_i h
    exact ⟨none, by rw [← h], fun _ => rfl⟩

theorem windowHadGateOn_iff (w : Window) : windowHadGateOn w = true ↔ ∃ z : Index, w.changed.get z = true ∨ w.level.get z = true := by
  simp only [windowHadGateOn, List.any_eq_true, mem_indexes, true_and, decide_eq_true_eq]
  refine exists_congr fun z => ?_
  simp only [windowGate]
  cases w.changed.get z <;> cases w.level.get z <;> simp

/-- What the recorded window leaves, and what it reports of a sag. -/
structure Windowed (cfg : Settings) (w : Window) (currents : Six Nat) (voltage : Nat) (s b : State) : Prop where
  rest : { b with scanner := s.scanner, placement := s.placement } = s
  current : b.placement.current = s.placement.current
  zone : ∀ z : Index, b.scanner.zones.get z = measureZone cfg w (min (currents.get z) 6000) (min voltage 5000) z (s.scanner.zones.get z)
  volts : b.scanner.voltage = some (min voltage 5000)
  voltsClass : b.scanner.voltageClass = some (voltageClassOf cfg (min voltage 5000))
  control : b.scanner.control = s.scanner.control
  limiter : b.scanner.limiter = s.scanner.limiter
  scan : b.scanner.scan = s.scanner.scan
  windowDue : b.scanner.windowDue = none
  window : s.scanner.windowDue = none → b.scanner.window = none
  sagCount : b.placement.sagCount =
    if b.scanner.voltageClass ≠ some .normal ∧ windowHadGateOn w = true then cfg.sagHold else s.placement.sagCount

theorem windowed_windowed (cfg : Settings) (w : Window) (currents : Six Nat) (voltage : Nat) (s : State) :
    Windowed cfg w currents voltage s (windowed cfg w currents voltage s) := by
  obtain ⟨window, htaken, hnone⟩ := takeWindow_eq s.scanner
  have happlied : applyWindow cfg w currents voltage s.scanner = { s.scanner with
      zones := Six.ofFn fun z => measureZone cfg w (min (currents.get z) 6000) (min voltage 5000) z (s.scanner.zones.get z)
      voltage := some (min voltage 5000)
      voltageClass := some (voltageClassOf cfg (min voltage 5000))
      windowDue := none
      window := window } := by
    rw [applyWindow, htaken]
    rfl
  rw [windowed, happlied, sagReport]
  split
  · rename_i hsag
    exact ⟨rfl, rfl, fun z => Six.get_ofFn _ z, rfl, rfl, rfl, rfl, rfl, rfl, hnone, (if_pos hsag).symm⟩
  · rename_i hsag
    exact ⟨rfl, rfl, fun z => Six.get_ofFn _ z, rfl, rfl, rfl, rfl, rfl, rfl, hnone, (if_neg hsag).symm⟩

/-! ### The collapse report (R34, R182, R183) -/

/-- A loss record leaves the scanner but for the gate marks of an open window. -/
theorem setMainsLost_scanner (s : State) : { (setMainsLost s).scanner with window := s.scanner.window } = s.scanner ∧
    (s.scanner.window = none → (setMainsLost s).scanner.window = none) := by
  have henter : ∀ t : State, { (enterMainsLost t).scanner with window := t.scanner.window } = t.scanner ∧
      (t.scanner.window = none → (enterMainsLost t).scanner.window = none) := fun t => by
    have hoff : t.scanner.window = none → (allGatesOff t).scanner.window = none := fun h => by
      show t.scanner.window.map _ = none
      rw [h]
      rfl
    unfold enterMainsLost setStation
    split <;> exact ⟨rfl, hoff⟩
  unfold setMainsLost
  split
  case h_2 | h_3 => exact henter (noteLoss s)
  all_goals exact ⟨rfl, id⟩

/-- A loss record turns no gate on. -/
theorem setMainsLost_gates (s : State) (z : Index) (h : s.supervisor.gates.get z = false) :
    (setMainsLost s).supervisor.gates.get z = false := by
  by_cases hwork : s.supervisor.station = .running ∨ s.supervisor.station = .held
  · obtain ⟨-, hgates, -, -⟩ := setMainsLost_entered hwork
    exact hgates z
  · unfold setMainsLost
    split
    case h_2 e => exact absurd (.inl e) hwork
    case h_3 e => exact absurd (.inr e) hwork
    all_goals exact h

theorem setMainsLost_latch (s : State) : (setMainsLost s).supervisor.contactorLatch = s.supervisor.contactorLatch := by
  unfold setMainsLost enterMainsLost setStation
  repeat' split
  all_goals rfl

end Sys2Proof.Machine

namespace Sys2Proof.Proofs.Windows
open Sys2Proof.Machine

theorem Windowed.supervisor {cfg : Settings} {w : Window} {currents : Six Nat} {voltage : Nat} {s b : State}
    (h : Windowed cfg w currents voltage s b) : b.supervisor = s.supervisor ∧ b.zones = s.zones ∧ b.timeBase = s.timeBase ∧
      b.peers = s.peers ∧ b.link = s.link ∧ b.ring = s.ring ∧ b.queue = s.queue ∧ b.loader = s.loader := by
  rw [← h.rest]
  exact ⟨rfl, rfl, rfl, rfl, rfl, rfl, rfl, rfl⟩

theorem windowGate_on_iff (w : Window) (z : Index) : windowGate w z = .on ↔ w.changed.get z = false ∧ w.level.get z = true := by
  rw [windowGate]
  cases w.changed.get z <;> cases w.level.get z <;> simp

/-- What a collapse report adds to the state after the tests (R34, R182, R183). -/
structure Collapsed (c t : State) : Prop where
  rest : { t with supervisor := c.supervisor, scanner := c.scanner } = c
  scanner : { t.scanner with window := c.scanner.window } = c.scanner
  window : c.scanner.window = none → t.scanner.window = none
  collapse : c.scanner.voltageClass = some .collapse → t.supervisor.mainsLost = true ∧ t.supervisor.recovery = 0 ∧
    (c.supervisor.station = .running ∨ c.supervisor.station = .held →
      t.supervisor.station = .mainsLost ∧ ∀ z : Index, t.supervisor.gates.get z = false)
  other : c.scanner.voltageClass ≠ some .collapse → t = c
  gates : ∀ z : Index, c.supervisor.gates.get z = false → t.supervisor.gates.get z = false
  latch : t.supervisor.contactorLatch = c.supervisor.contactorLatch

theorem collapseReport_collapsed {c : State} (h : c.supervisor.station ≠ .configFault) : Collapsed c (collapseReport c) := by
  unfold collapseReport
  split
  · rename_i hcollapse
    obtain ⟨hscanner, hwindow⟩ := setMainsLost_scanner c
    obtain ⟨hlost, hrecovery⟩ := setMainsLost_noted h
    refine ⟨setMainsLost_rest c, hscanner, hwindow, fun _ => ⟨hlost, hrecovery, fun hwork => ?_⟩, fun k => absurd hcollapse k,
      fun z hz => setMainsLost_gates c z hz, setMainsLost_latch c⟩
    obtain ⟨hstation, hgates, -, -⟩ := setMainsLost_entered hwork
    exact ⟨hstation, hgates⟩
  · rename_i hother
    exact ⟨rfl, rfl, id, fun k => absurd k hother, fun _ => rfl, fun _ => id, rfl⟩

theorem fault_of_active {cfg : Settings} {s : State} (h : activeSettings s = some cfg) : s.supervisor.station ≠ .configFault := fun e => by
  rw [activeSettings, e] at h
  simp [joinedState] at h

/-- Settles O20: the window recorded, the tests of the zones, which leave the records, and the collapse report. -/
theorem windowCompletionRecordsAndReports : Obligations.WindowCompletionRecordsAndReports := by
  unfold Obligations.WindowCompletionRecordsAndReports
  intro cfg s w currents voltage hactive hcompletes
  have hexec := exec_windowCompletion hactive hcompletes currents voltage
  have hb := windowed_windowed cfg w currents voltage s
  generalize windowed cfg w currents voltage s = b at hexec hb
  obtain ⟨hc, hcwindow⟩ := foldl_tested (heaterTests_zoneTested cfg) b
  generalize indexes.foldl (heaterTests cfg) b = c at hexec hc hcwindow
  obtain ⟨hsupervisor, -, htime, hpeers, hlink, hring, hqueue, hloader⟩ := Windowed.supervisor hb
  have hstation : c.supervisor.station = s.supervisor.station := hc.station.trans (by rw [hsupervisor])
  have ht := collapseReport_collapsed (c := c) (by rw [hstation]; exact fault_of_active hactive)
  generalize collapseReport c = t at hexec ht
  have hscanner : t.scanner.control = c.scanner.control ∧ t.scanner.limiter = c.scanner.limiter ∧ t.scanner.zones = c.scanner.zones ∧
      t.scanner.voltage = c.scanner.voltage ∧ t.scanner.voltageClass = c.scanner.voltageClass ∧ t.scanner.windowDue = c.scanner.windowDue ∧
      t.scanner.scan = c.scanner.scan := by
    rw [← ht.scanner]
    exact ⟨rfl, rfl, rfl, rfl, rfl, rfl, rfl⟩
  have hblocks : t.timeBase = c.timeBase ∧ t.peers = c.peers ∧ t.link = c.link ∧ t.ring = c.ring ∧ t.queue = c.queue ∧ t.loader = c.loader ∧
      t.placement = c.placement := by
    rw [← ht.rest]
    exact ⟨rfl, rfl, rfl, rfl, rfl, rfl, rfl⟩
  obtain ⟨hcontrol, hlimiter, hzones, hvolts, hclass, hdue, hscan⟩ := hscanner
  obtain ⟨ccontrol, climiter, czones, -, cscan, cclass, cvolts, cdue⟩ := hc.reads
  obtain ⟨ttime, tpeers, tlink, tring, tqueue, tloader, tplacement⟩ := hblocks
  obtain ⟨ctime, cplacement, cpeers, clink, cring, cqueue, cloader⟩ := hc.blocks
  have htclass : t.scanner.voltageClass = some (voltageClassOf cfg (min voltage 5000)) := hclass.trans (cclass.trans hb.voltsClass)
  refine ⟨t, hexec, hvolts.trans (cvolts.trans hb.volts), hdue.trans (cdue.trans hb.windowDue), fun h => ht.window (hcwindow (hb.window h)),
    hscan.trans (cscan.trans hb.scan), htclass, fun z => ?_, ?_, fun h => ?_, fun h => ?_, hcontrol.trans (ccontrol.trans hb.control),
    hlimiter.trans (climiter.trans hb.limiter), ttime.trans (ctime.trans htime), tpeers.trans (cpeers.trans hpeers),
    tlink.trans (clink.trans hlink), tring.trans (cring.trans hring), tqueue.trans (cqueue.trans hqueue), tloader.trans (cloader.trans hloader)⟩
  · rw [hzones, czones, hb.zone z]
    refine ⟨rfl, rfl, rfl, rfl, ?_⟩
    exact if_congr (windowGate_on_iff w z) rfl rfl
  · rw [tplacement, cplacement, hb.sagCount, htclass, hb.voltsClass]
    exact if_congr (and_congr Iff.rfl (windowHadGateOn_iff w)) rfl rfl
  · have hcollapse : c.scanner.voltageClass = some .collapse := hclass.symm.trans h
    have hlost := ht.collapse hcollapse
    rw [hstation] at hlost
    exact hlost
  · have hsame := ht.other (by rw [← hclass]; exact h)
    have hlost : c.supervisor.mainsLost = b.supervisor.mainsLost := by rw [← hc.supervisor]
    rw [hsame, hlost, hsupervisor]
    exact ⟨rfl, hstation⟩

/-- The open heater test in its third finding (R41, R42). -/
theorem openTest_third {cfg : Settings} {u : State} {z : Index} {r : Run} {load : Nat} (henabled : (cfg.zone z).enabled = true)
    (hnormal : (u.zones.get z).condition = .normal) (hgate : (u.scanner.zones.get z).gate = some .on)
    (hclass : u.scanner.voltageClass ≠ some .collapse) (hrun : runOf u.placement.current z = some r)
    (hload : (u.scanner.zones.get z).load = some load) (hlow : load * 4 < r.load) (hcount : (u.zones.get z).openCount = 2) :
    openTest cfg u z = leaveNormal u z { u.zones.get z with condition := .openFault, mode := none, openCount := 0 } := by
  have htested : ((cfg.zone z).enabled && decide ((u.zones.get z).condition = .normal) &&
      decide ((u.scanner.zones.get z).gate = some .on) && decide (u.scanner.voltageClass ≠ some .collapse)) = true := by
    rw [henabled, hnormal, hgate, decide_eq_true hclass]
    rfl
  have hthird : (u.zones.get z).openCount + 1 = 3 := by rw [hcount]
  simp only [openTest, if_pos htested, hrun, hload, if_pos hlow, if_pos hthird]

/-- The open heater test is made in an ON window alone (R41). -/
theorem openTest_off {cfg : Settings} {u : State} {z : Index} (hgate : (u.scanner.zones.get z).gate = some .off) : openTest cfg u z = u := by
  have huntested : ¬((cfg.zone z).enabled && decide ((u.zones.get z).condition = .normal) &&
      decide ((u.scanner.zones.get z).gate = some .on) && decide (u.scanner.voltageClass ≠ some .collapse)) = true := by
    rw [hgate]
    simp
  exact if_neg huntested

/-- A window with its gate ON clears the stuck-on count, and the next OFF window follows a run (R43). -/
theorem stuckTest_on {cfg : Settings} {u : State} {z : Index} {load : Nat} (henabled : (cfg.zone z).enabled = true)
    (hcondition : stuckTested (u.zones.get z).condition = true) (hgate : (u.scanner.zones.get z).gate = some .on)
    (hload : (u.scanner.zones.get z).load = some load) :
    stuckTest cfg u z = u.setZone z { u.zones.get z with stuckCount := 0, followsRun := true } := by
  have htested : ((cfg.zone z).enabled && stuckTested (u.zones.get z).condition) = true := by rw [henabled, hcondition]; rfl
  simp only [stuckTest, if_pos htested, hgate, hload]

/-- The stuck-on test in its second finding (R43, R44). -/
theorem stuckTest_second {cfg : Settings} {u : State} {z : Index} {load : Nat} (henabled : (cfg.zone z).enabled = true)
    (hcondition : stuckTested (u.zones.get z).condition = true) (hgate : (u.scanner.zones.get z).gate = some .off)
    (hload : (u.scanner.zones.get z).load = some load) (hrated : (cfg.zone z).ratedLu ≤ load * 20)
    (hfollows : (u.zones.get z).followsRun = false) (hcount : (u.zones.get z).stuckCount = 1) :
    stuckTest cfg u z = stuckFinding u z := by
  have htested : ((cfg.zone z).enabled && stuckTested (u.zones.get z).condition) = true := by rw [henabled, hcondition]; rfl
  have hjudged : ¬(u.zones.get z).followsRun = true := by rw [hfollows]; exact Bool.false_ne_true
  have hsecond : (u.zones.get z).stuckCount + 1 = 2 := by rw [hcount]
  simp only [stuckTest, if_pos htested, hgate, hload, if_neg hjudged, if_pos hrated, if_pos hsecond]

/-- What the two tests find of a zone, by the window recorded before them. -/
structure TestedIn (w : Window) (load : Nat) (z : Index) (s u : State) : Prop where
  zone : u.zones.get z = s.zones.get z
  current : u.placement.current = s.placement.current
  gate : (u.scanner.zones.get z).gate = some (windowGate w z)
  load : (u.scanner.zones.get z).load = some load

/-- A zone's turn in a completed window: how it comes to its tests, and that it keeps what they give it. -/
theorem window_turn {cfg : Settings} {s : State} {w : Window} (hactive : activeSettings s = some cfg) (hcompletes : WindowCompletes w s)
    (currents : Six Nat) (voltage : Nat) (z : Index) : ∃ u t : State,
      exec (.windowCompletion currents voltage) s = .next t ∧
      TestedIn w (measuredLoad cfg (min (currents.get z) 6000) (min voltage 5000)) z s u ∧
      u.scanner.voltageClass = some (voltageClassOf cfg (min voltage 5000)) ∧
      t.zones.get z = (heaterTests cfg u z).zones.get z ∧
      ((heaterTests cfg u z).supervisor.gates.get z = false → t.supervisor.gates.get z = false) ∧
      ((heaterTests cfg u z).supervisor.contactorLatch = true → t.supervisor.contactorLatch = true) ∧
      (u.scanner.voltageClass ≠ some .collapse → (heaterTests cfg u z).supervisor.changeMark = true → t.supervisor.changeMark = true) := by
  have hexec := exec_windowCompletion hactive hcompletes currents voltage
  have hb := windowed_windowed cfg w currents voltage s
  generalize windowed cfg w currents voltage s = b at hexec hb
  obtain ⟨u, hbefore, hafter⟩ := foldl_turn (heaterTests_zoneTested cfg) z b
  obtain ⟨hc, -⟩ := foldl_tested (heaterTests_zoneTested cfg) b
  generalize indexes.foldl (heaterTests cfg) b = c at hexec hafter hc
  obtain ⟨hsupervisor, hzones, -⟩ := Windowed.supervisor hb
  have hstation : c.supervisor.station = s.supervisor.station := hc.station.trans (by rw [hsupervisor])
  have ht := collapseReport_collapsed (c := c) (by rw [hstation]; exact fault_of_active hactive)
  generalize collapseReport c = t at hexec ht
  obtain ⟨-, -, huzones, -, -, huclass, -, -⟩ := hbefore.kept.reads
  obtain ⟨-, -, -, -, -, hcclass, -, -⟩ := hc.reads
  obtain ⟨-, huplacement, -⟩ := hbefore.kept.blocks
  have htzones : t.zones = c.zones := by rw [← ht.rest]
  refine ⟨u, t, hexec, ⟨hbefore.zone.trans (by rw [hzones]), by rw [huplacement, hb.current], ?_, ?_⟩, huclass.trans hb.voltsClass,
    by rw [htzones, hafter.zone], fun h => ht.gates z (hafter.gate.trans h), fun h => ht.latch.trans (hafter.kept.latch h), fun hclass h => ?_⟩
  · rw [huzones, hb.zone z]
    rfl
  · rw [huzones, hb.zone z]
    rfl
  · have hother : c.scanner.voltageClass ≠ some .collapse := by rw [hcclass, ← huclass]; exact hclass
    rw [ht.other hother]
    exact hafter.mark h

/-- Settles O21: the tests of one zone at its turn. -/
theorem windowCompletionFindsHeaterFaults : Obligations.WindowCompletionFindsHeaterFaults := by
  unfold Obligations.WindowCompletionFindsHeaterFaults
  refine ⟨fun cfg s w currents voltage z r hactive hcompletes hnominal henabled hnormal hchanged hlevel hrun hlow hcount => ?_,
    fun cfg s w currents voltage z hactive hcompletes henabled hchanged hlevel hrated hfollows hcount => ?_⟩
  · obtain ⟨u, t, hexec, ⟨hzone, hcurrent, hgate, hload⟩, hclass, htzone, htgate, -, htmark⟩ :=
      window_turn hactive hcompletes currents voltage z
    rw [(windowGate_on_iff w z).mpr ⟨hchanged, hlevel⟩] at hgate
    have hsound : u.scanner.voltageClass ≠ some .collapse := by
      rw [hclass, voltageClassOf, if_neg (Nat.not_lt.mpr hnominal)]
      split <;> exact fun k => nomatch k
    obtain ⟨hrecord, hoff, hmark⟩ := leaveNormal_zone u z { u.zones.get z with condition := .openFault, mode := none, openCount := 0 }
    have hopen := openTest_third henabled (by rw [hzone]; exact hnormal) hgate hsound (by rw [hcurrent]; exact hrun) hload hlow
      (by rw [hzone]; exact hcount)
    have hstuck := stuckTest_on (cfg := cfg) (u := leaveNormal u z { u.zones.get z with condition := .openFault, mode := none, openCount := 0 })
      henabled (by rw [hrecord]; rfl) hgate hload
    rw [heaterTests, hopen, hstuck] at htzone htgate htmark
    refine ⟨t, hexec, htzone.trans ((Six.get_set_same _ _ _).trans ?_), htgate hoff, htmark hsound hmark⟩
    rw [hrecord, hzone]
  · obtain ⟨u, t, hexec, ⟨hzone, hcurrent, hgate, hload⟩, -, htzone, htgate, htlatch, -⟩ :=
      window_turn hactive hcompletes currents voltage z
    have hoff : windowGate w z = .off := by rw [windowGate, hchanged, hlevel]; rfl
    rw [hoff] at hgate
    rw [heaterTests, openTest_off hgate] at htzone htgate htlatch
    have hfound : stuckTested (s.zones.get z).condition = true → stuckTest cfg u z = stuckFinding u z := fun htested =>
      stuckTest_second henabled (by rw [hzone]; exact htested) hgate hload hrated (by rw [hzone]; exact hfollows) (by rw [hzone]; exact hcount)
    refine ⟨t, hexec, fun hcondition => ?_, fun hcondition => ?_⟩
    · obtain ⟨hrecord, hgateoff, -⟩ := leaveNormal_zone u z
        { u.zones.get z with stuckCount := 0, condition := .stuckOn, mode := none, openCount := 0 }
      have hother : ¬(u.zones.get z).condition = .tripped := by
        rw [hzone]
        obtain h | h := hcondition <;> rw [h] <;> exact fun k => nomatch k
      have hfinding : stuckFinding u z = leaveNormal u z
          { u.zones.get z with stuckCount := 0, condition := .stuckOn, mode := none, openCount := 0 } := if_neg hother
      rw [hfound (by obtain h | h := hcondition <;> rw [h] <;> rfl), hfinding] at htzone htgate
      refine ⟨htzone.trans (hrecord.trans ?_), htgate hgateoff⟩
      rw [hzone]
    · have hfinding : stuckFinding u z = (u.setZone z { u.zones.get z with stuckCount := 0 }).setSupervisor
          { u.supervisor with contactorLatch := true } := if_pos (by rw [hzone]; exact hcondition)
      rw [hfound (by rw [hcondition]; rfl), hfinding] at htzone htlatch
      refine ⟨htzone.trans ((Six.get_set_same _ _ _).trans ?_), htlatch rfl⟩
      rw [hzone]

end Sys2Proof.Proofs.Windows

/-! PROOFS. The end of a reset: a read begun, or the retained image verified (R196, R197, R200, R201, R204). -/

namespace Sys2Proof.Machine

/-- RESET_END while a reset is in progress: the cause is recorded, the kinds are cleared, and the Loader decides (R196, R197). -/
theorem exec_resetEnd {s : State} (hreset : resetInProgress s = true) :
    exec .resetEnd s = .next (obtainImage s.resets
      ((s.setSupervisor { s.supervisor with cause := causeOf s.resets }).setResets ResetKinds.clear)) :=
  congrArg Host.Outcome.next (if_pos hreset)

/-- The Loader reads where a power-on or an external kind, or the missing mark, asks for it (R197). -/
theorem obtainImage_read {kinds : ResetKinds} {s : State}
    (h : kinds.powerOn = true ∨ kinds.external = true ∨ s.loader.complete = false) : obtainImage kinds s = beginRead s := by
  refine if_pos ?_
  obtain h | h | h := h <;> simp [h]

/-- The Loader verifies what it retained after a dip or a stopped oscillator (R197, R200). -/
theorem obtainImage_verify {kinds : ResetKinds} {s : State} (hpower : kinds.powerOn = false) (hexternal : kinds.external = false)
    (hcomplete : s.loader.complete = true) : obtainImage kinds s = reverify s :=
  if_neg (by simp [hpower, hexternal, hcomplete])

theorem reverify_of_match {s : State} (h : imageCheck s.loader.retained = storedCheck s.loader.retained) :
    reverify s = validate true (s.setLoader { s.loader with state := .validating, runningCheck := imageCheck s.loader.retained }) :=
  if_pos h

theorem reverify_of_mismatch {s : State} (h : imageCheck s.loader.retained ≠ storedCheck s.loader.retained) :
    reverify s = beginRead s := if_neg h

/-- An image whose check matches and whose fields are good is settled (R201, R204). -/
theorem validate_good {s : State} {checkMatches : Bool} (hcheck : checkMatches = true) (hfields : imageFieldsGood s.loader.retained = true) :
    validate checkMatches s = settleImage s := if_pos (by rw [hcheck, hfields]; rfl)

/-- Any other image is a bad one (R204). -/
theorem validate_bad {s : State} {checkMatches : Bool}
    (h : ¬(checkMatches = true ∧ imageFieldsGood s.loader.retained = true)) : validate checkMatches s = badImage s :=
  if_neg (by rwa [Bool.and_eq_true])

/-- A bad image changes the Loader's state and the station alone (R177, R204). -/
theorem badImage_rest {s t : State} (h : badImage s = t) : t.supervisor.station = .configFault ∧ t.loader.state = .bad ∧
    t.loader.retained = s.loader.retained ∧ t.loader.complete = s.loader.complete ∧ t.loader.sck = s.loader.sck ∧
    t.loader.mosi = s.loader.mosi ∧ t.loader.settled = s.loader.settled ∧ t.resets = s.resets := by
  subst h
  unfold badImage setStation
  split
  · exact ⟨by assumption, rfl, rfl, rfl, rfl, rfl, rfl, rfl⟩
  · exact ⟨rfl, rfl, rfl, rfl, rfl, rfl, rfl, rfl⟩

end Sys2Proof.Machine

namespace Sys2Proof.Proofs.ResetEnd
open Sys2Proof.Machine

/-- Settles O50: the read clause is what `beginRead` writes; the verification goes by the check, then by the fields. -/
theorem resetEndReadsOrVerifies : Obligations.ResetEndReadsOrVerifies := by
  unfold Obligations.ResetEndReadsOrVerifies
  refine ⟨fun s hreset hread hstation => ?_, fun s hreset hpower hexternal hcomplete hstation => ?_⟩
  · refine ⟨_, (exec_resetEnd hreset).trans (congrArg Host.Outcome.next (obtainImage_read hread)), rfl, ?_, ?_⟩
    · show (true && decide (s.supervisor.station = .starting)) && true = true
      simp [hstation]
    · show (true && decide (s.supervisor.station ≠ .configFault)) = true
      simp [hstation]
  · have hexec := (exec_resetEnd hreset).trans (congrArg Host.Outcome.next (obtainImage_verify (s := (s.setSupervisor
      { s.supervisor with cause := causeOf s.resets }).setResets ResetKinds.clear) hpower hexternal hcomplete))
    by_cases hcheck : imageCheck s.loader.retained = storedCheck s.loader.retained
    · rw [reverify_of_match (by exact hcheck)] at hexec
      by_cases hfields : imageFieldsGood s.loader.retained = true
      · rw [validate_good rfl (by exact hfields)] at hexec
        exact ⟨_, hexec, rfl, rfl, fun h => absurd hcheck h, fun _ h => Bool.noConfusion (hfields.symm.trans h),
          fun _ _ => ⟨rfl, rfl, rfl, hstation⟩⟩
      · rw [validate_bad (by exact fun h => hfields h.2)] at hexec
        obtain ⟨hfault, hstate, hretained, hmark, -, -, hsettled, hresets⟩ := badImage_rest rfl
        exact ⟨_, hexec, hresets, hretained, fun h => absurd hcheck h,
          fun _ _ => ⟨hstate, hmark.trans hcomplete, hfault, hsettled⟩, fun _ h => absurd h hfields⟩
    · rw [reverify_of_mismatch (by exact hcheck)] at hexec
      exact ⟨_, hexec, rfl, rfl, fun _ => ⟨rfl, rfl, hstation⟩, fun h => absurd h hcheck, fun h => absurd h hcheck⟩

end Sys2Proof.Proofs.ResetEnd

/-! PROOFS. The read of the image, clock by clock and byte by byte, and its validation (R133, R198, R201, R204). -/

namespace Sys2Proof.Machine

/-! ### A clock of the read (R198) -/

/-- CFG_MOSI is high before the seventh and the eighth clock alone, the low bits of a byte of value 3 (R198; assumption log 39). -/
theorem mosiAfter_eq (n : Nat) : mosiAfter n = decide (n = 6 ∨ n = 7) := by
  have hcommand : ∀ m : Fin 24, mosiAfter m.val = decide (m.val = 6 ∨ m.val = 7) := by decide
  by_cases h : n < 24
  · exact hcommand ⟨n, h⟩
  · have hlength : (readCommand.flatMap byteBits).length ≤ n := Nat.le_of_not_lt h
    rw [mosiAfter, List.getD_eq_getElem?_getD, List.getElem?_eq_none hlength]
    exact (decide_eq_false (by omega)).symm

/-- A clock under the command: its level is not kept (R198; assumption log 39). -/
theorem spiClock_command {l : Loader} (hreading : l.state = .reading) (hclocks : l.clocks < 24) (miso : Bool) :
    spiClock l miso = { l with clocks := l.clocks + 1, sck := false, mosi := mosiAfter (l.clocks + 1) } := by
  have hmore : ¬ l.clocks + 1 = readClocks := by unfold readClocks commandClocks Config.imageSize; omega
  rw [spiClock, if_pos hreading, risingEdge, if_pos (show l.clocks < commandClocks from hclocks), endRead, if_neg (by exact hmore)]
  rfl

/-- The Loader with bits of a byte in progress, past the command (R198). -/
def bitsHeld (bits : List Bool) (l : Loader) : Loader :=
  { l with shift := bits, clocks := l.clocks + bits.length, sck := false, mosi := false }

/-- A clock that does not end a byte holds one bit more (R198). -/
theorem spiClock_bit {l : Loader} {bits : List Bool} (hreading : l.state = .reading) (hstart : 24 ≤ l.clocks)
    (hbits : bits.length < 7) (hroom : l.clocks + 8 ≤ 1048) (miso : Bool) :
    spiClock (bitsHeld bits l) miso = bitsHeld (bits ++ [miso]) l := by
  have hmore : ¬ l.clocks + bits.length + 1 = readClocks := by unfold readClocks commandClocks Config.imageSize; omega
  have hpast : ¬ (bitsHeld bits l).clocks < commandClocks := by
    show ¬ l.clocks + bits.length < 24
    omega
  have hbyte : ((bitsHeld bits l).shift ++ [miso]).length < 8 := by
    rw [List.length_append]
    show bits.length + 1 < 8
    omega
  have hlow : mosiAfter (l.clocks + bits.length + 1) = false := by
    rw [mosiAfter_eq]
    exact decide_eq_false (by omega)
  rw [spiClock, if_pos (by exact hreading), risingEdge, if_neg hpast, takeMiso, if_pos hbyte, endRead, if_neg (by exact hmore)]
  exact (Loader.mk.injEq ..).mpr ⟨rfl, rfl, rfl, rfl, by rw [List.length_append]; rfl, rfl, rfl, hlow, rfl⟩

/-- The bits of a byte short of its last are held (R198). -/
theorem foldl_spiClock_bits {l : Loader} (hreading : l.state = .reading) (hstart : 24 ≤ l.clocks) (hroom : l.clocks + 8 ≤ 1048)
    (more : List Bool) (bits : List Bool) (hbits : bits.length + more.length ≤ 7) :
    more.foldl spiClock (bitsHeld bits l) = bitsHeld (bits ++ more) l := by
  induction more generalizing bits with
  | nil => rw [List.append_nil]; rfl
  | cons miso more ih =>
    rw [List.length_cons] at hbits
    rw [List.foldl_cons, spiClock_bit hreading hstart (by omega) hroom, ih _ (by rw [List.length_append]; exact by simp; omega),
      List.append_assoc, List.singleton_append]

/-- The Loader with a byte of the image arrived (R133, R198). -/
def byteTaken (i : Nat) (b : Byte) (l : Loader) : Loader :=
  { storeByte i b l with clocks := l.clocks + 8, shift := [], sck := false, mosi := false }

/-- The eighth bit of a byte stores it, and the 128th byte ends the read (R198). -/
theorem spiClock_byte {l : Loader} {bits : List Bool} {i : Nat} (hreading : l.state = .reading) (hclocks : l.clocks = 24 + 8 * i)
    (hbits : bits.length = 7) (miso : Bool) :
    spiClock (bitsHeld bits l) miso = endRead (byteTaken i (BitVec.ofNat 8 (bitsNat (bits ++ [miso]))) l) := by
  have hpast : ¬ (bitsHeld bits l).clocks < commandClocks := by
    show ¬ l.clocks + bits.length < 24
    omega
  have hbyte : ¬ ((bitsHeld bits l).shift ++ [miso]).length < 8 := by
    rw [List.length_append]
    show ¬ bits.length + 1 < 8
    omega
  have hplace : (l.clocks + bits.length - commandClocks) / 8 = i := by unfold commandClocks; omega
  have hcount : l.clocks + bits.length + 1 = l.clocks + 8 := by omega
  have hlow : mosiAfter (l.clocks + 8) = false := by
    rw [mosiAfter_eq]
    exact decide_eq_false (by omega)
  have hedge : risingEdge miso (bitsHeld bits l) =
      endRead { byteTaken i (BitVec.ofNat 8 (bitsNat (bits ++ [miso]))) l with sck := true } := by
    rw [risingEdge, if_neg hpast, takeMiso, if_neg hbyte]
    show endRead { storeByte ((l.clocks + bits.length - commandClocks) / 8) _ _ with sck := true, clocks := l.clocks + bits.length + 1 } = _
    rw [hplace, hcount]
    rfl
  rw [spiClock, if_pos (by exact hreading), hedge]
  unfold endRead
  split
  · exact (Loader.mk.injEq ..).mpr ⟨rfl, rfl, rfl, rfl, rfl, rfl, rfl, hlow, rfl⟩
  · exact (Loader.mk.injEq ..).mpr ⟨rfl, rfl, rfl, rfl, rfl, rfl, rfl, hlow, rfl⟩

theorem ofNat_bitsNat_byteBits (b : Byte) : BitVec.ofNat 8 (bitsNat (byteBits b)) = b := by
  rw [byteBits_eq, bitsNat_natBits b.isLt, BitVec.ofNat_toNat, BitVec.setWidth_eq]

/-- A byte on CFG_MISO, bit 7 first, is taken at its place (R198). -/
theorem foldl_spiClock_byte {l : Loader} {i : Nat} (hreading : l.state = .reading) (hclocks : l.clocks = 24 + 8 * i) (hi : i < 128)
    (hshift : l.shift = []) (hsck : l.sck = false) (hmosi : l.mosi = false) (b : Byte) :
    (byteBits b).foldl spiClock l = endRead (byteTaken i b l) := by
  have hheld : l = bitsHeld [] l := (Loader.mk.injEq ..).mpr ⟨rfl, rfl, rfl, rfl, rfl, hshift, hsck, hmosi, rfl⟩
  have hfirst : byteBits b = (byteBits b).take 7 ++ [b.getLsbD 0] := rfl
  have hseven := foldl_spiClock_bits hreading (by omega) (by omega) ((byteBits b).take 7) [] (Nat.le_refl 7)
  rw [← hheld, List.nil_append] at hseven
  rw [hfirst, List.foldl_append, hseven, List.foldl_cons, List.foldl_nil, spiClock_byte hreading hclocks rfl, ← hfirst,
    ofNat_bitsNat_byteBits]

/-! ### The whole read (R133, R198) -/

/-- The bytes from one on to the 128th end the read, stored in turn, those before byte 126 taken into the running check (R133, R198). -/
theorem foldl_spiClock_bytes (bytes : List Byte) {l : Loader} {i : Nat} (hcount : i + bytes.length = 128) (hi : i < 128)
    (hreading : l.state = .reading) (hclocks : l.clocks = 24 + 8 * i) (hshift : l.shift = []) (hsck : l.sck = false)
    (hmosi : l.mosi = false) (hstored : i ≤ l.retained.length) (hretained : l.retained.length ≤ 128) :
    (bytes.flatMap byteBits).foldl spiClock l =
      { l with
        state := .validating, retained := l.retained.take i ++ bytes, complete := true
        runningCheck := (bytes.take (126 - i)).foldl checkByte l.runningCheck
        clocks := 1048, shift := [], sck := false, mosi := false } := by
  induction bytes generalizing l i with
  | nil => exact absurd hcount (by simp; omega)
  | cons b bytes ih =>
    rw [List.length_cons] at hcount
    have hlength : (l.retained.take i).length = i := by rw [List.length_take]; omega
    have htaken : (byteBits b).foldl spiClock l = endRead (byteTaken i b l) :=
      foldl_spiClock_byte hreading hclocks hi hshift hsck hmosi b
    have hcheck : (byteTaken i b l).runningCheck = if i < 126 then checkByte l.runningCheck b else l.runningCheck := rfl
    rw [List.flatMap_cons, List.foldl_append, htaken]
    by_cases hlast : i = 127
    · obtain rfl : bytes = [] := List.length_eq_zero_iff.mp (by omega)
      have hend : (byteTaken i b l).clocks = readClocks := by
        show l.clocks + 8 = 1048
        omega
      have hdrop : l.retained.drop (i + 1) = [] := List.drop_eq_nil_of_le (by omega)
      rw [endRead, if_pos hend]
      refine (Loader.mk.injEq ..).mpr ⟨rfl, ?_, rfl, ?_, hend, rfl, rfl, rfl, rfl⟩
      · exact congrArg (fun rest => l.retained.take i ++ b :: rest) hdrop
      · rw [hlast]; rfl
    · have hmore : ¬ (byteTaken i b l).clocks = readClocks := by
        show ¬ l.clocks + 8 = 1048
        omega
      have hwritten : (byteTaken i b l).retained = l.retained.take i ++ b :: l.retained.drop (i + 1) := rfl
      have hlong : (byteTaken i b l).retained.length = max (i + 1) l.retained.length := by
        rw [hwritten, List.length_append, List.length_cons, List.length_drop, hlength]
        omega
      have hplaced : (byteTaken i b l).retained.take (i + 1) = l.retained.take i ++ [b] := by
        rw [hwritten, List.take_append, hlength, List.take_of_length_le (by omega), Nat.add_sub_cancel_left]
        rfl
      rw [endRead, if_neg hmore]
      refine (ih (i := i + 1) (by omega) (by omega) (by exact hreading) (by show l.clocks + 8 = _; omega) (by rfl) (by rfl) (by rfl)
        (by omega) (by omega)).trans ?_
      refine (Loader.mk.injEq ..).mpr ⟨rfl, ?_, rfl, ?_, rfl, rfl, rfl, rfl, rfl⟩
      · rw [hplaced, List.append_assoc]; rfl
      · rw [hcheck]
        by_cases h : i < 126
        · rw [if_pos h, show 126 - i = (126 - (i + 1)) + 1 by omega, List.take_succ_cons, List.foldl_cons]
        · rw [if_neg h, show 126 - i = 0 by omega, show 126 - (i + 1) = 0 by omega]
          rfl

/-- The levels under the command leave the Loader at its 24th clock (R198; assumption log 39). -/
theorem foldl_spiClock_command (under : List Bool) {l : Loader} (hreading : l.state = .reading)
    (hclocks : l.clocks + under.length = 24) (hunder : 0 < under.length) :
    under.foldl spiClock l = { l with clocks := 24, sck := false, mosi := false } := by
  induction under generalizing l with
  | nil => exact absurd hunder (Nat.lt_irrefl 0)
  | cons miso under ih =>
    rw [List.length_cons] at hclocks
    rw [List.foldl_cons, spiClock_command hreading (by omega)]
    by_cases hlast : under.length = 0
    · rw [List.length_eq_zero_iff.mp hlast, show l.clocks + 1 = 24 by omega]
      rfl
    · exact ih (by exact hreading) (by show l.clocks + 1 + under.length = 24; omega) (by omega)

/-- One clock short of the last keeps the read going (R198). -/
theorem spiClock_unfinished {l : Loader} (hreading : l.state = .reading) (hclocks : l.clocks + 1 < 1048) (miso : Bool) :
    (spiClock l miso).state = .reading ∧ (spiClock l miso).clocks = l.clocks + 1 := by
  have hmore : ¬ l.clocks + 1 = readClocks := by unfold readClocks commandClocks Config.imageSize; omega
  rw [spiClock, if_pos hreading, risingEdge, endRead, if_neg (by exact hmore)]
  refine ⟨?_, rfl⟩
  by_cases h : l.clocks < commandClocks
  · simp only [if_pos h]
    exact hreading
  · have hstate := congrArg Loader.state (takeMiso_kept miso l)
    simp only [if_neg h]
    exact hstate.trans hreading

/-- Levels short of the whole read leave it unfinished (R198). -/
theorem foldl_spiClock_unfinished (bits : List Bool) {l : Loader} (hreading : l.state = .reading)
    (hclocks : l.clocks + bits.length < 1048) : (bits.foldl spiClock l).state = .reading := by
  induction bits generalizing l with
  | nil => exact hreading
  | cons miso bits ih =>
    rw [List.length_cons] at hclocks
    obtain ⟨hstate, hnext⟩ := spiClock_unfinished hreading (by omega) miso
    exact ih hstate (by rw [hnext]; omega)

/-! ### READ_COMPLETE (R198, R201) -/

/-- READ_COMPLETE while the Loader reads in STARTING takes its levels (R198). -/
theorem exec_readComplete {s : State} (hstarting : startingUp s = true) (hreading : s.loader.state = .reading) (bits : List Bool) :
    exec (.readComplete bits) s = .next (takeMisoBits bits s) :=
  congrArg Host.Outcome.next (if_pos (by rw [hstarting, decide_eq_true hreading]; rfl))

/-- Levels that leave the read unfinished move the Loader alone (R198). -/
theorem takeMisoBits_unfinished {s : State} {bits : List Bool} (h : (bits.foldl spiClock s.loader).state = .reading) :
    takeMisoBits bits s = s.setLoader (bits.foldl spiClock s.loader) :=
  if_neg (by rw [h]; exact fun k => nomatch k)

/-- Settlement writes the Loader, the zones and the loopback check alone (R204, R205). -/
theorem settleImage_zone (s : State) (z : Index) :
    (settleImage s).zones.get z = settleZone ((settingsOf s.loader.retained).zone z).enabled (s.zones.get z) := Six.get_ofFn _ z

theorem settleZone_disabled_iff (enabled : Bool) (x : Zone) : (settleZone enabled x).condition = .disabled ↔ enabled = false := by
  cases enabled with
  | false => exact iff_of_true rfl rfl
  | true =>
    refine iff_of_false ?_ (fun k => nomatch k)
    rw [settleZone, if_pos rfl]
    split
    · exact fun k => nomatch k
    · assumption

theorem settleZone_kept {enabled : Bool} {x : Zone} (henabled : enabled = true) (h : x.condition ≠ .disabled) :
    settleZone enabled x = x := by rw [settleZone, if_pos henabled, if_neg h]

end Sys2Proof.Machine

namespace Sys2Proof.Proofs.ImageRead
open Sys2Proof.Machine

/-- Settles O51: the whole read by its bytes, the command clock by clock, and pieces by the fold over both. -/
theorem readImageIsValidated : Obligations.ReadImageIsValidated := by
  unfold Obligations.ReadImageIsValidated
  refine ⟨fun s under image hstarting hreading hclocks hshift hcheck hunder himage hretained => ?_,
    fun s miso hstarting hreading hclocks => ?_, fun s t a b hroom hexec => ?_⟩
  · have hresets : resetInProgress s = false := by
      have := hstarting
      rw [startingUp, Bool.and_eq_true] at this
      simpa using this.1
    have hread : (under ++ image.flatMap byteBits).foldl spiClock s.loader =
        { s.loader with state := .validating, retained := image, complete := true, runningCheck := imageCheck image, clocks := 1048, shift := [], sck := false, mosi := false } := by
      rw [List.foldl_append, foldl_spiClock_command under hreading (by omega) (by omega)]
      refine (foldl_spiClock_bytes image (i := 0) (by omega) (by omega) (by exact hreading) (by rfl) (by exact hshift) (by rfl) (by rfl)
        (Nat.zero_le _) (by exact hretained)).trans ?_
      refine (Loader.mk.injEq ..).mpr ⟨rfl, rfl, rfl, ?_, rfl, rfl, rfl, rfl, rfl⟩
      exact congrArg (fun r => (image.take 126).foldl checkByte r) hcheck
    have hdone : exec (.readComplete (under ++ image.flatMap byteBits)) s = .next (validate (decide (imageCheck image = storedCheck image))
        (s.setLoader { s.loader with state := .validating, retained := image, complete := true, runningCheck := imageCheck image, clocks := 1048, shift := [], sck := false, mosi := false })) := by
      rw [exec_readComplete hstarting hreading, takeMisoBits, hread]
      rfl
    by_cases hgood : imageCheck image = storedCheck image ∧ imageFieldsGood image = true
    · rw [validate_good (decide_eq_true hgood.1) (by exact hgood.2)] at hdone
      refine ⟨_, hdone, rfl, rfl, rfl, rfl, Bool.and_false _, fun _ => ⟨rfl, rfl, rfl, rfl, fun z => ⟨?_, fun henabled hother => ?_⟩⟩,
        fun h => absurd hgood h⟩
      · rw [settleImage_zone]
        exact settleZone_disabled_iff _ _
      · rw [settleImage_zone]
        exact settleZone_kept henabled hother
    · rw [validate_bad (by rw [decide_eq_true_iff]; exact hgood)] at hdone
      obtain ⟨hfault, hstate, hkept, hmark, hsck, hmosi, hsettled, hkinds⟩ := badImage_rest rfl
      refine ⟨_, hdone, hkept, hmark, hsck, hmosi, ?_, fun h => absurd h hgood, fun _ => ⟨hstate, hsettled, hfault, ?_, ?_, ?_⟩⟩
      · rw [cfgSelect, hstate]
        exact Bool.and_false _
      · simp [alarm, hfault]
      · simp [contactorClosed, joinedState, hfault]
      · simp [monitoring, hfault]
  · have hclock := spiClock_command hreading hclocks miso
    have hunfinished : ([miso].foldl spiClock s.loader).state = .reading := by
      rw [List.foldl_cons, List.foldl_nil, hclock]
      exact hreading
    rw [exec_readComplete hstarting hreading, takeMisoBits_unfinished hunfinished, List.foldl_cons, List.foldl_nil, hclock, mosiAfter_eq]
    have hbits : (s.loader.clocks + 1 = 6 ∨ s.loader.clocks + 1 = 7) ↔ (s.loader.clocks = 5 ∨ s.loader.clocks = 6) := by omega
    rw [decide_eq_decide.mpr hbits]
    rfl
  · by_cases hreads : startingUp s = true ∧ s.loader.state = .reading
    · obtain ⟨hstarting, hreading⟩ := hreads
      have hunfinished := foldl_spiClock_unfinished a hreading hroom
      rw [exec_readComplete hstarting hreading, takeMisoBits_unfinished hunfinished] at hexec
      obtain rfl := Host.Outcome.next.inj hexec
      rw [exec_readComplete hstarting hreading, exec_readComplete (by exact hstarting) (by exact hunfinished), takeMisoBits, takeMisoBits,
        List.foldl_append]
      rfl
    · have hidle : ∀ bits, exec (.readComplete bits) s = .next s := fun bits =>
        congrArg Host.Outcome.next (if_neg (by rw [Bool.and_eq_true, decide_eq_true_iff]; exact hreads))
      rw [hidle] at hexec
      obtain rfl := Host.Outcome.next.inj hexec
      rw [hidle, hidle]

end Sys2Proof.Proofs.ImageRead

/-! PROOFS. The loopback check: its idle wait, the test frame through the link loop, and the entry into LISTENING (R176, R178, R205, R206). -/

namespace Sys2Proof.Machine

/-! ### The frame in the link loop (R119, R120, R206) -/

section Loop

variable {d acc later : List Bool} {b v : Bool} {run : Nat} (hd : WholeData d) (hsplit : acc.reverse ++ b :: later = d)
include hd hsplit

/-- One data bit taken in the loop: the next ones follow, or the check has passed. -/
theorem loopFrame_data (hrun : run ≠ 6) (bits : List Bool) :
    loopFrame v run acc acc.length (dataNeed d acc.length) (b :: bits) =
      if later = [] then some (frameOfData d)
      else loopFrame b (if b = v then run + 1 else 1) (b :: acc) (acc.length + 1) (dataNeed d (acc.length + 1)) bits := by
  have hlength := acc_length hd hsplit
  have htotal : 35 ≤ dataTotal d := Nat.le_add_right _ _
  have hlast : acc.length + 1 = dataNeed d (acc.length + 1) ↔ later = [] := by
    rw [← List.length_eq_zero_iff]
    unfold dataNeed
    split <;> omega
  rw [loopFrame, if_neg hrun]
  simp only [need_after hsplit, hlast]
  split
  · rename_i hnil
    have hall : (b :: acc).reverse = d := by rw [List.reverse_cons, ← hsplit, hnil]
    rw [hall, if_pos hd.check]
  · rfl

end Loop

/-- The bits sent for the rest of the data: those up to its last bit, which the loop takes as the whole frame, and at most a stuff bit
after them (R119, R206). -/
theorem stuffBits_loop {d : List Bool} (hd : WholeData d) (later : List Bool) (acc : List Bool) (v : Bool) (run arb : Nat)
    (hsplit : acc.reverse ++ later = d) (hne : later ≠ []) :
    ∃ core extra : List SentBit, stuffBits v run arb later = core ++ extra ∧
      (extra = [] ∨ ∃ b : SentBit, extra = [b] ∧ b.stuff = true) ∧ (∃ b : SentBit, core.getLast? = some b ∧ b.stuff = false) ∧
      loopFrame v run acc acc.length (dataNeed d acc.length) (core.map SentBit.level) = some (frameOfData d) ∧
      loopFrame v run acc acc.length (dataNeed d acc.length) ((core ++ extra).map SentBit.level) = some (frameOfData d) := by
  induction later generalizing acc v run arb with
  | nil => exact absurd rfl hne
  | cons b later ih =>
    have hdata : ∀ (w : Bool) (n arb : Nat) (mark : Bool), n ≠ 6 → ∃ core extra : List SentBit,
        (⟨b, mark, false⟩ : SentBit) :: stuffBits b (if b = w then n + 1 else 1) arb later = core ++ extra ∧
        (extra = [] ∨ ∃ b : SentBit, extra = [b] ∧ b.stuff = true) ∧ (∃ b : SentBit, core.getLast? = some b ∧ b.stuff = false) ∧
        loopFrame w n acc acc.length (dataNeed d acc.length) (core.map SentBit.level) = some (frameOfData d) ∧
        loopFrame w n acc acc.length (dataNeed d acc.length) ((core ++ extra).map SentBit.level) = some (frameOfData d) := by
      intro w n arb mark hn
      have htaken := loopFrame_data (v := w) hd hsplit hn
      by_cases hnil : later = []
      · subst hnil
        refine ⟨[⟨b, mark, false⟩], stuffBits b (if b = w then n + 1 else 1) arb [], rfl, ?_, ⟨_, rfl, rfl⟩, ?_, ?_⟩
        · rw [stuffBits]
          by_cases h6 : (if b = w then n + 1 else 1) = 6
          · exact .inr ⟨⟨!b, false, true⟩, if_pos h6, rfl⟩
          · exact .inl (if_neg h6)
        · exact (htaken []).trans (if_pos rfl)
        · exact (htaken _).trans (if_pos rfl)
      · obtain ⟨core, extra, hsent, hextra, ⟨last, hlast, hbit⟩, hcore, hwhole⟩ := ih (b :: acc) b (if b = w then n + 1 else 1) arb
          (by rw [List.reverse_cons, List.append_assoc]; exact hsplit) hnil
        refine ⟨⟨b, mark, false⟩ :: core, extra, congrArg _ hsent, hextra, ⟨last, ?_, hbit⟩, ?_, ?_⟩
        · rw [List.getLast?_cons, hlast]; rfl
        · exact (htaken _).trans ((if_neg hnil).trans hcore)
        · exact (htaken _).trans ((if_neg hnil).trans hwhole)
    rw [stuffBits]
    split
    · rename_i h6
      subst h6
      obtain ⟨core, extra, hsent, hextra, ⟨last, hlast, hbit⟩, hcore, hwhole⟩ := hdata (!v) 1 (arb - 1) (decide (0 < arb)) (by decide)
      have hstuff : ∀ bits, loopFrame v 6 acc acc.length (dataNeed d acc.length) ((!v) :: bits) =
          loopFrame (!v) 1 acc acc.length (dataNeed d acc.length) bits := fun bits => by
        rw [loopFrame, if_pos rfl, if_neg (by cases v <;> decide)]
      refine ⟨⟨!v, false, true⟩ :: core, extra, congrArg _ hsent, hextra, ⟨last, ?_, hbit⟩, ?_, ?_⟩
      · rw [List.getLast?_cons, hlast]; rfl
      · exact (hstuff _).trans hcore
      · exact (hstuff _).trans hwhole
    · exact hdata v run (arb - 1) (decide (0 < arb)) ‹_›

/-- The test frame: the bits sent up to the last bit of the Check, which the loop takes as the frame sent (R119, R120, R206). -/
theorem testFrame_sent (cfg : Settings) : ∃ extra : List SentBit,
    sentBits 3 cfg.address cfg.group [0#8, 255#8] = testFrame cfg ++ extra ∧
      (extra = [] ∨ ∃ b : SentBit, extra = [b] ∧ b.stuff = true) ∧
      (∃ b : SentBit, (testFrame cfg).getLast? = some b ∧ b.stuff = false) ∧
      loopFrame false 1 [] 0 19 ((testFrame cfg).map SentBit.level) =
        some (frameOfData (frameData 3 cfg.address cfg.group [0#8, 255#8])) ∧
      loopFrame false 1 [] 0 19 ((testFrame cfg ++ extra).map SentBit.level) =
        some (frameOfData (frameData 3 cfg.address cfg.group [0#8, 255#8])) := by
  have hwhole := frameData_whole 3 cfg.address cfg.group (payload := [0#8, 255#8]) (by decide)
  have hne : frameData 3 cfg.address cfg.group [0#8, 255#8] ≠ [] := fun h => by
    have := hwhole.length
    rw [h] at this
    exact absurd this (by unfold dataTotal; rw [List.length_nil]; omega)
  obtain ⟨core, extra, hsent, hextra, ⟨last, hlast, hbit⟩, hcore, hall⟩ := stuffBits_loop hwhole _ [] false 1 9 rfl hne
  have htest : testFrame cfg = core := by
    have hbits : ownBits cfg 3 [0#8, 255#8] = core ++ extra := hsent
    rw [testFrame, hbits]
    obtain rfl | ⟨b, rfl, hstuff⟩ := hextra
    · rw [List.append_nil]
      exact if_neg (by rw [hlast]; simp [hbit])
    · rw [List.dropLast_concat]
      exact if_pos (by rw [List.getLast?_concat]; exact hstuff)
  rw [htest]
  exact ⟨extra, hsent, hextra, ⟨last, hlast, hbit⟩, hcore, hall⟩

end Sys2Proof.Machine

namespace Sys2Proof.Machine

/-! ### The idle wait and the entry into LISTENING (R176, R178, R205) -/

theorem startingSettings_some {cfg : Settings} {s : State} (h : startingSettings s = some cfg) :
    s.supervisor.station = .starting ∧ s.loader.settled = some cfg := by
  unfold startingSettings at h
  split at h
  · rename_i hstarting
    rw [startingUp, Bool.and_eq_true, decide_eq_true_iff] at hstarting
    exact ⟨hstarting.2, h⟩
  · exact nomatch h

/-- Recessive samples short of the tenth of a run are counted (R205). -/
theorem foldl_loopSample_waiting (cfg : Settings) (k run n : Nat) (hrun : run + k < 10) (hn : n + k ≤ 2048) :
    (List.replicate k true).foldl (loopSample cfg) (.waiting run n) = .waiting (run + k) (n + k) := by
  induction k generalizing run n with
  | zero => rfl
  | succ k ih =>
    have hlimit : ¬ Config.loopbackLimit ≤ n := by unfold Config.loopbackLimit; omega
    have hshort : run + 1 < 10 := by omega
    rw [List.replicate_succ, List.foldl_cons, loopSample, if_neg hlimit, if_neg (by decide), if_pos hshort,
      ih _ _ (by omega) (by omega), Nat.add_assoc, Nat.add_assoc, Nat.add_comm 1 k]

/-- The tenth recessive sample of a run passes the idle wait (R205). -/
theorem foldl_loopSample_passed (cfg : Settings) {run n : Nat} (hrun : run < 10) (hn : n + (10 - run) ≤ 2048) :
    (List.replicate (10 - run) true).foldl (loopSample cfg) (.waiting run n) = .sending (testFrame cfg) := by
  have hlast : 10 - run = (9 - run) + 1 := by omega
  have hlimit : ¬ Config.loopbackLimit ≤ n + (9 - run) := by unfold Config.loopbackLimit; omega
  have htenth : ¬ run + (9 - run) + 1 < 10 := by omega
  rw [hlast, List.replicate_succ', List.foldl_append, foldl_loopSample_waiting cfg _ _ _ (by omega) (by omega), List.foldl_cons,
    List.foldl_nil, loopSample, if_neg hlimit, if_neg (by decide), if_neg htenth]

theorem exec_loopbackIdleWaitPassed {cfg : Settings} {s : State} {run n : Nat} (hcfg : startingSettings s = some cfg)
    (hwaiting : s.link.loopback = .waiting run n) (bits : List Bool) :
    exec (.loopbackIdleWaitPassed (.sampled bits)) s = .next (loopSamples cfg bits s) := by
  refine congrArg Host.Outcome.next ?_
  simp only [hcfg, hwaiting, takeBits_sampled]

theorem exec_loopbackTimeout {cfg : Settings} {s : State} {run n : Nat} (hcfg : startingSettings s = some cfg)
    (hwaiting : s.link.loopback = .waiting run n) : exec .loopbackTimeout s = .next (endLoopback cfg .failed s) := by
  refine congrArg Host.Outcome.next ?_
  simp only [hcfg, hwaiting]

theorem exec_loopbackCheckEnd {cfg : Settings} {s : State} {sent : List SentBit} (hcfg : startingSettings s = some cfg)
    (hsending : s.link.loopback = .sending sent) (disturbed : List Nat) :
    exec (.loopbackCheckEnd disturbed) s =
      .next (endLoopback cfg (if loopbackPasses cfg (throughLoop disturbed sent) then .passed else .failed) s) := by
  refine congrArg Host.Outcome.next ?_
  simp only [hcfg, hsending]

/-- What the end of the loopback check writes: the station, its Time Base and the link's tracking and result (R176, R178, R206). -/
theorem endLoopback_eq {cfg : Settings} {s : State} (hstation : s.supervisor.station = .starting) (r : LoopbackResult) :
    endLoopback cfg r s = { s with
      supervisor := { s.supervisor with station := .listening, changeMark := true, joinCount := 0, holdRequest := s.holdPin }
      timeBase := startCounting cfg s.timeBase
      link := { s.link with loopResult := some r, tracking := .waitingIdle 0, loopback := .notRunning } } := by
  have hother : (s.setLink { s.link with loopResult := some r }).supervisor.station ≠ .listening := by
    rw [show (s.setLink { s.link with loopResult := some r }).supervisor.station = .starting from hstation]
    exact fun k => nomatch k
  rw [endLoopback, enterListening, setStation_of_ne hother]
  rfl

theorem alarm_of_loopFailed {s : State} (h : s.link.loopResult = some .failed) : alarm s = true := by simp [alarm, h]

/-- A working loop hands on the levels sent (R206). -/
theorem throughLoop_nil (sent : List SentBit) : throughLoop [] sent = sent.map SentBit.level :=
  List.ext_getElem (by simp [throughLoop]) (by simp [throughLoop])

theorem throughLoop_eq (disturbed : List Nat) (sent : List SentBit) :
    throughLoop disturbed sent = sent.mapIdx fun i b => if i ∈ disturbed then !b.level else b.level := by
  simp [throughLoop]

/-- The check passes on the frame sent and on nothing else (R206). -/
theorem loopbackPasses_iff (cfg : Settings) (bits : List Bool) : loopbackPasses cfg bits = true ↔
    loopFrame false 1 [] 0 19 bits =
      some { kind := 3, source := cfg.address, group := cfg.group, length := 2, payload := [0#8, 255#8] } := by
  unfold loopbackPasses
  split <;> simp_all

end Sys2Proof.Machine

namespace Sys2Proof.Proofs.LoopbackCheck
open Sys2Proof.Machine

/-- Settles O52: the idle wait by its run of ten, and both ends of the check through what the entry into LISTENING writes. -/
theorem loopbackCheckEntersListening : Obligations.LoopbackCheckEntersListening := by
  unfold Obligations.LoopbackCheckEntersListening
  refine ⟨fun cfg s run n hcfg hwaiting hrun => ⟨fun hn => ?_, fun hn => ?_⟩, fun cfg s run n hcfg hwaiting => ?_,
    fun cfg s sent disturbed f hcfg hsending hf => ?_⟩
  · obtain ⟨extra, hsent, hextra, hlast, -, -⟩ := testFrame_sent cfg
    refine ⟨testFrame cfg, extra, ?_, hsent, fun b hb => ?_, hlast⟩
    · rw [exec_loopbackIdleWaitPassed hcfg hwaiting, loopSamples, hwaiting, foldl_loopSample_passed cfg hrun hn]
      rfl
    · obtain rfl | ⟨bit, rfl, hstuff⟩ := hextra
      · exact absurd hb List.not_mem_nil
      · rwa [List.mem_singleton.mp hb]
  · have hlimit : ¬ Config.loopbackLimit ≤ n := Nat.not_le.mpr hn
    rw [exec_loopbackIdleWaitPassed hcfg hwaiting, loopSamples, hwaiting, List.foldl_cons, List.foldl_nil, loopSample, if_neg hlimit,
      if_pos (by decide)]
    rfl
  · obtain ⟨hstation, -⟩ := startingSettings_some hcfg
    refine ⟨_, (exec_loopbackTimeout hcfg hwaiting).trans (congrArg Host.Outcome.next (endLoopback_eq hstation .failed)),
      rfl, rfl, rfl, rfl, rfl, rfl, rfl, rfl, rfl, fun hnow hbefore => ?_, rfl, rfl, rfl, rfl, rfl, rfl, alarm_of_loopFailed rfl⟩
    show some (lowerOf (lowerOf cfg.address s.timeBase.heardNow) s.timeBase.heardBefore) = some cfg.address
    rw [hnow, hbefore]
    rfl
  · obtain ⟨hstation, -⟩ := startingSettings_some hcfg
    have hpassed : ∀ {r : Bool}, r = true → (if r = true then LoopbackResult.passed else .failed) = .passed := fun h => if_pos h
    refine ⟨_, (exec_loopbackCheckEnd hcfg hsending disturbed).trans (congrArg Host.Outcome.next (endLoopback_eq hstation _)),
      rfl, rfl, rfl, rfl, rfl, rfl, rfl, rfl, rfl, fun haddress hgroup hworking hframe => ?_, fun hloop => ?_, fun hloop => ?_⟩
    · obtain ⟨extra, hsent, hextra, ⟨last, hlast, hbit⟩, hcore, hwhole⟩ := testFrame_sent cfg
      rw [frameOfData_frameData 3 cfg.address cfg.group (by decide) (by decide) haddress hgroup] at hcore hwhole
      have htaken : loopFrame false 1 [] 0 19 (sent.map SentBit.level) =
          some { kind := 3, source := cfg.address, group := cfg.group, length := 2, payload := [0#8, 255#8] } := by
        obtain rfl | ⟨b, hstuff, hshort⟩ := hframe
        · rw [hsent]
          exact hwhole
        · rw [hsent] at hshort
          obtain rfl | ⟨bit, rfl, -⟩ := hextra
          · rw [List.append_nil] at hshort
            rw [hshort, List.getLast?_concat] at hlast
            rw [Option.some.inj hlast, hbit] at hstuff
            exact nomatch hstuff
          · rw [← (List.append_inj' hshort rfl).1]
            exact hcore
      refine congrArg some (hpassed ?_)
      rw [hworking, throughLoop_nil]
      exact (loopbackPasses_iff cfg _).mpr htaken
    · refine congrArg some (hpassed ?_)
      rw [throughLoop_eq]
      exact (loopbackPasses_iff cfg _).mpr (hloop.trans (congrArg some hf))
    · have hfails : ¬ loopbackPasses cfg (throughLoop disturbed sent) = true := by
        rw [throughLoop_eq, loopbackPasses_iff, ← hf]
        exact hloop
      exact ⟨congrArg some (if_neg hfails), alarm_of_loopFailed (congrArg some (if_neg hfails))⟩

end Sys2Proof.Proofs.LoopbackCheck

/-! PROOFS. The dispatcher: what an entry of the queue delivers, and the yields it brings about (R71, R82 to R85, R99 to R110, R127, R158 to
R163, R171). -/

namespace Sys2Proof.Machine

/-! ### An entry delivered (R99 to R103, R108, R110, R127, R171) -/

/-- The head entry taken from the queue. -/
def entryTaken (es : List QueueEntry) (s : State) : State := s.setQueue { s.queue with entries := es }

/-- The boundary routes of an entry, delivered (R108). -/
def boundariesTold (e : QueueEntry) (t : PeerTable) : PeerTable :=
  updateBoundaries e.routes.upstream e.routes.downstream (placePayload e.payload) t

/-- A due PLACE delivered on the placement route, before the yield test (R71, R99 to R102). -/
def placeDelivered (e : QueueEntry) (es : List QueueEntry) (order : Nat) (s : State) : State :=
  ((entryTaken es s).setPeers (recordPlacement e.source (placePayload e.payload).runs order ((s.timeBase.cycle + 1).setWidth 8)
    (boundariesTold e s.peers))).setPlacement
      { s.placement with map := setPeer e.source (placePayload e.payload).runs order s.placement.map }

section Dispatch

variable {cfg : Settings} {s : State} {e : QueueEntry} {es : List QueueEntry} {order : Nat} {target : Byte}
  (hactive : activeSettings s = some cfg) (hcomputation : s.placement.computation = none) (hqueue : s.queue.entries = e :: es)
include hactive hcomputation hqueue

theorem exec_dispatch : exec .dispatch s = .next (match e.order, e.target with
    | some order, some target => dispatchPlace cfg e order target (entryTaken es s)
    | _, _ => dispatchLine e (entryTaken es s)) := by
  have hunused : mapInUse s.placement = false := by rw [mapInUse, hcomputation]; rfl
  refine congrArg Host.Outcome.next ((whenActive_of_active hactive _).trans ?_)
  show (if mapInUse s.placement then s else _) = _
  rw [hunused, if_neg Bool.false_ne_true, hqueue]
  rfl

theorem exec_dispatch_line (horder : e.order = none) : exec .dispatch s = .next (dispatchLine e (entryTaken es s)) := by
  rw [exec_dispatch hactive hcomputation hqueue, horder]

theorem exec_dispatch_place (horder : e.order = some order) (htarget : e.target = some target) :
    exec .dispatch s = .next (dispatchPlace cfg e order target (entryTaken es s)) := by
  rw [exec_dispatch hactive hcomputation hqueue, horder, htarget]

/-- A due PLACE on the placement route is recorded, and then the yield test runs (R71, R82). -/
theorem exec_dispatch_delivered (horder : e.order = some order) (htarget : e.target = some ((s.timeBase.cycle + 1).setWidth 8))
    (hroute : e.routes.placement = true) (hsource : e.source ≠ cfg.address) :
    exec .dispatch s = .next (yieldTest cfg (placeDelivered e es order s)) := by
  rw [exec_dispatch_place hactive hcomputation hqueue horder htarget]
  have hdue : ¬ offCycle ((s.timeBase.cycle + 1).setWidth 8) (entryTaken es s).timeBase = true := by
    rw [offCycle, decide_eq_true_iff]
    exact not_not_intro rfl
  rw [dispatchPlace, if_neg hdue, if_pos hroute, deliverPlacement, if_neg hsource, deliverBoundaries, if_pos hroute]
  rfl

/-- A due PLACE on boundary routes alone (R103, R108). -/
theorem exec_dispatch_boundary (horder : e.order = some order) (htarget : e.target = some ((s.timeBase.cycle + 1).setWidth 8))
    (hroute : e.routes.placement = false) :
    exec .dispatch s = .next ((entryTaken es s).setPeers (groupChange e.source (boundariesTold e s.peers))) := by
  rw [exec_dispatch_place hactive hcomputation hqueue horder htarget]
  have hdue : ¬ offCycle ((s.timeBase.cycle + 1).setWidth 8) (entryTaken es s).timeBase = true := by
    rw [offCycle, decide_eq_true_iff]
    exact not_not_intro rfl
  have hnot : ¬ e.routes.placement = true := by rw [hroute]; exact Bool.false_ne_true
  rw [dispatchPlace, if_neg hdue, if_neg hnot, deliverBoundaries, if_neg hnot]
  rfl

end Dispatch

/-! ### What the Peer Table records (R99 to R103) -/

/-- A recorded placement leaves the boundary records, the line state and the flow sender. -/
theorem recordPlacement_rest (address : Nat) (runs : List Run) (order : Nat) (target : Byte) (t : PeerTable) :
    (recordPlacement address runs order target t).upstream = t.upstream ∧
    (recordPlacement address runs order target t).downstream = t.downstream ∧
    (recordPlacement address runs order target t).line = t.line ∧ (recordPlacement address runs order target t).flow = t.flow := by
  unfold recordPlacement
  split
  · exact ⟨rfl, rfl, rfl, rfl⟩
  · split <;> exact ⟨rfl, rfl, rfl, rfl⟩

section Recording

variable {address order : Nat} {runs : List Run} {target : Byte} {t : PeerTable}

/-- An address with an entry (R100). -/
theorem recordPlacement_known (h : hasEntry t address = true) :
    (recordPlacement address runs order target t).row = t.row ∧ (recordPlacement address runs order target t).entries =
      t.entries.map (fun e => if e.address = address then takePlacement runs order target e else e) := by
  rw [recordPlacement, if_pos h]
  exact ⟨rfl, rfl⟩

/-- A new address, while the table has room (R101). -/
theorem recordPlacement_new (hentry : hasEntry t address = false) (hset : hasSet t address = false) (hroom : t.entries.length < 20) :
    (recordPlacement address runs order target t).row = t.row ∧
    (recordPlacement address runs order target t).entries = t.entries ++ [newEntry address runs order target] := by
  have hnew : ¬(hasSet t address || decide (Config.maxEntries ≤ t.entries.length)) = true := by
    rw [hset, Bool.false_or, decide_eq_true_iff]
    exact Nat.not_le.mpr hroom
  rw [recordPlacement, hentry, if_neg Bool.false_ne_true, if_neg hnew]
  exact ⟨rfl, rfl⟩

/-- An address with a set, and one the full table has no entry for (R102). -/
theorem recordPlacement_row (hentry : hasEntry t address = false) (hrow : hasSet t address = true ∨ 20 ≤ t.entries.length) :
    (recordPlacement address runs order target t).entries = t.entries ∧
    (recordPlacement address runs order target t).row = putSet address runs order t.row := by
  have hfull : (hasSet t address || decide (Config.maxEntries ≤ t.entries.length)) = true := by
    rw [Bool.or_eq_true, decide_eq_true_iff]
    exact hrow
  rw [recordPlacement, hentry, if_neg Bool.false_ne_true, if_pos hfull]
  exact ⟨rfl, rfl⟩

end Recording

/-- A change of group leaves the boundary records and the line state (R103). -/
theorem groupChange_rest (address : Nat) (t : PeerTable) : (groupChange address t).upstream = t.upstream ∧
    (groupChange address t).downstream = t.downstream ∧ (groupChange address t).line = t.line := by
  unfold groupChange
  split <;> exact ⟨rfl, rfl, rfl⟩

theorem groupChange_of_none {address : Nat} {t : PeerTable} (h : t.entries.find? (fun y => decide (y.address = address)) = none) :
    groupChange address t = t := by
  simp only [groupChange, h]

theorem groupChange_of_some {address : Nat} {t : PeerTable} {x : Entry}
    (h : t.entries.find? (fun y => decide (y.address = address)) = some x) :
    (groupChange address t).entries = t.entries.filter (fun y => decide (y.address ≠ address)) ∧
    (∀ runs order, x.next = some runs → x.order = some order → (groupChange address t).row = putSet address runs order t.row) ∧
    (x.next = none → (groupChange address t).row = t.row) := by
  simp only [groupChange, h]
  refine ⟨trivial, fun runs order hnext horder => ?_, fun hnext => ?_⟩
  · rw [hnext, horder]
  · rw [hnext]

/-- The entry of the address is gone, whether or not there was one (R103). -/
theorem groupChange_entries (address : Nat) (t : PeerTable) :
    (groupChange address t).entries = t.entries.filter (fun y => decide (y.address ≠ address)) := by
  cases h : t.entries.find? (fun y => decide (y.address = address)) with
  | none =>
    rw [groupChange_of_none h]
    refine (List.filter_eq_self.mpr fun y hy => ?_).symm
    simpa using List.find?_eq_none.mp h y hy
  | some x => exact (groupChange_of_some h).1

theorem find_none_of_no_entry {t : PeerTable} {address : Nat} (h : hasEntry t address = false) :
    t.entries.find? (fun y => decide (y.address = address)) = none := by
  rw [hasEntry, List.any_eq_false] at h
  exact List.find?_eq_none.mpr h

/-! ### The yield test (R82 to R85) -/

theorem yieldTest_passes {cfg : Settings} {s : State} (h : yieldFails cfg s.placement.map = false) : yieldTest cfg s = s :=
  if_neg (by rw [h, Bool.and_false]; exact Bool.false_ne_true)

theorem yieldTest_fails {cfg : Settings} {s : State} (hwindow : 8 ≤ s.timeBase.takenSlot ∧ s.timeBase.takenSlot < 28)
    (h : yieldFails cfg s.placement.map = true) : yieldTest cfg s = yieldBy cfg s :=
  if_pos (by rw [h, inAnnounceWindow, decide_eq_true hwindow]; rfl)

/-- A due PLACE that makes the own placement yield (R82). -/
theorem exec_dispatch_yields {cfg : Settings} {s : State} {e : QueueEntry} {es : List QueueEntry} {order : Nat}
    (h : YieldingDispatch cfg e es order s) : exec .dispatch s = .next (yieldBy cfg (placeDelivered e es order s)) := by
  rw [exec_dispatch_delivered h.active h.computation h.queue h.numbered h.target h.route h.source,
    yieldTest_fails (by exact h.window) (by exact h.yields)]

end Sys2Proof.Machine

namespace Sys2Proof.Proofs.Dispatch
open Sys2Proof.Machine

/-- Settles O31: a LINE, an off-cycle PLACE, and a due one by its routes. -/
theorem dispatchDeliversItsEntry : Obligations.DispatchDeliversItsEntry := by
  unfold Obligations.DispatchDeliversItsEntry
  refine ⟨fun cfg s e es hactive hcomputation hqueue horder => exec_dispatch_line hactive hcomputation hqueue horder,
    fun cfg s e es order target hactive hcomputation hqueue horder htarget hoff => ?_,
    fun cfg s e es order hactive hcomputation hqueue horder htarget hroute hsource hpasses => ?_,
    fun cfg s e es order hactive hcomputation hqueue horder htarget hroute => ?_⟩
  · rw [exec_dispatch_place hactive hcomputation hqueue horder htarget, dispatchPlace, if_pos (by exact decide_eq_true hoff)]
    rfl
  · refine ⟨_, (exec_dispatch_delivered hactive hcomputation hqueue horder htarget hroute hsource).trans
      (congrArg Host.Outcome.next (yieldTest_passes hpasses)), rfl, rfl, rfl,
      fun hentry => recordPlacement_known (t := boundariesTold e s.peers) hentry,
      fun hentry hset hroom => recordPlacement_new (t := boundariesTold e s.peers) hentry hset hroom,
      fun hentry hrow => recordPlacement_row (t := boundariesTold e s.peers) hentry hrow, ?_⟩
    obtain ⟨hup, hdown, hline, hflow⟩ := recordPlacement_rest e.source (placePayload e.payload).runs order
      ((s.timeBase.cycle + 1).setWidth 8) (boundariesTold e s.peers)
    exact ⟨hup, hdown, hline, hflow, rfl, rfl, rfl, rfl, rfl⟩
  · obtain ⟨hup, hdown, hline⟩ := groupChange_rest e.source (boundariesTold e s.peers)
    refine ⟨_, exec_dispatch_boundary hactive hcomputation hqueue horder htarget hroute, rfl, rfl, hup, hdown,
      groupChange_entries e.source (boundariesTold e s.peers), fun hentry => ?_, fun x hfound => ?_, hline, rfl, rfl, rfl⟩
    · have hnone := groupChange_of_none (t := boundariesTold e s.peers) (find_none_of_no_entry hentry)
      show (groupChange e.source (boundariesTold e s.peers)).row = s.peers.row
      rw [hnone]
      rfl
    · exact (groupChange_of_some (t := boundariesTold e s.peers) hfound).2

/-- Settles O32: the yield test answers by the announced revision. -/
theorem yieldAnswersWithARevision : Obligations.YieldAnswersWithARevision := by
  unfold Obligations.YieldAnswersWithARevision
  intro cfg s e es order a hactive hcomputation hqueue horder htarget hroute hsource hstation hopen hclosed hrequest hannounced hyields
  have hexec := exec_dispatch_yields ⟨hactive, hcomputation, hqueue, horder, htarget, hroute, hsource, hstation, ⟨hopen, hclosed⟩, hyields⟩
  have hby : yieldBy cfg (placeDelivered e es order s) =
      if a.revision < 3 then beginComputation cfg (placeDelivered e es order s) else placeDelivered e es order s := by
    simp only [yieldBy, yieldUnrequested, show (placeDelivered e es order s).placement.request = .none from hrequest,
      show (placeDelivered e es order s).placement.announced = some a from hannounced]
  rw [hby] at hexec
  by_cases hrevision : a.revision < 3
  · rw [if_pos hrevision, beginComputation_begun (by exact .inl hstation) (by exact hcomputation)] at hexec
    exact ⟨_, hexec, hannounced, hrequest, rfl, fun _ => ⟨_, rfl, rfl⟩, fun h => absurd hrevision (Nat.not_lt.mpr h)⟩
  · rw [if_neg hrevision] at hexec
    exact ⟨_, hexec, hannounced, hrequest, rfl, fun h => absurd h hrevision, fun _ => hcomputation⟩

end Sys2Proof.Proofs.Dispatch

/-! PROOFS. A yield of an unannounced placement: its request withdrawn, voided or cancelled, and the recompute (R82, R83, R85, R136, R158 to
R163). -/

namespace Sys2Proof.Machine

/-! ### The yield by the request (R82, R83) -/

theorem yieldBy_none {cfg : Settings} {s : State} (hrequest : s.placement.request = .none) (hannounced : s.placement.announced = none) :
    yieldBy cfg s = beginComputation cfg s := by
  simp only [yieldBy, yieldUnrequested, hrequest, hannounced]

theorem yieldBy_waiting {cfg : Settings} {s : State} (hrequest : s.placement.request = .waiting) :
    yieldBy cfg s = beginComputation cfg ((s.setRing (withdrawWaiting .place s.ring)).setPlacement
      (returnAnnounced { s.placement with request := .none })) := by
  simp only [yieldBy, hrequest]

theorem yieldBy_recorded {cfg : Settings} {s : State} {i : Index} (hrequest : s.placement.request = .cancelRecorded i) :
    yieldBy cfg s = s := by
  simp only [yieldBy, hrequest]

/-- A READY descriptor voided: its head is served, and the recompute follows (R82, R162; assumption log 26). -/
theorem yieldBy_voided {cfg : Settings} {s t : State} {i : Index} (hrequest : s.placement.request = .queued i)
    (hready : (s.ring.descriptors.get i).state = .ready)
    (hserved : serviceIfHead cfg i ((s.setRing (setDescriptor s.ring i { s.ring.descriptors.get i with state := .void })).setPlacement
      { s.placement with request := .none }) = t) :
    yieldBy cfg s = beginComputation cfg (t.setPlacement (returnAnnounced t.placement)) := by
  subst hserved
  simp only [yieldBy, hrequest, cancelRequest, cancelDescriptor_ready _ hready]

/-- A SENDING descriptor answers that the cancel is recorded (R82, R162). -/
theorem yieldBy_recording {cfg : Settings} {s : State} {i : Index} {r : Ring} (hrequest : s.placement.request = .queued i)
    (hcancel : cancelDescriptor i (ringOnLine s) s.ring = (r, .recorded)) :
    yieldBy cfg s = serviceIfHead cfg i (dropRingFrame ((s.setRing r).setPlacement { s.placement with request := .cancelRecorded i })) := by
  simp only [yieldBy, hrequest, cancelRequest, hcancel]

theorem serviceIfHead_head (cfg : Settings) (s : State) : serviceIfHead cfg s.ring.head s = serviceHead cfg s := if_pos rfl

theorem serviceIfHead_behind {cfg : Settings} {s : State} {i : Index} (h : i ≠ s.ring.head) : serviceIfHead cfg i s = s := if_neg h

/-- The own contribution returned changes the map alone (R81, R85). -/
theorem returnAnnounced_own {p : PlacementUnit} {a : Announced} (h : p.announced = some a) :
    ownOf (returnAnnounced p).map = some { source := .own, order := a.order, runs := a.runs, ration := none } := by
  simp only [returnAnnounced, h]
  rfl

theorem returnAnnounced_kept (p : PlacementUnit) : (returnAnnounced p).request = p.request ∧
    (returnAnnounced p).announced = p.announced ∧ (returnAnnounced p).lastFailure = p.lastFailure ∧
    (returnAnnounced p).computation = p.computation := by
  rw [returnAnnounced_eq]
  exact ⟨rfl, rfl, rfl, rfl⟩

/-- A recompute that begins once the own contribution is back (R82, R85). -/
theorem beginComputation_returned (cfg : Settings) {t : State} (hstation : t.supervisor.station = .running)
    (hcomputation : t.placement.computation = none) :
    ∃ c : Computation, beginComputation cfg (t.setPlacement (returnAnnounced t.placement)) =
      t.setPlacement { returnAnnounced t.placement with computation := some c } :=
  ⟨_, beginComputation_begun (by exact .inl hstation) (by exact (returnAnnounced_kept _).2.2.2.trans hcomputation)⟩

end Sys2Proof.Machine

namespace Sys2Proof.Proofs.Yield
open Sys2Proof.Machine

section

variable {cfg : Settings} {e : QueueEntry} {es : List QueueEntry} {order : Nat} {s : State} (h : YieldingDispatch cfg e es order s)
include h

/-- With no request, the recompute begins against the new map (R76, R82). -/
theorem yields_unrequested (hannounced : s.placement.announced = none) (hrequest : s.placement.request = .none) :
    ∃ t : State, exec .dispatch s = .next t ∧ t.placement.request = .none ∧ t.ring = s.ring ∧
      (t.placement.computation.map Computation.others) = some ((setPeer e.source (placePayload e.payload).runs order
        s.placement.map).filter (fun x => decide (x.source ≠ .own))) := by
  have hexec := exec_dispatch_yields h
  rw [yieldBy_none (by exact hrequest) (by exact hannounced), beginComputation_begun (by exact .inl h.station)
    (by exact h.computation)] at hexec
  exact ⟨_, hexec, hrequest, rfl, rfl⟩

theorem yields_waiting (hrequest : s.placement.request = .waiting) :
    ∃ t : State, exec .dispatch s = .next t ∧ t.placement.request = .none ∧
      t.ring = { s.ring with waiting := s.ring.waiting.filter (fun w => decide (w.producer ≠ .place)) } ∧
      t.placement.announced = s.placement.announced ∧ t.placement.computation.isSome = true ∧
      (∀ a : Announced, s.placement.announced = some a →
        ownOf t.placement.map = some { source := .own, order := a.order, runs := a.runs, ration := none }) := by
  have hexec := exec_dispatch_yields h
  rw [yieldBy_waiting (by exact hrequest)] at hexec
  obtain ⟨c, hbegun⟩ := beginComputation_returned cfg (t := ((placeDelivered e es order s).setRing
    (withdrawWaiting .place (placeDelivered e es order s).ring)).setPlacement
      { (placeDelivered e es order s).placement with request := .none }) h.station h.computation
  obtain ⟨hrequest', hannounced, -, -⟩ := returnAnnounced_kept { (placeDelivered e es order s).placement with request := .none }
  exact ⟨_, hexec.trans (congrArg Host.Outcome.next hbegun), hrequest', rfl, hannounced, rfl, fun a ha =>
    returnAnnounced_own (p := { (placeDelivered e es order s).placement with request := .none }) ha⟩

/-- What a voided request leaves, once its ring has been served (R82, R160 to R162). -/
theorem yields_voided {i : Index} {r : Ring} (hrequest : s.placement.request = .queued i)
    (hready : (s.ring.descriptors.get i).state = .ready)
    (hserved : serviceIfHead cfg i (((placeDelivered e es order s).setRing
      (setDescriptor s.ring i { s.ring.descriptors.get i with state := .void })).setPlacement
        { (placeDelivered e es order s).placement with request := .none }) =
      ((placeDelivered e es order s).setRing r).setPlacement { (placeDelivered e es order s).placement with request := .none }) :
    ∃ t : State, exec .dispatch s = .next t ∧ t.placement.request = .none ∧ t.ring = r ∧
      t.placement.announced = s.placement.announced ∧ t.placement.lastFailure = s.placement.lastFailure ∧
      t.placement.computation.isSome = true := by
  have hexec := exec_dispatch_yields h
  rw [yieldBy_voided (by exact hrequest) (by exact hready) hserved] at hexec
  obtain ⟨c, hbegun⟩ := beginComputation_returned cfg (t := ((placeDelivered e es order s).setRing r).setPlacement
      { (placeDelivered e es order s).placement with request := .none }) h.station h.computation
  obtain ⟨hrequest', hannounced, hfailure, -⟩ := returnAnnounced_kept { (placeDelivered e es order s).placement with request := .none }
  exact ⟨_, hexec.trans (congrArg Host.Outcome.next hbegun), hrequest', rfl, hannounced, hfailure, rfl⟩

theorem yields_behind {i : Index} (hrequest : s.placement.request = .queued i) (hbehind : i ≠ s.ring.head)
    (hready : (s.ring.descriptors.get i).state = .ready) :
    ∃ t : State, exec .dispatch s = .next t ∧ t.placement.request = .none ∧
      t.ring = { s.ring with descriptors := s.ring.descriptors.set i { s.ring.descriptors.get i with state := .void } } ∧
      t.placement.announced = s.placement.announced ∧ t.placement.lastFailure = s.placement.lastFailure ∧
      t.placement.computation.isSome = true :=
  yields_voided h hrequest hready (serviceIfHead_behind (by exact hbehind))

theorem yields_head (hrequest : s.placement.request = .queued s.ring.head) (hready : (headDescriptor s.ring).state = .ready)
    (hproducer : (headDescriptor s.ring).producer = some .place) (halone : HeadAlone s.ring) :
    ∃ t : State, exec .dispatch s = .next t ∧ t.placement.request = .none ∧ t.ring = freedAlone s.ring ∧
      t.placement.announced = s.placement.announced ∧ t.placement.lastFailure = s.placement.lastFailure ∧
      t.placement.computation.isSome = true := by
  refine yields_voided h hrequest hready ?_
  have hvoid := headDescriptor_setHead s.ring { s.ring.descriptors.get s.ring.head with state := .void }
  refine (if_pos (by rfl)).trans ((serviceHead_voided (by exact halone.setHead _) (by exact congrArg Descriptor.state hvoid)
    (by exact (congrArg Descriptor.producer hvoid).trans hproducer) (by exact h.computation) (by rfl)).trans ?_)
  exact congrArg (fun r => ((placeDelivered e es order s).setRing r).setPlacement _) (freedAlone_setDescriptor _ _)

omit h in
/-- On the line the cancel is recorded, and the head stands (R83, R162). -/
theorem yields_onLine (hsending : (headDescriptor s.ring).state = .sending) (hrequest : s.placement.request = .queued s.ring.head)
    (hattempt : s.link.attempt ≠ none) (hhand : s.link.inHand = some .ring) :
    yieldBy cfg (placeDelivered e es order s) = ((placeDelivered e es order s).setRing
      (setDescriptor s.ring s.ring.head { headDescriptor s.ring with cancel := true })).setPlacement
        { (placeDelivered e es order s).placement with request := .cancelRecorded s.ring.head } := by
  have honline : ringOnLine (placeDelivered e es order s) = true := by
    show (s.link.attempt.isSome && decide (s.link.inHand = some .ring)) = true
    rw [Option.isSome_iff_ne_none.mpr hattempt, decide_eq_true hhand]
    rfl
  have hcancel := (congrArg (fun b => cancelDescriptor s.ring.head b s.ring) honline).trans (cancelDescriptor_onLine hsending)
  have hhead := headDescriptor_setHead s.ring { headDescriptor s.ring with cancel := true }
  have hdropped : dropRingFrame (((placeDelivered e es order s).setRing
      (setDescriptor s.ring s.ring.head { headDescriptor s.ring with cancel := true })).setPlacement
        { (placeDelivered e es order s).placement with request := .cancelRecorded s.ring.head }) = _ := if_neg (by
    rw [Bool.and_eq_true, Bool.and_eq_true, Bool.not_eq_true']
    exact fun k => Bool.false_ne_true (k.1.2.symm.trans honline))
  rw [yieldBy_recording (by exact hrequest) hcancel]
  refine (congrArg (serviceIfHead cfg s.ring.head) hdropped).trans ((if_pos (by rfl)).trans (serviceHead_of_standing
    (serviceOnce_of_sending ?_)))
  exact (congrArg Descriptor.state hhead).trans hsending

/-- Between attempts the frame completes CANCELLED, is dropped and released, and a recompute begins (R82, R136, R162). -/
theorem yields_between (hsending : (headDescriptor s.ring).state = .sending) (hproducer : (headDescriptor s.ring).producer = some .place)
    (hrequest : s.placement.request = .queued s.ring.head) (hattempt : s.link.attempt = none) (halone : HeadAlone s.ring) :
    ∃ (hand : Option InHand) (c : Computation), hand ≠ some .ring ∧
      yieldBy cfg (placeDelivered e es order s) = (((placeDelivered e es order s).setLink { s.link with inHand := hand }).setPlacement
        { returnAnnounced (endRequest .cancelled { (placeDelivered e es order s).placement with
            request := .cancelRecorded s.ring.head }) with computation := some c }).setRing (freedAlone s.ring) := by
  have hoff : ringOnLine (placeDelivered e es order s) = false := by
    show (s.link.attempt.isSome && _) = false
    rw [hattempt]
    rfl
  have hcancel := (congrArg (fun b => cancelDescriptor s.ring.head b s.ring) hoff).trans (cancelDescriptor_between hsending)
  have hhead := headDescriptor_setHead s.ring (failDescriptor .cancelled { headDescriptor s.ring with cancel := true })
  obtain ⟨hand, hdropped, -, hhand⟩ := dropRingFrame_eq (((placeDelivered e es order s).setRing
    (setDescriptor s.ring s.ring.head (failDescriptor .cancelled { headDescriptor s.ring with cancel := true }))).setPlacement
      { (placeDelivered e es order s).placement with request := .cancelRecorded s.ring.head })
  rw [yieldBy_recording (by exact hrequest) hcancel]
  have hon : requestOn s.ring.head (.cancelRecorded s.ring.head) = true := decide_eq_true rfl
  obtain ⟨c, htaken⟩ := takePlace_cancelled (cfg := cfg) (i := s.ring.head)
    (d := failDescriptor .cancelled { headDescriptor s.ring with cancel := true })
    (s := (((placeDelivered e es order s).setRing
      (setDescriptor s.ring s.ring.head (failDescriptor .cancelled { headDescriptor s.ring with cancel := true }))).setPlacement
        { (placeDelivered e es order s).placement with request := .cancelRecorded s.ring.head }).setLink
          { s.link with inHand := hand }) hon rfl h.window.2 h.station h.computation
  refine ⟨hand, c, hhand hoff (by rw [setPlacement_ring, setRing_ring, hhead]; exact fun k => nomatch k), ?_⟩
  refine (congrArg (serviceIfHead cfg s.ring.head) hdropped).trans ((if_pos (by rfl)).trans ((serviceHead_place (by exact halone.setHead _)
    (by exact .inr (congrArg Descriptor.state hhead)) (by exact (congrArg Descriptor.producer hhead).trans hproducer)
    (by exact h.computation)).trans ?_))
  show (takePlace cfg s.ring.head (headDescriptor (setDescriptor s.ring s.ring.head _)) _).setRing (freedAlone (setDescriptor s.ring s.ring.head _)) = _
  rw [hhead, freedAlone_setDescriptor]
  exact (congrArg (fun u => State.setRing u (freedAlone s.ring)) htaken).trans rfl

end

/-- Settles O33: one clause for each place a request may stand. -/
theorem unannouncedYieldWithdrawsOrCancels : Obligations.UnannouncedYieldWithdrawsOrCancels := by
  unfold Obligations.UnannouncedYieldWithdrawsOrCancels
  refine ⟨fun cfg s e es order h => yields_unrequested h, fun cfg s e es order h => yields_waiting h,
    fun cfg s e es order i h hrequest hbehind hready _ => yields_behind h hrequest hbehind hready,
    fun cfg s e es order h hrequest hready hproducer hwaiting hone hnext => yields_head h hrequest hready hproducer (.of hone hwaiting hnext),
    fun cfg s e es order h hsending hproducer => ⟨_, exec_dispatch_yields h, fun hrequest hattempt hhand => ?_,
      fun hrequest hattempt hwaiting hone hnext => ?_, fun hrequest => ?_⟩⟩
  · rw [yields_onLine hsending hrequest hattempt hhand]
    exact ⟨rfl, rfl, rfl⟩
  · obtain ⟨hand, c, hhand, hby⟩ := yields_between h hsending hproducer hrequest hattempt (.of hone hwaiting hnext)
    obtain ⟨hrequest', -, hfailure, -⟩ := returnAnnounced_kept (endRequest .cancelled { (placeDelivered e es order s).placement with
      request := .cancelRecorded s.ring.head })
    rw [hby]
    exact ⟨hrequest', rfl, hfailure, hhand, rfl⟩
  · rw [yieldBy_recorded (by exact hrequest)]
    exact ⟨rfl, rfl, rfl⟩

end Sys2Proof.Proofs.Yield

/-! PROOFS. The end of a frame being received: queued, lost, refused, void or broken, and the address clash (R14, R72, R74, R122, R128, R135,
R140 to R143, R147, R150, R155, R156, R169, R170). -/

namespace Sys2Proof.Machine

/-! ### The counts of the link at a frame's end (R147, R150) -/

theorem evalLink_eq (l : Link) : ∃ (state : LinkState) (run count : Nat),
    evalLink l = { l with state := state, quietRun := run, quietCount := count } := by
  unfold evalLink
  split_ifs <;> exact ⟨_, _, _, rfl⟩

theorem recDown_eq (l : Link) : ∃ (state : LinkState) (run count : Nat), recDown l =
    { l with recv := if linkSends l.state then l.recv - 1 else l.recv, state := state, quietRun := run, quietCount := count } := by
  obtain ⟨state, run, count, h⟩ := evalLink_eq (if linkSends l.state then { l with recv := l.recv - 1 } else l)
  refine ⟨state, run, count, ?_⟩
  rw [recDown, h]
  split <;> rfl

theorem recUp_eq (l : Link) : ∃ (state : LinkState) (run count : Nat), recUp l =
    { l with recv := if linkSends l.state then min 255 (l.recv + 2) else l.recv, state := state, quietRun := run, quietCount := count } := by
  obtain ⟨state, run, count, h⟩ := evalLink_eq (if linkSends l.state then { l with recv := saturate 255 (l.recv + 2) } else l)
  refine ⟨state, run, count, ?_⟩
  rw [recUp, h]
  split <;> rfl

/-- REC decides the state of an ACTIVE link whose TEC is low (R147, R150). -/
theorem recUp_of_active {l : Link} (hactive : l.state = .active) (htec : l.tec < 96) :
    (recUp l).state = if 96 ≤ min 255 (l.recv + 2) then .passive else .active := by
  have hcounted : (if linkSends l.state then { l with recv := saturate 255 (l.recv + 2) } else l) =
      { l with recv := saturate 255 (l.recv + 2) } := if_pos (by rw [hactive]; rfl)
  rw [recUp, hcounted, evalLink_of_low (by show linkSends l.state = true; rw [hactive]; rfl) (by show l.tec < 192; omega)]
  simp only [stateFor, saturate, hactive]
  split_ifs <;> first | rfl | omega

theorem recUp_of_listenOnly {l : Link} (h : l.state = .listenOnly) : (recUp l).state = .listenOnly := by
  have hsame : recUp l = l := by
    rw [recUp, evalLink]
    simp only [h, linkSends, Bool.false_eq_true, if_false]
  rw [hsame, h]

/-! ### A frame received whole (R142, R143) -/

/-- Line tracking and the counts after a frame received at the link, before it is handed on (R135, R140, R147). -/
def frameEnded (ack : Bool) (bits : List Bool) (s : State) : State :=
  (quietBits bits s).setLink { recDown (quietBits bits s).link with
    tracking := .idle 0, reception := none, ackDriven := ack, rejectDriven := false }

/-- The timestamp dropped at a frame's end (R8). -/
def stampDropped (s : State) : State := s.setTimeBase (dropStamp s.timeBase)

/-- The Acknowledge bit as this station has driven it by the end of the frame (R140). -/
def ackOf (s : State) (bits : List Bool) (rx : Reception) : Bool := (takeRxBits s.link bits rx).ack.getD false

theorem ackTail_of_passed {bits : List Bool} {f : Frame} {b : Bool} {tail : List Bool} (h : rxPart bits = .passed f (b :: tail)) :
    ackTail bits = some (b :: tail) := by
  simp only [ackTail, h]

/-- A frame that has ended with its check passed has had its Acknowledge bit (R140, R142). -/
theorem ackTail_of_ended {bits rest : List Bool} (h : (∃ f, rxFrame bits = .received f rest) ∨ rxFrame bits = .void rest) :
    ∃ tail, ackTail bits = some tail := by
  cases hpart : rxPart bits
  case more | stuffError | checkError => simp [rxFrame, hpart] at h
  case passed f tail =>
    cases tail with
    | nil => simp [rxFrame, hpart, rxTail] at h
    | cons b tail => exact ⟨b :: tail, ackTail_of_passed hpart⟩

/-- The Acknowledge bit of a station that is not DETACHED (R140). -/
theorem ackOf_eq {s : State} {bits : List Bool} {rx : Reception} (hattached : s.link.state ≠ .detached)
    (h : ∃ tail, ackTail (rx.bits ++ bits) = some tail) :
    ackOf s bits rx = match rx.ack with | none => linkSends s.link.state && !rx.mute | some a => a := by
  obtain ⟨tail, htail⟩ := h
  have hquiet : ∀ l : List Bool, l.foldl quietBit s.link = s.link := fun l =>
    congrArg State.link (quietBits_of_not_detached l hattached)
  simp only [ackOf, takeRxBits]
  cases rx.ack with
  | some a => rfl
  | none =>
    simp only [htail, hquiet]
    rfl

section Received

variable {cfg : Settings} {s : State} {rx : Reception} {bits : List Bool} {f : Frame}
  (hactive : activeSettings s = some cfg) (hrx : s.link.reception = some rx)
include hactive hrx

theorem exec_received (hframe : rxFrame (rx.bits ++ bits) = .received f []) (flow : Bool) :
    exec (.frameReceived (.sampled bits) flow) s =
      .next (stampDropped (takeFrame cfg f (frameEnded (ackOf s bits rx) bits (s.setFlowPin flow)))) := by
  rw [exec_frameReceived hactive hrx, takeBits_sampled]
  have hend : rxFrame (takeRxBits (s.setFlowPin flow).link bits rx).bits = .received f [] := hframe
  simp only [receptionEnd, hend, List.length_nil, Nat.sub_zero, List.take_length]
  rfl

theorem exec_voided (hframe : rxFrame (rx.bits ++ bits) = .void []) (flow : Bool) :
    exec (.frameReceived (.sampled bits) flow) s =
      .next (leaveFrame (ackOf s bits rx) false (quietBits bits (s.setFlowPin flow))) := by
  rw [exec_frameReceived hactive hrx, takeBits_sampled]
  have hend : rxFrame (takeRxBits (s.setFlowPin flow).link bits rx).bits = .void [] := hframe
  simp only [receptionEnd, hend, List.length_nil, Nat.sub_zero, List.take_length]
  rfl

theorem exec_broken (hframe : rxFrame (rx.bits ++ bits) = .stuffError [] ∨ rxFrame (rx.bits ++ bits) = .checkError []) (flow : Bool) :
    exec (.frameReceived (.sampled bits) flow) s = .next (receptionError (quietBits bits (s.setFlowPin flow))) := by
  rw [exec_frameReceived hactive hrx, takeBits_sampled]
  obtain h | h := hframe
  · have hend : rxFrame (takeRxBits (s.setFlowPin flow).link bits rx).bits = .stuffError [] := h
    simp only [receptionEnd, hend, List.length_nil, Nat.sub_zero, List.take_length]
    rfl
  · have hend : rxFrame (takeRxBits (s.setFlowPin flow).link bits rx).bits = .checkError [] := h
    simp only [receptionEnd, hend, List.length_nil, Nat.sub_zero, List.take_length]
    rfl

end Received

/-- The link of a station that is not DETACHED after a frame received at it (R135, R147). -/
theorem frameEnded_attached (ack : Bool) (bits : List Bool) {s : State} (hattached : s.link.state ≠ .detached) :
    ∃ (state : LinkState) (run count : Nat), frameEnded ack bits s = s.setLink
      { s.link with
        recv := if linkSends s.link.state then s.link.recv - 1 else s.link.recv, state := state, quietRun := run, quietCount := count,
        tracking := .idle 0, reception := none, ackDriven := ack, rejectDriven := false } := by
  obtain ⟨state, run, count, h⟩ := recDown_eq s.link
  refine ⟨state, run, count, ?_⟩
  rw [frameEnded, quietBits_of_not_detached bits hattached, h]

/-- In any link state the frame's end touches the link alone, and not the clash record (R147, R152). -/
theorem frameEnded_rest (ack : Bool) (bits : List Bool) (s : State) :
    ∃ l : Link, frameEnded ack bits s = s.setLink l ∧ l.clash = s.link.clash := by
  have hbit : ∀ (l : Link) (b : Bool), (quietBit l b).clash = l.clash := fun l b => by
    unfold quietBit
    split_ifs <;> rfl
  have hquiet : ∀ l : Link, (bits.foldl quietBit l).clash = l.clash := by
    induction bits with
    | nil => exact fun _ => rfl
    | cons b bits ih => exact fun l => (ih _).trans (hbit l b)
  obtain ⟨state, run, count, h⟩ := recDown_eq (quietBits bits s).link
  refine ⟨_, rfl, ?_⟩
  rw [h]
  exact hquiet s.link

/-! ### A frame handed on (R14, R72, R143, R155, R168 to R170) -/

theorem takeFrame_valid {cfg : Settings} {f : Frame} (h : frameValid f = true) (s : State) : takeFrame cfg f s = handOn cfg f s := if_pos h

theorem takeFrame_refused {cfg : Settings} {f : Frame} (h : frameValid f = false) (s : State) :
    takeFrame cfg f s = s.setQueue { s.queue with refusalMark := true } := if_neg (by rw [h]; exact Bool.false_ne_true)

/-- The election hears the source, and the sync state may be evaluated (R14, R17). -/
theorem giveAddress_eq (cfg : Settings) (a : Nat) (s : State) : ∃ sync : SyncState,
    giveAddress cfg a s = s.setTimeBase { hearAddress cfg a s.timeBase with sync := sync } := by
  simp only [giveAddress]
  split
  · exact ⟨_, rfl⟩
  · exact ⟨(hearAddress cfg a s.timeBase).sync, rfl⟩

theorem clashTest_other {cfg : Settings} {f : Frame} (h : f.source ≠ cfg.address) (s : State) : clashTest cfg f s = s :=
  if_neg fun k => h k.1

/-- A valid frame of another station: its source is heard, a PLACE is numbered, and the filter takes it (R143). -/
theorem handOn_other {cfg : Settings} {f : Frame} (h : f.source ≠ cfg.address) (s : State) :
    ∃ sync : SyncState, handOn cfg f s =
      filterFrame cfg f (numberFrame f (s.setTimeBase { hearAddress cfg f.source s.timeBase with sync := sync })) := by
  obtain ⟨sync, hgiven⟩ := giveAddress_eq cfg f.source s
  exact ⟨sync, by rw [handOn, clashTest_other h, hgiven]⟩

theorem filterFrame_routed {cfg : Settings} {f : Frame} (hkind : f.kind = 1 ∨ f.kind = 2) (hroute : (routesOf cfg f).any = true) (s : State) :
    filterFrame cfg f s = arrive f (routesOf cfg f) s.placement.orderCounter s := by
  have hother : f.kind ≠ 0 := by omega
  rw [filterFrame, if_neg hother, if_pos hroute]

theorem arrive_open {f : Frame} {routes : Routes} {order : Nat} {s : State} (h : s.queue.entries.length < 4) :
    arrive f routes order s = s.setQueue { s.queue with entries := s.queue.entries ++ [entryOf f routes order] } :=
  if_neg (by rw [queueLocked, decide_eq_true_iff]; exact Nat.not_le.mpr h)

/-- A frame lost at the locked queue; the loss of a PLACE is reported (R74, R170). -/
theorem arrive_locked {f : Frame} {routes : Routes} {order : Nat} {s : State} (h : 4 ≤ s.queue.entries.length) :
    arrive f routes order s = (s.setQueue { s.queue with overflow := min 255 (s.queue.overflow + 1) }).setPlacement
      { s.placement with viewFlag := s.placement.viewFlag || decide (f.kind = 2) } := by
  refine (if_pos (decide_eq_true h)).trans ?_
  by_cases hplace : f.kind = 2
  · rw [if_pos hplace, decide_eq_true hplace, Bool.or_true]
    rfl
  · rw [if_neg hplace, decide_eq_false hplace, Bool.or_false]
    rfl

theorem numberFrame_place {f : Frame} (h : f.kind = 2) (s : State) : numberFrame f s = s.setPlacement (advanceOrder s.placement) := if_pos h

theorem numberFrame_other {f : Frame} (h : f.kind ≠ 2) (s : State) : numberFrame f s = s := if_neg h

/-- Whatever the filter makes of a frame that carries no used TIME, it leaves the ring and the link (R167 to R170). -/
theorem filterFrame_own {cfg : Settings} {f : Frame} (h : f.source = cfg.address) (s : State) :
    (filterFrame cfg f s).ring = s.ring ∧ (filterFrame cfg f s).link = s.link := by
  unfold filterFrame
  split
  · unfold takeTime
    split
    · exact ⟨rfl, rfl⟩
    · rw [if_neg]
      · exact ⟨rfl, rfl⟩
      · simp [timeUsed, h]
  · split
    · simp only [arrive]
      split
      · split <;> exact ⟨rfl, rfl⟩
      · exact ⟨rfl, rfl⟩
    · exact ⟨rfl, rfl⟩

theorem numberFrame_rest (f : Frame) (s : State) : (numberFrame f s).ring = s.ring ∧ (numberFrame f s).link = s.link := by
  unfold numberFrame
  split <;> exact ⟨rfl, rfl⟩

end Sys2Proof.Machine

namespace Sys2Proof.Proofs.Reception
open Sys2Proof.Machine

/-- Settles O39: the frame's end, the election, the number and the queue in turn. -/
theorem receivedFrameIsQueued : Obligations.ReceivedFrameIsQueued := by
  unfold Obligations.ReceivedFrameIsQueued
  intro cfg s rx bits f flow hactive hrx hframe hvalid hkind hroute hother hroom hattached
  have hexec := exec_received hactive hrx hframe flow
  obtain ⟨state, run, count, hended⟩ := frameEnded_attached (ackOf s bits rx) bits (s := s.setFlowPin flow) hattached
  rw [hended, takeFrame_valid hvalid] at hexec
  obtain ⟨sync, hhanded⟩ := handOn_other hother ((s.setFlowPin flow).setLink { s.link with
    recv := if linkSends s.link.state then s.link.recv - 1 else s.link.recv, state := state, quietRun := run, quietCount := count,
    tracking := .idle 0, reception := none, ackDriven := ackOf s bits rx, rejectDriven := false })
  have hack := ackOf_eq (s := s) hattached (ackTail_of_ended (rest := []) (.inl ⟨f, hframe⟩))
  refine ⟨_, hexec.trans (congrArg (fun t => Host.Outcome.next (stampDropped t)) hhanded), ?_⟩
  rw [filterFrame_routed hkind hroute]
  have hheard : some (lowerOf f.source s.timeBase.heardNow) =
      some (match s.timeBase.heardNow with | none => f.source | some a => min f.source a) := by
    cases s.timeBase.heardNow <;> rfl
  by_cases hplace : f.kind = 2
  · rw [numberFrame_place hplace, arrive_open (by exact hroom)]
    simp only [entryOf, if_pos hplace]
    exact ⟨rfl, rfl, rfl, rfl, rfl, rfl, rfl, rfl, rfl, rfl, hack, rfl, rfl, rfl, hheard⟩
  · rw [numberFrame_other hplace, arrive_open (by exact hroom)]
    simp only [entryOf, if_neg hplace]
    exact ⟨rfl, rfl, rfl, rfl, rfl, rfl, rfl, rfl, rfl, rfl, hack, rfl, rfl, rfl, hheard⟩

/-- The view is marked by a station that was not ACTIVE at a broken frame (R74, R150). -/
theorem receptionError_eq (s : State) : receptionError s = leaveFrame false (decide ((recUp s.link).state = .active))
    ((s.setLink (recUp s.link)).setPlacement { s.placement with viewFlag := s.placement.viewFlag || decide (s.link.state ≠ .active) }) := by
  rw [receptionError]
  by_cases h : s.link.state = .active
  · rw [if_pos h, decide_eq_false (not_not_intro h), Bool.or_false]
    rfl
  · rw [if_neg h, decide_eq_true h, Bool.or_true]
    rfl

/-- Settles O40: the locked queue, the refusal, and the two ends at which nothing is handed on. -/
theorem lostAndRefusedFramesAreNoted : Obligations.LostAndRefusedFramesAreNoted := by
  unfold Obligations.LostAndRefusedFramesAreNoted
  refine ⟨fun cfg s rx bits f flow hactive hrx hframe hvalid hkind hroute hother hfull => ?_,
    fun cfg s rx bits f flow hactive hrx hframe hvalid hattached => ?_,
    fun cfg s rx bits flow hactive hrx hframe => ?_, fun cfg s rx bits flow hactive hrx hframe hattached => ?_⟩
  · have hexec := exec_received hactive hrx hframe flow
    obtain ⟨l, hended, -⟩ := frameEnded_rest (ackOf s bits rx) bits (s.setFlowPin flow)
    rw [hended, takeFrame_valid hvalid] at hexec
    obtain ⟨sync, hhanded⟩ := handOn_other hother ((s.setFlowPin flow).setLink l)
    refine ⟨_, hexec.trans (congrArg (fun t => Host.Outcome.next (stampDropped t)) hhanded), ?_⟩
    rw [filterFrame_routed hkind hroute]
    by_cases hplace : f.kind = 2
    · rw [numberFrame_place hplace, arrive_locked (by exact hfull)]
      exact ⟨rfl, rfl⟩
    · rw [numberFrame_other hplace, arrive_locked (by exact hfull)]
      exact ⟨rfl, rfl⟩
  · have hexec := exec_received hactive hrx hframe flow
    obtain ⟨state, run, count, hended⟩ := frameEnded_attached (ackOf s bits rx) bits (s := s.setFlowPin flow) hattached
    rw [hended, takeFrame_refused hvalid] at hexec
    exact ⟨_, hexec, rfl, rfl, rfl, rfl, rfl, rfl, rfl, rfl, rfl, rfl, rfl⟩
  · refine ⟨_, exec_voided hactive hrx hframe flow, rfl, fun hattached => ?_⟩
    have hack := ackOf_eq (s := s) hattached (ackTail_of_ended (rest := []) (.inr hframe))
    rw [quietBits_of_not_detached bits (s := s.setFlowPin flow) hattached]
    refine ⟨rfl, rfl, rfl, fun hnone => hack.trans ?_, fun driven hdriven => hack.trans ?_⟩
    · rw [hnone]
    · rw [hdriven]
  · have hexec := exec_broken hactive hrx hframe flow
    rw [quietBits_of_not_detached bits (s := s.setFlowPin flow) hattached, receptionError_eq] at hexec
    obtain ⟨state, run, count, hup⟩ := recUp_eq s.link
    have hstate : (recUp s.link).state = state := congrArg Link.state hup
    refine ⟨_, hexec, ?_, ?_, fun h => recUp_of_listenOnly h, fun h htec => recUp_of_active h htec, ?_, rfl, rfl, rfl, rfl, rfl, rfl, rfl, rfl⟩
    · show (recUp s.link).recv = _
      rw [hup]
    · show (recUp s.link).tec = _
      rw [hup]
    · show (if decide ((recUp s.link).state = .active) = true then Tracking.rejecting burstBits else .waitingIdle 0) = _
      exact if_congr (decide_eq_true_iff) rfl rfl

/-- A valid frame with the own address: the clash is taken before the filter, which leaves the ring and the link (R155, R156). -/
theorem handOn_clash {cfg : Settings} {f : Frame} {s : State} (hown : f.source = cfg.address) (hclash : s.link.clash = false)
    (hwaiting : s.ring.waiting = []) :
    (handOn cfg f s).link = { s.link with state := .listenOnly, clash := true, inHand := none } ∧ Unsent (handOn cfg f s).ring ∧
    (handOn cfg f s).ring.mailbox = .empty := by
  obtain ⟨sync, hgiven⟩ := giveAddress_eq cfg f.source s
  have hfound : clashTest cfg f (giveAddress cfg f.source s) = clashFound cfg (giveAddress cfg f.source s) :=
    if_pos ⟨hown, by rw [hgiven]; exact hclash⟩
  have hkept := serviceSteps_unsentKept (cfg := cfg) 24 (s := ((s.setTimeBase { hearAddress cfg f.source s.timeBase with
    sync := sync }).setRing (detachRing s.ring)).setLink { s.link with state := .listenOnly, clash := true, inHand := none }) rfl
    (detachRing_unsent hwaiting)
  have hserved : clashFound cfg (giveAddress cfg f.source s) = _ := congrArg (clashFound cfg) hgiven
  rw [handOn, hfound, hserved]
  generalize hstate : clashFound cfg (s.setTimeBase { hearAddress cfg f.source s.timeBase with sync := sync }) = t
  have hlink : t.link = { s.link with state := .listenOnly, clash := true, inHand := none } := by rw [← hstate]; exact hkept.link
  have hring : Unsent t.ring ∧ t.ring.mailbox = .empty := by rw [← hstate]; exact ⟨hkept.ring, hkept.mailbox⟩
  obtain ⟨hring', hlink'⟩ := filterFrame_own hown (numberFrame f t)
  obtain ⟨hring'', hlink''⟩ := numberFrame_rest f t
  rw [hring', hring'', hlink', hlink'']
  exact ⟨hlink, hring⟩

/-- Settles O42: the clash silences the link and empties the ring before the frame goes on. -/
theorem addressClashSilencesTheStation : Obligations.AddressClashSilencesTheStation := by
  unfold Obligations.AddressClashSilencesTheStation
  intro cfg s rx bits f flow hactive hrx hframe hvalid hown hclash hwaiting
  have hexec := exec_received hactive hrx hframe flow
  obtain ⟨l, hended, hsame⟩ := frameEnded_rest (ackOf s bits rx) bits (s.setFlowPin flow)
  rw [hended, takeFrame_valid hvalid] at hexec
  obtain ⟨hlink, hring, hmailbox⟩ := handOn_clash (s := (s.setFlowPin flow).setLink l) hown (hsame.trans hclash) hwaiting
  have hclashed : (stampDropped (handOn cfg f ((s.setFlowPin flow).setLink l))).link.clash = true := congrArg Link.clash hlink
  exact ⟨_, hexec, hclashed, congrArg Link.state hlink, congrArg Link.inHand hlink, hmailbox, hring.failed, by simp [alarm, hclashed]⟩

end Sys2Proof.Proofs.Reception

/-! PROOFS. TIME frames: the corrections of the position, and the slot-boundary event that a correction reaches (R5, R6, R9 to R13, R19, R20,
R96, R178, R185). -/

namespace Sys2Proof.Machine

/-! ### The placement unit after a rollover, whatever its request has left in the ring (R96, R159, R161) -/

/-- The unit's record is empty, and no request of the unit stands on a frame that has completed without a failure. -/
structure RolledUnit (s : State) : Prop where
  map : s.placement.map = []
  working : s.placement.working = none
  announced : s.placement.announced = none
  unsent : ∀ i : Index, requestOn i s.placement.request = true → (s.ring.descriptors.get i).reason = none →
    (s.ring.descriptors.get i).state ≠ .doneOk ∧ (s.ring.descriptors.get i).state ≠ .doneFail

theorem RolledUnit.of_same {s t : State} (h : RolledUnit s) (hplacement : t.placement = s.placement)
    (hring : t.ring.descriptors = s.ring.descriptors) : RolledUnit t :=
  ⟨by rw [hplacement]; exact h.map, by rw [hplacement]; exact h.working, by rw [hplacement]; exact h.announced,
    by rw [hplacement, hring]; exact h.unsent⟩

theorem RolledUnit.of_set {s t : State} (h : RolledUnit s) (hplacement : t.placement = s.placement) {j : Index} {d : Descriptor}
    (hring : t.ring.descriptors = s.ring.descriptors.set j d) (hd : d.reason = none → d.state ≠ .doneOk ∧ d.state ≠ .doneFail) :
    RolledUnit t := by
  refine ⟨by rw [hplacement]; exact h.map, by rw [hplacement]; exact h.working, by rw [hplacement]; exact h.announced, fun i hi => ?_⟩
  rw [hplacement] at hi
  rw [hring, Six.get_set]
  split
  · exact hd
  · exact h.unsent i hi

theorem beginComputation_eq (cfg : Settings) (s : State) : ∃ c : Option Computation,
    beginComputation cfg s = s.setPlacement { s.placement with computation := c } := by
  unfold beginComputation
  split
  · exact ⟨_, rfl⟩
  · exact ⟨s.placement.computation, rfl⟩

/-- A failure taken by a unit with nothing announced ends the request, and leaves the record empty (R86, R87). -/
theorem takePlaceFail_rolled {cfg : Settings} {s : State} (h : RolledUnit s) (reason : FailReason) :
    RolledUnit (takePlaceFail cfg reason s) ∧ (takePlaceFail cfg reason s).ring = s.ring := by
  have hnone : (endRequest reason s.placement).announced = none := h.announced
  have hback : returnAnnounced (endRequest reason s.placement) = endRequest reason s.placement := by simp only [returnAnnounced, hnone]
  have hended : RolledUnit (s.setPlacement (endRequest reason s.placement)) :=
    ⟨h.map, h.working, h.announced, fun i hi => nomatch hi⟩
  simp only [takePlaceFail, hback, hnone, Option.isSome_none, Bool.false_eq_true, if_false]
  split
  · exact ⟨hended, rfl⟩
  · split
    · obtain ⟨c, hbegun⟩ := beginComputation_eq cfg (s.setPlacement (endRequest reason s.placement))
      rw [hbegun]
      exact ⟨⟨h.map, h.working, h.announced, fun i hi => nomatch hi⟩, rfl⟩
    · exact ⟨hended, rfl⟩

theorem releaseHead_rolled {s : State} (h : RolledUnit s) : RolledUnit (releaseHead s) := by
  have hfreed : Descriptor.freed.reason = none → Descriptor.freed.state ≠ .doneOk ∧ Descriptor.freed.state ≠ .doneFail :=
    fun _ => ⟨fun k => (nomatch k), fun k => (nomatch k)⟩
  obtain ⟨-, hreleased⟩ | ⟨w, ws, -, hreleased⟩ := releaseHead_cases s
  · rw [hreleased]
    exact h.of_set (j := s.ring.head) rfl rfl hfreed
  · have hready : ∀ d : Descriptor, d = readyDescriptor w.producer w.payload →
        d.reason = none → d.state ≠ .doneOk ∧ d.state ≠ .doneFail := by
      rintro _ rfl
      exact fun _ => ⟨fun k => (nomatch k), fun k => (nomatch k)⟩
    have hfilled : RolledUnit (s.setRing (fillRing w.producer w.payload { freeHead s.ring with waiting := ws })) :=
      (h.of_set (t := s.setRing { freeHead s.ring with waiting := ws }) (j := s.ring.head) rfl rfl hfreed).of_set
        (j := s.ring.fill) rfl rfl (hready _ rfl)
    rw [hreleased]
    cases hproducer : w.producer
    case line | status => exact (hproducer ▸ hfilled).of_same rfl rfl
    case place =>
      refine ⟨h.map, h.working, h.announced, fun i hi => ?_⟩
      obtain rfl : s.ring.fill = i := of_decide_eq_true hi
      have hget : (fillRing .place w.payload { freeHead s.ring with waiting := ws }).descriptors.get s.ring.fill =
          readyDescriptor w.producer w.payload := by
        rw [hproducer]
        exact Six.get_set_same _ _ _
      exact hready _ hget

theorem lineRequest_rolled (cfg : Settings) (change : Bool) {s : State} (h : RolledUnit s) : RolledUnit (lineRequest cfg change s) := by
  have hdone := lineRequest_flowDone cfg change s
  obtain ⟨hring, -⟩ | ⟨⟨payload, ⟨-, hring⟩ | ⟨-, hring⟩⟩, -⟩ := hdone.ring
  · exact h.of_same hdone.placement (congrArg Ring.descriptors hring)
  · exact h.of_set (j := s.ring.fill) (d := readyDescriptor .line payload) hdone.placement (by rw [hring]; rfl)
      fun _ => ⟨fun k => (nomatch k), fun k => (nomatch k)⟩
  · exact h.of_same hdone.placement (by rw [hring]; rfl)

theorem takeHead_rolled {cfg : Settings} {s t : State} (h : RolledUnit s)
    (hdone : (headDescriptor s.ring).state = .doneOk ∨ (headDescriptor s.ring).state = .doneFail)
    (htaken : takeHead cfg (headDescriptor s.ring) s = some t) : RolledUnit t := by
  unfold takeHead at htaken
  split at htaken
  · cases htaken
    exact releaseHead_rolled h
  · split at htaken
    · cases htaken
    · cases htaken
      refine releaseHead_rolled ?_
      by_cases hon : requestOn s.ring.head s.placement.request = true
      · cases hreason : (headDescriptor s.ring).reason with
        | none =>
          obtain ⟨hok, hfail⟩ := h.unsent s.ring.head hon hreason
          exact absurd hdone (fun k => k.elim hok hfail)
        | some reason =>
          rw [takePlace_fail hon hreason]
          exact (takePlaceFail_rolled h reason).1
      · rw [takePlace_off (Bool.eq_false_of_not_eq_true hon)]
        exact h
  · cases htaken
    obtain ⟨hring, -, hplacement⟩ := clearLine_same cfg (headDescriptor s.ring) s
    have hreleased := releaseHead_rolled (h.of_same (t := clearLine (adoptCompleted cfg (headDescriptor s.ring) s)) hplacement
      (congrArg Ring.descriptors hring))
    simp only [takeLine]
    split
    · exact lineRequest_rolled cfg true hreleased
    · exact hreleased
  · cases htaken
    obtain ⟨hring, -, hplacement⟩ := takeStatus_same (headDescriptor s.ring) s
    exact releaseHead_rolled (h.of_same hplacement (congrArg Ring.descriptors hring))

theorem serviceOnce_rolled {cfg : Settings} {s t : State} (h : RolledUnit s) (hserved : serviceOnce cfg s = some t) : RolledUnit t := by
  have hfailed : ∀ reason : FailReason,
      RolledUnit (s.setRing (setDescriptor s.ring s.ring.head (failDescriptor reason (headDescriptor s.ring)))) := fun reason =>
    h.of_set (j := s.ring.head) (d := failDescriptor reason (headDescriptor s.ring)) rfl rfl fun k => nomatch k
  simp only [serviceOnce] at hserved
  split at hserved
  case h_1 | h_2 => cases hserved
  case h_3 =>
    split at hserved
    · cases hserved
    · cases hserved
      exact hfailed .detached
  case h_4 =>
    cases hserved
    exact hfailed .cancelled
  case h_5 hstate => exact takeHead_rolled h (.inl hstate) hserved
  case h_6 hstate => exact takeHead_rolled h (.inr hstate) hserved

theorem serviceHead_rolled (cfg : Settings) {s : State} (h : RolledUnit s) : RolledUnit (serviceHead cfg s) := by
  have hsteps : ∀ (n : Nat) (s : State), RolledUnit s → RolledUnit (serviceSteps cfg n s) := fun n => by
    induction n with
    | zero => exact fun s hs => hs
    | succ n ih =>
      intro s hs
      cases hserved : serviceOnce cfg s with
      | none => rwa [serviceSteps_of_none hserved]
      | some t =>
        rw [serviceSteps_of_some hserved]
        exact ih t (serviceOnce_rolled hs hserved)
  exact hsteps 24 s h

/-- After the event of slot 0 the unit's record is empty (R96). -/
theorem everySlot_boundary_rolled (cfg : Settings) (entered : Bool) (b : State) :
    (everySlot cfg 0 (boundaryBlocks cfg entered b)).placement.map = [] ∧
    (everySlot cfg 0 (boundaryBlocks cfg entered b)).placement.working = none := by
  have hrolled : RolledUnit (rollover cfg b) :=
    serviceHead_rolled cfg ⟨rfl, rfl, rfl, fun i hi => nomatch hi⟩
  have hflow := (boundaryFlow cfg entered (grantPermits ((rollover cfg b).setPeers (rolloverPeers cfg (rollover cfg b).timeBase.cycle
    (rollover cfg b).peers)))).placement
  have hplacement : (everySlot cfg 0 (boundaryBlocks cfg entered b)).placement = (rollover cfg b).placement := hflow
  rw [hplacement]
  exact ⟨hrolled.map, hrolled.working⟩

/-! ### What an event leaves of the Time Base and the scanner (R5, R6, R19, R20) -/

/-- What the points of the slots leave as the event has taken it. -/
structure PointKept (s t : State) : Prop where
  timeBase : t.timeBase = s.timeBase
  scanner : t.scanner = s.scanner
  station : t.supervisor.station = s.supervisor.station
  joinCount : t.supervisor.joinCount = s.supervisor.joinCount

theorem PointKept.trans {s t u : State} (h : PointKept s t) (k : PointKept t u) : PointKept s u :=
  ⟨k.timeBase.trans h.timeBase, k.scanner.trans h.scanner, k.station.trans h.station, k.joinCount.trans h.joinCount⟩

theorem Served.pointKept {s t : State} (h : Served s t) : PointKept s t := ⟨h.timeBase, h.scanner, h.supStation, h.supJoinCount⟩

theorem slotPoint_pointKept (cfg : Settings) (slot : Nat) (s : State) : PointKept s (slotPoint cfg slot s) := by
  have hsame : PointKept s s := ⟨rfl, rfl, rfl, rfl⟩
  have hselected : PointKept s (selectSources s cfg) := ⟨rfl, rfl, rfl, rfl⟩
  have hbegun : ∀ t : State, PointKept s t → PointKept s (beginComputation cfg t) := fun t h =>
    h.trans (beginComputation_served cfg t).pointKept
  unfold slotPoint
  split
  · simp only [demandPoint]
    split
    · exact hsame
    · exact hsame
    · exact hselected
    · exact hbegun _ ⟨rfl, rfl, rfl, rfl⟩
    · exact hbegun _ hselected
    · exact hselected
  · split
    · unfold freeze
      split
      · exact (closeWindow_served cfg s).pointKept.trans ⟨rfl, rfl, rfl, rfl⟩
      · exact hsame
    · split
      · simp only [statusPoint]
        split
        · split
          · exact PointKept.trans (t := putStatus _) ⟨rfl, rfl, rfl, rfl⟩ (serviceHead_served cfg _).pointKept
          · exact ⟨rfl, rfl, rfl, rfl⟩
        · exact hsame
      · exact hsame

/-- Every event arms the scan and the window of its slot, in the cycle of its moment (R19, R20). -/
theorem everySlot_armed (cfg : Settings) (slot : Nat) (s : State) :
    (everySlot cfg slot s).scanner.scan = true ∧ (everySlot cfg slot s).timeBase = s.timeBase ∧
    (everySlot cfg slot s).scanner.window = some { ends := 0, slot := slot, cycle := s.timeBase.cycle,
                                                   level := Six.fill false, changed := Six.fill false } := by
  have hserved := samplePin_served cfg (armed slot s)
  exact ⟨congrArg Scanner.scan hserved.scanner, hserved.timeBase, congrArg Scanner.window hserved.scanner⟩

theorem slotEvent_armed (cfg : Settings) (counted : Bool) (slot : Nat) (s : State) :
    (slotEvent cfg counted slot s).scanner.scan = true ∧
    (slotEvent cfg counted slot s).scanner.window = some { ends := 0, slot := slot, cycle := (slotEvent cfg counted slot s).timeBase.cycle,
                                                           level := Six.fill false, changed := Six.fill false } := by
  by_cases h : slot = 0
  · subst h
    simp only [slotEvent, if_pos]
    obtain ⟨hscan, htime, hwindow⟩ := everySlot_armed cfg 0 (boundaryBlocks cfg
      (decide ((beforeEvent cfg 0 s).supervisor.station = .listening) &&
        decide ((takeSlot 0 (beforeBoundary cfg counted (beforeEvent cfg 0 s))).supervisor.station = .running))
      (takeSlot 0 (beforeBoundary cfg counted (beforeEvent cfg 0 s))))
    rw [htime]
    exact ⟨hscan, hwindow⟩
  · rw [slotEvent_of_slot cfg counted h]
    have hkept := slotPoint_pointKept cfg slot (atPoint cfg slot s)
    obtain ⟨hscan, htime, hwindow⟩ := everySlot_armed cfg slot (takeSlot slot (beforeEvent cfg slot s))
    rw [hkept.scanner, hkept.timeBase]
    refine ⟨hscan, hwindow.trans ?_⟩
    rw [atPoint, htime]

/-- An event of a slot other than 0 takes its slot, and leaves the rest of the Time Base and the station (R5). -/
theorem slotEvent_within (cfg : Settings) (counted : Bool) {slot : Nat} (h : slot ≠ 0) (s : State) :
    (slotEvent cfg counted slot s).timeBase = { s.timeBase with takenSlot := slot } ∧
    (slotEvent cfg counted slot s).supervisor.station = s.supervisor.station ∧
    (slotEvent cfg counted slot s).supervisor.joinCount = s.supervisor.joinCount := by
  have hbefore := beforeEvent_served cfg slot s
  have hsample := samplePin_served cfg (armed slot (takeSlot slot (beforeEvent cfg slot s)))
  rw [slotEvent_of_slot cfg counted h]
  have hkept := slotPoint_pointKept cfg slot (atPoint cfg slot s)
  refine ⟨hkept.timeBase.trans (hsample.timeBase.trans ?_), hkept.station.trans (hsample.supStation.trans hbefore.supStation),
    hkept.joinCount.trans (hsample.supJoinCount.trans hbefore.supJoinCount)⟩
  exact congrArg (fun t : TimeBase => { t with takenSlot := slot }) hbefore.timeBase

/-- The state in which the blocks take the event of slot 0, whether or not its boundary counts the cycle (R6, R11, R179). -/
def landed (cfg : Settings) (counted : Bool) (s : State) : State := takeSlot 0 (beforeBoundary cfg counted (beforeEvent cfg 0 s))

/-- An event of slot 0, by the state in which the blocks take it (R6, R96, R179). -/
theorem slotEvent_landed (cfg : Settings) (counted : Bool) (s : State) :
    AfterBoundary cfg (landed cfg counted s) (slotEvent cfg counted 0 s) ∧ (slotEvent cfg counted 0 s).placement.map = [] ∧
    (slotEvent cfg counted 0 s).placement.working = none :=
  ⟨afterBoundary cfg _ (landed cfg counted s), everySlot_boundary_rolled cfg _ (landed cfg counted s)⟩

/-- The Time Base that the blocks find there: the ages and the heard address moved on (R6). -/
theorem landed_timeBase (cfg : Settings) (counted : Bool) (s : State) :
    (landed cfg counted s).timeBase.cycle = (if counted then s.timeBase.cycle + 1 + s.timeBase.pendingOffset else s.timeBase.cycle) ∧
    (landed cfg counted s).timeBase.pendingOffset = (if counted then 0 else s.timeBase.pendingOffset) ∧
    (landed cfg counted s).timeBase.timeAge = min 255 (s.timeBase.timeAge + 1) ∧
    (landed cfg counted s).timeBase.heardNow = none := by
  obtain ⟨now, before, reference, flag, hdecided, -⟩ := stationBoundary_timeBase cfg (beforeEvent cfg 0 s)
  have htime : (landed cfg counted s).timeBase =
      { cycleTimes cfg (stationBoundary cfg (beforeEvent cfg 0 s)).supervisor.station counted
          (stationBoundary cfg (beforeEvent cfg 0 s)).timeBase with takenSlot := 0 } :=
    congrArg (fun t : TimeBase => { t with takenSlot := 0 }) (cycleSteps_timeBase cfg counted _)
  rw [htime, hdecided, (beforeEvent_served cfg 0 s).timeBase]
  cases counted <;> exact ⟨rfl, rfl, rfl, rfl⟩

/-- The other blocks there: as the decision of the supervisor leaves them (R179). -/
theorem landed_rest (cfg : Settings) (counted : Bool) (s : State) :
    (landed cfg counted s).supervisor = (stationBoundary cfg (beforeEvent cfg 0 s)).supervisor ∧
    (landed cfg counted s).zones = (stationBoundary cfg (beforeEvent cfg 0 s)).zones ∧
    (landed cfg counted s).placement.frozen = s.placement.frozen := by
  obtain ⟨hsupervisor, -, hzones, -, hplacement⟩ := cycleSteps_rest cfg counted (stationBoundary cfg (beforeEvent cfg 0 s))
  refine ⟨hsupervisor, hzones, ?_⟩
  have hsame : (landed cfg counted s).placement = (beforeEvent cfg 0 s).placement :=
    hplacement.trans (stationBoundary_rest cfg _).2.1
  rw [hsame, (beforeEvent_served cfg 0 s).unitFrozen]

/-- Outside LISTENING the zones come to the event as they stood (R56, R179). -/
theorem landed_zones {cfg : Settings} {counted : Bool} {s : State} (h : s.supervisor.station ≠ .listening) :
    (landed cfg counted s).zones = s.zones := by
  obtain ⟨x, sc, hdecision⟩ := boundaryDecision_supervisorScannerAlone cfg (beforeEvent cfg 0 s)
  have hbefore := beforeEvent_served cfg 0 s
  rw [(landed_rest cfg counted s).2.1, stationBoundary_of_no_join (fun k => h (hbefore.supStation.symm.trans k.1)), hdecision]
  exact hbefore.zones

/-- A cycle boundary in LISTENING: the join count, and the end of the join (R178). -/
theorem landed_listening {cfg : Settings} {counted : Bool} {s : State} (h : s.supervisor.station = .listening) :
    (landed cfg counted s).supervisor.joinCount = min 16 (s.supervisor.joinCount + 1) ∧
    (landed cfg counted s).supervisor.station =
      (if cfg.joinCycles ≤ min 16 (s.supervisor.joinCount + 1) ∧ s.supervisor.mainsLost = false then .running else .listening) := by
  have hbefore := beforeEvent_served cfg 0 s
  have hstation : (beforeEvent cfg 0 s).supervisor.station = .listening := hbefore.supStation.trans h
  rw [(landed_rest cfg counted s).1, ← hbefore.supJoinCount, ← hbefore.supMainsLost]
  by_cases hends : cfg.joinCycles ≤ min 16 ((beforeEvent cfg 0 s).supervisor.joinCount + 1) ∧
      (beforeEvent cfg 0 s).supervisor.mainsLost = false
  · rw [if_pos hends, stationBoundary_of_join hstation hends.1 hends.2]
    exact ⟨rfl, rfl⟩
  · have hdecision : boundaryDecision cfg (beforeEvent cfg 0 s) = (beforeEvent cfg 0 s).setSupervisor
        { (beforeEvent cfg 0 s).supervisor with joinCount := min 16 ((beforeEvent cfg 0 s).supervisor.joinCount + 1) } := by
      have hjoin : boundaryDecision cfg (beforeEvent cfg 0 s) = joinBoundary cfg (beforeEvent cfg 0 s) := by
        rw [boundaryDecision, hstation]
      refine hjoin.trans (if_neg fun k => hends ?_)
      rw [Bool.and_eq_true, Bool.not_eq_true', decide_eq_true_iff] at k
      exact k
    have hstays : stationBoundary cfg (beforeEvent cfg 0 s) = boundaryDecision cfg (beforeEvent cfg 0 s) :=
      stationBoundary_of_no_join fun k => by
        rw [hdecision] at k
        exact nomatch hstation.symm.trans k.2
    rw [if_neg hends, hstays, hdecision]
    exact ⟨rfl, hstation⟩

end Sys2Proof.Machine

/-! PROOFS. A used TIME frame: bounded and outright corrections (R5, R6, R9 to R13, R178, R185). -/

namespace Sys2Proof.Machine

/-! ### A used TIME frame at the Time Base (R9 to R12) -/

/-- The Time Base as a used TIME frame leaves it before its correction: its source heard, its age noted (R9, R10, R14, R17). -/
def timeNoted (cfg : Settings) (c : Correction) (now reference : Option Nat) (sync : SyncState) (t : TimeBase) : TimeBase :=
  { t with heardNow := now, reference := reference, sync := sync, timeAge := 0
           goodAge := if c.phase.natAbs ≤ cfg.jumpLimit then some 0 else t.goodAge }

theorem takeTime_used {cfg : Settings} {source : Nat} {p : TimePayload} {s : State} {stamp : Timestamp}
    (hstamp : s.timeBase.timestamp = some stamp) (hused : timeUsed cfg source p s.timeBase = true) :
    takeTime cfg source p s =
      if s.supervisor.station = .listening then outright cfg p (correctionOf cfg p stamp) (s.setTimeBase
        { evalSync cfg s.supervisor.station (noteUsed cfg (correctionOf cfg p stamp) s.timeBase) with joinFlag := true })
      else bounded cfg (correctionOf cfg p stamp) (s.setTimeBase
        (evalSync cfg s.supervisor.station (noteUsed cfg (correctionOf cfg p stamp) s.timeBase))) := by
  simp only [takeTime, hstamp, hused, if_true]

/-- FRAME_RECEIVED of a used TIME frame, up to its correction (R9, R10, R143). -/
theorem exec_timeFrame {cfg : Settings} {s : State} {rx : Reception} {bits : List Bool} {f : Frame} {stamp : Timestamp}
    (hactive : activeSettings s = some cfg) (hrx : s.link.reception = some rx) (hframe : rxFrame (rx.bits ++ bits) = .received f [])
    (hvalid : frameValid f = true) (hkind : f.kind = 0) (hstamp : s.timeBase.timestamp = some stamp)
    (hused : timeUsed cfg f.source (timePayload f.payload) (hearAddress cfg f.source s.timeBase) = true) (flow : Bool) :
    ∃ (l : Link) (now reference : Option Nat) (sync : SyncState), exec (.frameReceived (.sampled bits) flow) s = .next (stampDropped
      (if s.supervisor.station = .listening then
        outright cfg (timePayload f.payload) (correctionOf cfg (timePayload f.payload) stamp) (((s.setFlowPin flow).setLink l).setTimeBase
          { timeNoted cfg (correctionOf cfg (timePayload f.payload) stamp) now reference sync s.timeBase with joinFlag := true })
      else bounded cfg (correctionOf cfg (timePayload f.payload) stamp) (((s.setFlowPin flow).setLink l).setTimeBase
        (timeNoted cfg (correctionOf cfg (timePayload f.payload) stamp) now reference sync s.timeBase)))) := by
  have hother : f.source ≠ cfg.address := by
    simp only [timeUsed, Bool.and_eq_true, decide_eq_true_eq] at hused
    exact hused.1.1.1.1.2
  obtain ⟨l, hended, -⟩ := frameEnded_rest (ackOf s bits rx) bits (s.setFlowPin flow)
  obtain ⟨heard, hhanded⟩ := handOn_other hother ((s.setFlowPin flow).setLink l)
  have hplain : f.kind ≠ 2 := by omega
  have hfiltered : ∀ u : State, filterFrame cfg f u = takeTime cfg f.source (timePayload f.payload) u := fun u => if_pos hkind
  have hexec := exec_received hactive hrx hframe flow
  rw [hended, takeFrame_valid hvalid, hhanded, numberFrame_other hplain, hfiltered, takeTime_used (by exact hstamp) (by exact hused)] at hexec
  exact ⟨l, _, _, _, hexec⟩

/-! ### Bounded corrections (R12, R13) -/

/-- The state after the move of a bounded correction, before the event it may give. -/
def boundedMoved (cfg : Settings) (c : Correction) (s : State) : State :=
  s.setTimeBase { s.timeBase with
    pendingOffset := c.offset, position := movePosition cfg s.timeBase.position (boundedMove cfg c.phase) }

/-- A move that enters the slot that follows the taken slot issues its event (R5, R12). -/
theorem bounded_event {cfg : Settings} {c : Correction} {s : State} (hforward : 0 < boundedMove cfg c.phase)
    (henters : entersNext cfg s.timeBase s.timeBase.position (movePosition cfg s.timeBase.position (boundedMove cfg c.phase)) = true) :
    bounded cfg c s = slotEvent cfg true (nextSlot s.timeBase) (boundedMoved cfg c s) := by
  refine (if_pos hforward).trans ?_
  exact if_pos (by exact henters)

/-- Any other move issues none (R12). -/
theorem bounded_still {cfg : Settings} {c : Correction} {s : State} (h : boundedMove cfg c.phase ≤ 0 ∨
    entersNext cfg s.timeBase s.timeBase.position (movePosition cfg s.timeBase.position (boundedMove cfg c.phase)) = false) :
    bounded cfg c s = boundedMoved cfg c s := by
  by_cases hforward : 0 < boundedMove cfg c.phase
  · obtain h | h := h
    · exact absurd hforward (Int.not_lt.mpr h)
    · refine (if_pos hforward).trans ?_
      exact if_neg (by rw [Bool.not_eq_true]; exact h)
  · exact if_neg hforward

theorem bounded_position (cfg : Settings) (c : Correction) (s : State) :
    (bounded cfg c s).timeBase.position = movePosition cfg s.timeBase.position (boundedMove cfg c.phase) := by
  by_cases h : boundedMove cfg c.phase ≤ 0 ∨
      entersNext cfg s.timeBase s.timeBase.position (movePosition cfg s.timeBase.position (boundedMove cfg c.phase)) = false
  · rw [bounded_still h]
    rfl
  · rw [not_or, Bool.not_eq_false, Int.not_le] at h
    rw [bounded_event h.1 h.2, (slotEvent_eventKept cfg true _ _).timePosition]
    rfl

theorem entersNext_iff (cfg : Settings) (t : TimeBase) (p q : Nat) :
    entersNext cfg t p q = true ↔ slotOf cfg p ≠ slotOf cfg q ∧ slotOf cfg q = (t.takenSlot + 1) % 32 := by
  rw [entersNext, Bool.and_eq_true, decide_eq_true_iff, decide_eq_true_iff]
  rfl

/-! ### The phase error and the expected cycle (R10) -/

theorem half_cycle (cfg : Settings) : (cycleLength cfg : Int) / 2 = 16 * cfg.slotLen := by
  unfold cycleLength
  push_cast
  omega

theorem phaseError_eq (cfg : Settings) (d : Int) : phaseError cfg d =
    if (16 * cfg.slotLen : Int) < d then d - 32 * cfg.slotLen
    else if d < -(16 * cfg.slotLen - 1 : Int) then d + 32 * cfg.slotLen else d := by
  have hcycle : (cycleLength cfg : Int) = 32 * cfg.slotLen := by
    unfold cycleLength
    push_cast
    rfl
  have hhalf : (32 * cfg.slotLen : Int) / 2 = 16 * cfg.slotLen := by omega
  simp only [phaseError, hcycle, hhalf]

theorem expectedCycle_eq (cfg : Settings) (d : Int) (c : Cycle) : expectedCycle cfg d c =
    if (16 * cfg.slotLen : Int) < d then c - 1 else if d < -(16 * cfg.slotLen - 1 : Int) then c + 1 else c := by
  simp only [expectedCycle, half_cycle]

theorem adoptedCycle_eq (cfg : Settings) (p : TimePayload) (landing : Nat) :
    adoptedCycle cfg p landing = p.cycle + (if landing < senderPosition cfg p then 1 else 0) := by
  rw [adoptedCycle]
  split
  · rfl
  · exact (BitVec.add_zero _).symm

/-! ### Outright corrections (R11) -/

/-- The state after an outright move, before the event it may give. -/
def outrightMoved (cfg : Settings) (p : TimePayload) (c : Correction) (s : State) : State :=
  s.setTimeBase { s.timeBase with
    position := movePosition cfg s.timeBase.position c.phase
    cycle := adoptedCycle cfg p (movePosition cfg s.timeBase.position c.phase), pendingOffset := 0 }

theorem outright_event {cfg : Settings} {p : TimePayload} {c : Correction} {s : State} (h : (aheadToNext cfg s.timeBase : Int) ≤ c.phase) :
    outright cfg p c s = slotEvent cfg false (slotOf cfg (movePosition cfg s.timeBase.position c.phase)) (outrightMoved cfg p c s) :=
  if_pos h

theorem outright_still {cfg : Settings} {p : TimePayload} {c : Correction} {s : State} (h : c.phase < (aheadToNext cfg s.timeBase : Int)) :
    outright cfg p c s = outrightMoved cfg p c s := if_neg (Int.not_le.mpr h)

/-! ### The event that a correction reaches (R5, R185) -/

/-- What every event leaves in the scanner and at the gates. -/
structure EventSeen (slot : Nat) (t : State) : Prop where
  taken : t.timeBase.takenSlot = slot
  scan : t.scanner.scan = true
  window : t.scanner.window = some { ends := 0, slot := t.timeBase.takenSlot, cycle := t.timeBase.cycle,
                                     level := Six.fill false, changed := Six.fill false }
  gates : ∀ z : Index, t.supervisor.gates.get z = true ↔
    (t.supervisor.station = .running ∧ (t.zones.get z).condition = .normal ∧ (t.zones.get z).permit = true ∧
      ∃ r : Run, runOf t.placement.current z = some r ∧ (t.timeBase.takenSlot + 32 - r.start) % 32 < r.length)

theorem slotEvent_seen (cfg : Settings) (counted : Bool) (slot : Nat) (s : State) : EventSeen slot (slotEvent cfg counted slot s) := by
  obtain ⟨hdriven, htaken⟩ := slotEvent_gatesDriven cfg counted slot s
  obtain ⟨hscan, hwindow⟩ := slotEvent_armed cfg counted slot s
  refine ⟨htaken, hscan, by rw [htaken]; exact hwindow, fun z => ?_⟩
  rw [hdriven z, htaken]
  exact gateLevel_iff _ slot z

end Sys2Proof.Machine

namespace Sys2Proof.Proofs.TimeFrames
open Sys2Proof.Machine

/-- Settles O41: a bounded correction with and without its event, and an outright one with and without its event. -/
theorem usedTimeFrameCorrectsThePosition : Obligations.UsedTimeFrameCorrectsThePosition := by
  unfold Obligations.UsedTimeFrameCorrectsThePosition
  refine ⟨fun cfg s rx bits f flow stamp hactive hsettled hrx hframe hvalid hkind hstamp hused _ => ?_,
    fun cfg s rx bits f flow stamp e m position offset hactive hsettled hrx hframe hvalid hkind hstamp hused _ he hm hforward hposition
      hmoved hnext hoffset => ?_,
    fun cfg s rx bits f flow stamp hactive hlistening hrx hframe hvalid hkind hstamp hused _ hshort => ?_,
    fun cfg s rx bits f flow stamp e hactive hlistening hrx hframe hvalid hkind hstamp hused _ he hlong => ?_⟩
  · obtain ⟨l, now, reference, sync, hexec⟩ := exec_timeFrame hactive hrx hframe hvalid hkind hstamp hused flow
    have hother : s.supervisor.station ≠ .listening := fun h => by rw [h] at hsettled; exact nomatch hsettled
    rw [if_neg hother] at hexec
    refine ⟨_, _, _, boundedMove cfg (correctionOf cfg (timePayload f.payload) stamp).phase, hexec, rfl, rfl,
      congrArg (boundedMove cfg) (phaseError_eq cfg _), bounded_position cfg _ _, fun hstill => ?_⟩
    have hposition := bounded_position cfg (correctionOf cfg (timePayload f.payload) stamp) (((s.setFlowPin flow).setLink l).setTimeBase
      (timeNoted cfg (correctionOf cfg (timePayload f.payload) stamp) now reference sync s.timeBase))
    have hnone : bounded cfg (correctionOf cfg (timePayload f.payload) stamp) (((s.setFlowPin flow).setLink l).setTimeBase
        (timeNoted cfg (correctionOf cfg (timePayload f.payload) stamp) now reference sync s.timeBase)) = _ := bounded_still (by
      rw [← hposition, ← Bool.not_eq_true, entersNext_iff]
      obtain h | h | h := hstill
      · exact .inr fun k => k.1 h.symm
      · exact .inl h
      · exact .inr fun k => h k.2)
    rw [hnone]
    have hphase := phaseError_eq cfg ((senderPosition cfg (timePayload f.payload) : Int) - stamp.position)
    have hcycle := expectedCycle_eq cfg ((senderPosition cfg (timePayload f.payload) : Int) - stamp.position) stamp.cycle
    exact ⟨rfl, rfl, rfl, if_congr (iff_of_eq (congrArg (fun x : Int => x.natAbs ≤ cfg.jumpLimit) hphase)) rfl rfl, congrArg (BitVec.ofNat 16 (u16At f.payload 0) - ·) hcycle⟩
  · obtain ⟨l, now, reference, sync, hexec⟩ := exec_timeFrame hactive hrx hframe hvalid hkind hstamp hused flow
    have hother : s.supervisor.station ≠ .listening := fun h => by rw [h] at hsettled; exact nomatch hsettled
    have hmove : boundedMove cfg (correctionOf cfg (timePayload f.payload) stamp).phase = m := by rw [hm, he]; rfl
    have hlanding : movePosition cfg s.timeBase.position (boundedMove cfg (correctionOf cfg (timePayload f.payload) stamp).phase) = position := by
      rw [hmove, hposition]
      rfl
    rw [if_neg hother, bounded_event (by rw [hmove]; exact hforward)
      ((entersNext_iff cfg _ _ _).mpr (by exact ⟨hlanding ▸ fun h => hmoved h.symm, hlanding ▸ hnext⟩))] at hexec
    have hslot : nextSlot (timeNoted cfg (correctionOf cfg (timePayload f.payload) stamp) now reference sync s.timeBase) = position / cfg.slotLen :=
      hnext.symm
    have hoffset' : (correctionOf cfg (timePayload f.payload) stamp).offset = offset := hoffset.symm
    have hv : ∃ v : State, boundedMoved cfg (correctionOf cfg (timePayload f.payload) stamp) (((s.setFlowPin flow).setLink l).setTimeBase
        (timeNoted cfg (correctionOf cfg (timePayload f.payload) stamp) now reference sync s.timeBase)) = v ∧
        v.timeBase.position = position ∧ v.timeBase.cycle = s.timeBase.cycle ∧ v.timeBase.pendingOffset = offset ∧ v.timeBase.timeAge = 0 ∧
        v.supervisor = s.supervisor ∧ v.zones = s.zones ∧ v.placement = s.placement :=
      ⟨_, rfl, hlanding, rfl, hoffset', rfl, rfl, rfl, rfl⟩
    obtain ⟨v, hv, hvposition, hvcycle, hvoffset, hvage, hvsupervisor, hvzones, hvplacement⟩ := hv
    rw [setTimeBase_timeBase, hslot, hv] at hexec
    have hseen := slotEvent_seen cfg true (position / cfg.slotLen) v
    refine ⟨_, hexec, (slotEvent_eventKept cfg true _ v).timePosition.trans hvposition, hseen.taken, hseen.scan, hseen.window, hseen.gates,
      fun hwithin => ?_, fun hboundary => ?_⟩
    · have hslot0 : position / cfg.slotLen ≠ 0 := fun h => hwithin (hseen.taken.trans h)
      obtain ⟨htime, -, -⟩ := slotEvent_within cfg true hslot0 v
      show (slotEvent cfg true (position / cfg.slotLen) v).timeBase.cycle = _ ∧
        (slotEvent cfg true (position / cfg.slotLen) v).timeBase.pendingOffset = _ ∧
        (slotEvent cfg true (position / cfg.slotLen) v).timeBase.timeAge = _
      rw [htime]
      exact ⟨hvcycle, hvoffset, hvage⟩
    · have hslot0 : position / cfg.slotLen = 0 := hseen.taken.symm.trans hboundary
      rw [hslot0]
      obtain ⟨hafter, hmap, hworking⟩ := slotEvent_landed cfg true v
      obtain ⟨hcycle, hpending, hage, hheard⟩ := landed_timeBase cfg true v
      have hzones : (landed cfg true v).zones = s.zones := (landed_zones (by rw [hvsupervisor]; exact hother)).trans hvzones
      have hfrozen : (landed cfg true v).placement.frozen = s.placement.frozen := by rw [(landed_rest cfg true v).2.2, hvplacement]
      show (slotEvent cfg true 0 v).timeBase.cycle = _ ∧ (slotEvent cfg true 0 v).timeBase.pendingOffset = 0 ∧
        (slotEvent cfg true 0 v).timeBase.timeAge = 1 ∧ (slotEvent cfg true 0 v).timeBase.heardNow = none ∧ _
      rw [hafter.timeBase, hcycle, hpending, hage, hheard, hvcycle, hvoffset, hvage]
      refine ⟨rfl, rfl, rfl, rfl, hmap, hworking, hafter.frozen, hafter.current.trans ?_⟩
      rw [dropReleased, hfrozen, hzones]
      rfl
  · obtain ⟨l, now, reference, sync, hexec⟩ := exec_timeFrame hactive hrx hframe hvalid hkind hstamp hused flow
    rw [if_pos hlistening, outright_still (by exact hshort)] at hexec
    exact ⟨_, _, hexec, rfl, rfl, adoptedCycle_eq cfg (timePayload f.payload) _, rfl, rfl, rfl, rfl, rfl, rfl⟩
  · obtain ⟨l, now, reference, sync, hexec⟩ := exec_timeFrame hactive hrx hframe hvalid hkind hstamp hused flow
    have hphase : (correctionOf cfg (timePayload f.payload) stamp).phase = e := he.symm
    rw [if_pos hlistening, outright_event (by rw [hphase]; exact hlong)] at hexec
    have hv : ∃ v : State, outrightMoved cfg (timePayload f.payload) (correctionOf cfg (timePayload f.payload) stamp)
        (((s.setFlowPin flow).setLink l).setTimeBase { timeNoted cfg (correctionOf cfg (timePayload f.payload) stamp) now reference sync
          s.timeBase with joinFlag := true }) = v ∧
        v.timeBase.position = movePosition cfg s.timeBase.position e ∧
        v.timeBase.cycle = adoptedCycle cfg (timePayload f.payload) (movePosition cfg s.timeBase.position e) ∧
        v.timeBase.pendingOffset = 0 ∧ v.timeBase.timeAge = 0 ∧ v.timeBase.joinFlag = true ∧ v.supervisor = s.supervisor :=
      ⟨_, rfl, by rw [← hphase]; rfl, by rw [← hphase]; rfl, rfl, rfl, rfl, rfl⟩
    obtain ⟨v, hv, hvposition, hvcycle, hvoffset, hvage, hvflag, hvsupervisor⟩ := hv
    rw [setTimeBase_timeBase, hv] at hexec
    have hlanding : movePosition cfg s.timeBase.position (correctionOf cfg (timePayload f.payload) stamp).phase =
        movePosition cfg s.timeBase.position e := by rw [hphase]
    have hslot : slotOf cfg (movePosition cfg s.timeBase.position (correctionOf cfg (timePayload f.payload) stamp).phase) =
        movePosition cfg s.timeBase.position e / cfg.slotLen := congrArg (slotOf cfg) hlanding
    have hseen := slotEvent_seen cfg false (movePosition cfg s.timeBase.position e / cfg.slotLen) v
    have hposition := (slotEvent_eventKept cfg false (movePosition cfg s.timeBase.position e / cfg.slotLen) v).timePosition.trans hvposition
    have hexec' := hexec.trans (congrArg (fun k => Host.Outcome.next (stampDropped (slotEvent cfg false k v))) hslot)
    have hadopted := adoptedCycle_eq cfg (timePayload f.payload) (movePosition cfg s.timeBase.position e)
    have hcounted : (slotEvent cfg false (movePosition cfg s.timeBase.position e / cfg.slotLen) v).timeBase.cycle = v.timeBase.cycle ∧
        (slotEvent cfg false (movePosition cfg s.timeBase.position e / cfg.slotLen) v).timeBase.pendingOffset = v.timeBase.pendingOffset := by
      by_cases hslot0 : movePosition cfg s.timeBase.position e / cfg.slotLen = 0
      · obtain ⟨hafter, -, -⟩ := slotEvent_landed cfg false v
        obtain ⟨hcycle, hpending, -, -⟩ := landed_timeBase cfg false v
        rw [hslot0, hafter.timeBase]
        exact ⟨hcycle, hpending⟩
      · rw [(slotEvent_within cfg false hslot0 v).1]
        exact ⟨rfl, rfl⟩
    refine ⟨_, hexec', hposition, hseen.taken.trans ?_, (hcounted.1.trans (hvcycle.trans hadopted)).trans ?_, hcounted.2.trans hvoffset,
      hseen.scan, hseen.window, hseen.gates, fun hwithin => ?_, fun hboundary => ?_⟩
    · exact congrArg (· / cfg.slotLen) hposition.symm
    · exact congrArg (fun q => (timePayload f.payload).cycle + if q < senderPosition cfg (timePayload f.payload) then 1 else 0) hposition.symm
    · have hslot0 : movePosition cfg s.timeBase.position e / cfg.slotLen ≠ 0 := fun h => hwithin (hseen.taken.trans h)
      obtain ⟨htime, hstation, hjoin⟩ := slotEvent_within cfg false hslot0 v
      refine ⟨?_, ?_, hstation.trans (by rw [hvsupervisor]; exact hlistening), hjoin.trans (by rw [hvsupervisor])⟩
      · exact (congrArg TimeBase.joinFlag htime).trans hvflag
      · exact (congrArg TimeBase.timeAge htime).trans hvage
    · have hslot0 : movePosition cfg s.timeBase.position e / cfg.slotLen = 0 := hseen.taken.symm.trans hboundary
      rw [hslot0]
      obtain ⟨hafter, -, -⟩ := slotEvent_landed cfg false v
      obtain ⟨-, -, hage, hheard⟩ := landed_timeBase cfg false v
      obtain ⟨hjoin, hstation⟩ := landed_listening (cfg := cfg) (counted := false) (s := v) (by rw [hvsupervisor]; exact hlistening)
      rw [hvsupervisor] at hjoin hstation
      refine ⟨?_, ?_, hafter.joinCount.trans hjoin, hafter.station.trans hstation⟩
      · exact (congrArg TimeBase.timeAge hafter.timeBase).trans (by rw [hage, hvage]; rfl)
      · exact (congrArg TimeBase.heardNow hafter.timeBase).trans hheard

end Sys2Proof.Proofs.TimeFrames

/-! PROOFS. The completion of a computation: its result, the request it decides on, and the completion it held (R72, R81, R82, R85, R125, R158
to R162, R172). -/

namespace Sys2Proof.Machine

/-! ### The completion in its parts (R81, R172) -/

/-- The result of a computation taken (R71, R81). -/
def resultTaken (cfg : Settings) (c : Computation) (s : State) : State :=
  s.setPlacement { s.placement with
    computation := none, working := some (computeResult cfg c), map := setOwn (computeResult cfg c).runs Config.ownOrder s.placement.map }

theorem exec_computationCompletion {cfg : Settings} {s : State} {c : Computation} (hactive : activeSettings s = some cfg)
    (hcomputation : s.placement.computation = some c) : exec .computationCompletion s = .next (serviceHead cfg (takeReported cfg
      (yieldTest cfg (decideRequest cfg (computeResult cfg c).runs (resultTaken cfg c s))))) := by
  refine congrArg Host.Outcome.next ((whenActive_of_active hactive _).trans ?_)
  simp only [completeComputation, hcomputation]
  rfl

/-- A head that has not completed is reported to nobody (R161). -/
theorem takeReported_still {cfg : Settings} {s : State} (hok : (headDescriptor s.ring).state ≠ .doneOk)
    (hfail : (headDescriptor s.ring).state ≠ .doneFail) : takeReported cfg s = s :=
  if_neg (by simp [hok, hfail])

/-- The PLACE completion at the head, taken and released (R161, R172). -/
theorem takeReported_place {cfg : Settings} {s : State} (hproducer : (headDescriptor s.ring).producer = some .place)
    (hdone : (headDescriptor s.ring).state = .doneOk ∨ (headDescriptor s.ring).state = .doneFail) :
    takeReported cfg s = releaseHead (takePlace cfg s.ring.head (headDescriptor s.ring) s) :=
  if_pos (by obtain h | h := hdone <;> rw [hproducer, h] <;> rfl)

/-- A head that stands after a yield test that passes ends the completion. -/
theorem completion_passes {cfg : Settings} {s : State} (hpasses : yieldFails cfg s.placement.map = false)
    (hstands : (headDescriptor s.ring).state = .free ∨ (headDescriptor s.ring).state = .sending ∨
      ((headDescriptor s.ring).state = .ready ∧ linkSends s.link.state = true)) :
    serviceHead cfg (takeReported cfg (yieldTest cfg s)) = s := by
  rw [yieldTest_passes hpasses]
  obtain h | h | ⟨h, hsends⟩ := hstands
  · rw [takeReported_still (by rw [h]; exact fun k => nomatch k) (by rw [h]; exact fun k => nomatch k),
      serviceHead_of_standing (serviceOnce_of_free h)]
  · rw [takeReported_still (by rw [h]; exact fun k => nomatch k) (by rw [h]; exact fun k => nomatch k),
      serviceHead_of_standing (serviceOnce_of_sending h)]
  · rw [takeReported_still (by rw [h]; exact fun k => nomatch k) (by rw [h]; exact fun k => nomatch k),
      serviceHead_of_standing (serviceOnce_of_ready h hsends)]

/-! ### The decision on a request (R81, R85, R159) -/

theorem equalsAnnounced_iff (p : PlacementUnit) (runs : List Run) :
    equalsAnnounced p runs = true ↔ ∃ a : Announced, p.announced = some a ∧ a.runs = runs := by
  unfold equalsAnnounced
  cases p.announced with
  | none => simp
  | some a => simp

theorem decideRequest_put {cfg : Settings} {runs : List Run} {s : State}
    (hdiffers : ∀ a : Announced, s.placement.announced = some a → a.runs ≠ runs) (hsends : linkSends s.link.state = true)
    (hnone : s.placement.request = .none) : decideRequest cfg runs s = putPlace cfg runs s := by
  have hother : ¬ equalsAnnounced s.placement runs = true := by
    rw [equalsAnnounced_iff]
    exact fun ⟨a, ha, hruns⟩ => hdiffers a ha hruns
  rw [decideRequest, if_neg hother, hsends, hnone]
  exact if_pos rfl

theorem decideRequest_unsent {cfg : Settings} {runs : List Run} {s : State}
    (hdiffers : ∀ a : Announced, s.placement.announced = some a → a.runs ≠ runs) (hsends : linkSends s.link.state = false) :
    decideRequest cfg runs s = s := by
  have hother : ¬ equalsAnnounced s.placement runs = true := by
    rw [equalsAnnounced_iff]
    exact fun ⟨a, ha, hruns⟩ => hdiffers a ha hruns
  rw [decideRequest, if_neg hother, hsends]
  exact if_neg Bool.false_ne_true

theorem decideRequest_equal {cfg : Settings} {runs : List Run} {s : State} {a : Announced} (ha : s.placement.announced = some a)
    (hruns : a.runs = runs) : decideRequest cfg runs s = s.setPlacement (returnAnnounced s.placement) :=
  if_pos ((equalsAnnounced_iff _ _).mpr ⟨a, ha, hruns⟩)

/-- A PLACE request given the descriptor at the fill position (R81, R158). -/
theorem putPlace_of_room {cfg : Settings} {runs : List Run} {s : State} (h : s.ring.occupancy < 6) :
    putPlace cfg runs s = (s.setRing (fillRing .place (ownPlaceBytes cfg (nextRevision s.placement) runs s) s.ring)).setPlacement
      { s.placement with request := .queued s.ring.fill, requestRuns := runs, requestRevision := nextRevision s.placement } :=
  if_neg (by rw [(ringFull_false_iff _).mpr h]; exact Bool.false_ne_true)

/-- A PLACE request at the tail of the waiting list of a full ring (R81, R159). -/
theorem putPlace_of_full {cfg : Settings} {runs : List Run} {s : State} (h : 6 ≤ s.ring.occupancy) :
    putPlace cfg runs s = (s.setRing (putWaiting .place (ownPlaceBytes cfg (nextRevision s.placement) runs s) s.ring)).setPlacement
      { s.placement with request := .waiting, requestRuns := runs, requestRevision := nextRevision s.placement } :=
  if_pos (decide_eq_true h)

/-- After a fill the head is the filled descriptor, or stands as it was. -/
theorem fillRing_headState (p : Producer) (payload : List Byte) (r : Ring) :
    headDescriptor (fillRing p payload r) = if r.head = r.fill then readyDescriptor p payload else headDescriptor r := by
  show (r.descriptors.set r.fill (readyDescriptor p payload)).get r.head = _
  rw [Six.get_set]
  rfl

/-- The own contribution replaced twice (R71). -/
theorem setOwn_setOwn (runs runs' : List Run) (order order' : Nat) (m : List Contribution) :
    setOwn runs order (setOwn runs' order' m) = setOwn runs order m := by
  have hothers : othersOf (setOwn runs' order' m) = othersOf m := by
    simp [othersOf, setOwn]
  rw [setOwn, hothers]
  rfl

theorem returnAnnounced_of_some {p : PlacementUnit} {a : Announced} (h : p.announced = some a) :
    returnAnnounced p = { p with map := setOwn a.runs a.order p.map } := by
  simp only [returnAnnounced, h]

theorem returnAnnounced_of_none {p : PlacementUnit} (h : p.announced = none) : returnAnnounced p = p := by
  simp only [returnAnnounced, h]

theorem Six.set_comm {α : Type} (v : Six α) {i j : Index} (h : i ≠ j) (x y : α) : (v.set i x).set j y = (v.set j y).set i x :=
  Six.ext_get fun k => by
    simp only [Six.get_set]
    split_ifs with hj hi
    · exact absurd (hi.symm.trans hj) h
    · rfl
    · rfl
    · rfl

end Sys2Proof.Machine

namespace Sys2Proof.Proofs.Computation
open Sys2Proof.Machine

/-- The head of a ring that takes a PLACE frame stands, at a link that sends (R158, R160). -/
theorem filled_stands {payload : List Byte} {s : State} (hsends : linkSends s.link.state = true)
    (hhead : (headDescriptor s.ring).state = .free ∨ (headDescriptor s.ring).state = .ready ∨ (headDescriptor s.ring).state = .sending) :
    (headDescriptor (fillRing .place payload s.ring)).state = .free ∨ (headDescriptor (fillRing .place payload s.ring)).state = .sending ∨
      ((headDescriptor (fillRing .place payload s.ring)).state = .ready ∧ linkSends s.link.state = true) := by
  rw [fillRing_headState]
  split
  · exact .inr (.inr ⟨rfl, hsends⟩)
  · obtain h | h | h := hhead
    · exact .inl h
    · exact .inr (.inr ⟨h, hsends⟩)
    · exact .inr (.inl h)

/-- The ring after the new request has been voided and the held completion released (R161, R162). -/
def releasedBehind (payload : List Byte) (r : Ring) : Ring :=
  { r with
    descriptors := (r.descriptors.set r.head Descriptor.freed).set (r.head + 1) { readyDescriptor .place payload with state := .void }
    head := r.head + 1, fill := r.head + 1 + 1 }

/-- The held completion taken and released while the recompute is in flight, and the voided request behind it completed (R160 to R162,
R172). -/
theorem held_released {cfg : Settings} {payload : List Byte} {r : Ring} {u : State} {c : Computation} {w : Working}
    (hcomputation : u.placement.computation = some c) (hworking : u.placement.working = some w) (hrequest : u.placement.request = .none)
    (hring : u.ring = setDescriptor (fillRing .place payload r) r.fill { readyDescriptor .place payload with state := .void })
    (hproducer : (headDescriptor r).producer = some .place)
    (hdone : (headDescriptor r).state = .doneOk ∨ (headDescriptor r).state = .doneFail) (hwaiting : r.waiting = [])
    (hfill : r.fill = r.head + 1) :
    (serviceHead cfg (takeReported cfg u)).placement.computation.isSome = true ∧
    (serviceHead cfg (takeReported cfg u)).placement.working = some w ∧ (serviceHead cfg (takeReported cfg u)).placement.request = .none ∧
    (serviceHead cfg (takeReported cfg u)).ring = { r with
      descriptors := (r.descriptors.set r.head Descriptor.freed).set (r.head + 1)
        { state := .doneFail, reason := some .cancelled, producer := some .place, cancel := false, payload := payload }
      head := r.head + 1
      fill := r.head + 1 + 1 } := by
  have hdescriptors : u.ring.descriptors = r.descriptors.set (r.head + 1) { readyDescriptor .place payload with state := .void } := by
    rw [hring, ← hfill]
    exact Six.set_set _ _ _ _
  have hhead : headDescriptor u.ring = headDescriptor r := by
    have hsame : u.ring.head = r.head := by rw [hring]; rfl
    rw [headDescriptor, hdescriptors, hsame, Six.get_set, if_neg (Index.succ_ne _).symm]
    rfl
  have hfreed : freeHead u.ring = releasedBehind payload r := by
    have hset : (u.ring.descriptors.set u.ring.head Descriptor.freed) = (r.descriptors.set r.head Descriptor.freed).set (r.head + 1)
        { readyDescriptor .place payload with state := .void } := by
      rw [hdescriptors, show u.ring.head = r.head by rw [hring]; rfl]
      exact Six.set_comm _ (Index.succ_ne _) _ _
    rw [freeHead, hset, hring, releasedBehind]
    exact (Ring.mk.injEq ..).mpr ⟨rfl, rfl, by rw [← hfill]; rfl, rfl, rfl, rfl⟩
  have hreleased : takeReported cfg u = u.setRing (releasedBehind payload r) := by
    rw [takeReported_place (by rw [hhead]; exact hproducer) (by rw [hhead]; exact hdone), takePlace_off (by rw [hrequest]; rfl), ← hfreed]
    obtain ⟨-, h⟩ | ⟨x, xs, hwaits, -⟩ := releaseHead_cases u
    · exact h
    · rw [hring] at hwaits
      exact nomatch hwaiting.symm.trans hwaits
  have hvoid : headDescriptor (releasedBehind payload r) = { readyDescriptor .place payload with state := .void } := Six.get_set_same _ _ _
  have hcancelled : serviceOnce cfg (u.setRing (releasedBehind payload r)) = some (u.setRing (setDescriptor (releasedBehind payload r)
      (r.head + 1) (failDescriptor .cancelled { readyDescriptor .place payload with state := .void }))) := by
    simp only [serviceOnce, setRing_ring, hvoid]
    rfl
  have hwaits : serviceOnce cfg (u.setRing (setDescriptor (releasedBehind payload r) (r.head + 1)
      (failDescriptor .cancelled { readyDescriptor .place payload with state := .void }))) = none := by
    have hdescriptor : headDescriptor (setDescriptor (releasedBehind payload r) (r.head + 1) (failDescriptor .cancelled
        { readyDescriptor .place payload with state := .void })) = failDescriptor .cancelled
          { readyDescriptor .place payload with state := .void } := Six.get_set_same _ _ _
    have hused : mapInUse u.placement = true := by rw [mapInUse, hcomputation]; rfl
    rw [serviceOnce_of_done (.inr (by rw [setRing_ring, hdescriptor]; rfl)), setRing_ring, hdescriptor]
    exact if_pos hused
  rw [hreleased, serviceHead, serviceSteps_of_some hcancelled, serviceSteps_of_none hwaits]
  refine ⟨by show u.placement.computation.isSome = true; rw [hcomputation]; rfl, hworking, hrequest, ?_⟩
  exact (Ring.mk.injEq ..).mpr ⟨Six.set_set _ _ _ _, rfl, rfl, rfl, rfl, rfl⟩

/-- The new request yields at once behind a held completion: the completion CANCELLED that comes to the head waits for the recompute (R82,
R160 to R162, R172). -/
theorem yields_behind_held {cfg : Settings} {s : State} {c : Computation} (hactive : activeSettings s = some cfg)
    (hcomputation : s.placement.computation = some c) (hstation : s.supervisor.station = .running)
    (hsends : linkSends s.link.state = true) (hannounced : s.placement.announced = none) (hrequest : s.placement.request = .none)
    (hwindow : 8 ≤ s.timeBase.takenSlot ∧ s.timeBase.takenSlot < 28)
    (hfails : yieldFails cfg (setOwn (computeResult cfg c).runs Config.ownOrder s.placement.map) = true)
    (hproducer : (headDescriptor s.ring).producer = some .place)
    (hdone : (headDescriptor s.ring).state = .doneOk ∨ (headDescriptor s.ring).state = .doneFail) (hwaiting : s.ring.waiting = [])
    (hone : s.ring.occupancy = 1) (hfill : s.ring.fill = s.ring.head + 1) :
    ∃ t : State, exec .computationCompletion s = .next t ∧
      t.placement.computation.isSome = true ∧ t.placement.working = some (computeResult cfg c) ∧ t.placement.request = .none ∧
      t.ring = { s.ring with
        descriptors := (s.ring.descriptors.set s.ring.head Descriptor.freed).set (s.ring.head + 1)
          { state := .doneFail, reason := some .cancelled, producer := some .place, cancel := false,
            payload := placeBytes ((s.timeBase.cycle + 1).setWidth 8) 0 (viewIncomplete s) (decide (0 < s.placement.sagCount)) false
              (upstreamEnd cfg s) (downstreamEnd cfg s) (computeResult cfg c).runs }
        head := s.ring.head + 1
        fill := s.ring.head + 1 + 1 } := by
  have hnone : ∀ a : Announced, (resultTaken cfg c s).placement.announced = some a → a.runs ≠ (computeResult cfg c).runs :=
    fun a ha => nomatch hannounced.symm.trans ha
  have hrevision : nextRevision (resultTaken cfg c s).placement = 0 := by
    simp only [nextRevision, show (resultTaken cfg c s).placement.announced = none from hannounced]
  have hpayload : ownPlaceBytes cfg 0 (computeResult cfg c).runs (resultTaken cfg c s) =
      placeBytes ((s.timeBase.cycle + 1).setWidth 8) 0 (viewIncomplete s) (decide (0 < s.placement.sagCount)) false
        (upstreamEnd cfg s) (downstreamEnd cfg s) (computeResult cfg c).runs := by
    have hheld : decide (s.supervisor.station = .held) = false := by rw [hstation]; rfl
    show placeBytes _ 0 _ _ (decide (s.supervisor.station = .held)) _ _ _ = _
    rw [hheld]
    rfl
  have hexec := exec_computationCompletion hactive hcomputation
  rw [decideRequest_put hnone (by exact hsends) (by exact hrequest), putPlace_of_room (by show s.ring.occupancy < 6; omega), hrevision,
    hpayload] at hexec
  generalize placeBytes ((s.timeBase.cycle + 1).setWidth 8) 0 (viewIncomplete s) (decide (0 < s.placement.sagCount)) false
    (upstreamEnd cfg s) (downstreamEnd cfg s) (computeResult cfg c).runs = payload at hexec ⊢
  have hbehind : s.ring.fill ≠ s.ring.head := by rw [hfill]; exact Index.succ_ne _
  have hready : (((fillRing .place payload s.ring).descriptors).get s.ring.fill).state = .ready :=
    congrArg Descriptor.state (Six.get_set_same _ _ _)
  rw [yieldTest_fails (by exact hwindow) (by exact hfails),
    yieldBy_voided (by rfl) (by exact hready) (serviceIfHead_behind (by exact hbehind)),
    returnAnnounced_of_none (by exact hannounced), beginComputation_begun (by exact .inl hstation) (by rfl)] at hexec
  refine ⟨_, hexec, ?_⟩
  refine held_released (c := computationInputs cfg _) (w := computeResult cfg c) rfl rfl rfl ?_ hproducer hdone hwaiting hfill
  exact congrArg (setDescriptor (fillRing .place payload s.ring) s.ring.fill) (congrArg (fun d : Descriptor => { d with state := .void })
    (Six.get_set_same s.ring.descriptors s.ring.fill (readyDescriptor .place payload)))

/-- Settles O30: the result, the decision, the yield test and the held completion in turn. -/
theorem computationDecidesTheRequest : Obligations.ComputationDecidesTheRequest := by
  unfold Obligations.ComputationDecidesTheRequest
  refine ⟨fun cfg s c hactive hcomputation hsends hannounced hrequest hroom hhead hpasses => ?_,
    fun cfg s c a hactive hcomputation hsends hannounced hdiffers hrequest hroom hhead hpasses => ?_,
    fun cfg s c hactive hcomputation hsends hannounced hrequest hfull hhead hpasses => ?_,
    fun cfg s c hactive hcomputation hrequest hhead => ⟨fun hsends hdiffers hpasses => ?_, fun a hannounced hruns hpasses => ?_⟩,
    fun cfg s c hactive hcomputation hstation hsends hannounced hrequest hopen hclosed hfails hproducer hdone hwaiting hone hnext => ?_,
    fun cfg s c hactive hcomputation hstation hsends hannounced hrequest hopen hclosed hfails hproducer hdone hwaiting hone hfill => ?_⟩
  · have hnone : ∀ a : Announced, (resultTaken cfg c s).placement.announced = some a → a.runs ≠ (computeResult cfg c).runs :=
      fun a ha => nomatch hannounced.symm.trans ha
    have hrevision : nextRevision (resultTaken cfg c s).placement = 0 := by
      simp only [nextRevision, show (resultTaken cfg c s).placement.announced = none from hannounced]
    rw [exec_computationCompletion hactive hcomputation, decideRequest_put hnone (by exact hsends) (by exact hrequest),
      putPlace_of_room (by exact hroom), completion_passes (by exact hpasses) (by exact filled_stands hsends hhead), hrevision]
    rfl
  · have hother : ∀ x : Announced, (resultTaken cfg c s).placement.announced = some x → x.runs ≠ (computeResult cfg c).runs :=
      fun x hx => (Option.some.inj (hannounced.symm.trans hx)) ▸ hdiffers
    have hrevision : nextRevision (resultTaken cfg c s).placement = a.revision + 1 := by
      simp only [nextRevision, show (resultTaken cfg c s).placement.announced = some a from hannounced]
    have hexec := exec_computationCompletion hactive hcomputation
    rw [decideRequest_put hother (by exact hsends) (by exact hrequest),
      putPlace_of_room (by exact hroom), completion_passes (by exact hpasses) (by exact filled_stands hsends hhead), hrevision] at hexec
    exact ⟨_, hexec, rfl, rfl, Six.get_set_same _ _ _⟩
  · have hnone : ∀ a : Announced, (resultTaken cfg c s).placement.announced = some a → a.runs ≠ (computeResult cfg c).runs :=
      fun a ha => nomatch hannounced.symm.trans ha
    have hrevision : nextRevision (resultTaken cfg c s).placement = 0 := by
      simp only [nextRevision, show (resultTaken cfg c s).placement.announced = none from hannounced]
    rw [exec_computationCompletion hactive hcomputation, decideRequest_put hnone (by exact hsends) (by exact hrequest),
      putPlace_of_full (by exact hfull), completion_passes (by exact hpasses)
        (by exact hhead.elim (fun h => .inr (.inr ⟨h, hsends⟩)) fun h => .inr (.inl h)), hrevision]
    rfl
  · rw [exec_computationCompletion hactive hcomputation, decideRequest_unsent (by exact hdiffers) (by exact hsends),
      completion_passes (by exact hpasses) (by exact .inl hhead)]
    rfl
  · have hback : returnAnnounced (resultTaken cfg c s).placement =
        { s.placement with computation := none, working := some (computeResult cfg c), map := setOwn a.runs a.order s.placement.map } := by
      refine (returnAnnounced_of_some (by exact hannounced)).trans ?_
      exact congrArg (fun m => { s.placement with computation := none, working := some (computeResult cfg c), map := m })
        (setOwn_setOwn a.runs _ a.order _ s.placement.map)
    rw [exec_computationCompletion hactive hcomputation, decideRequest_equal (by exact hannounced) hruns, hback,
      completion_passes (by exact hpasses) (by exact .inl hhead)]
    rfl
  · have hnone : ∀ a : Announced, (resultTaken cfg c s).placement.announced = some a → a.runs ≠ (computeResult cfg c).runs :=
      fun a ha => nomatch hannounced.symm.trans ha
    have halone : HeadAlone s.ring := .of hone hwaiting hnext
    have hexec := exec_computationCompletion hactive hcomputation
    rw [decideRequest_unsent hnone (by exact hsends), yieldTest_fails (by exact ⟨hopen, hclosed⟩) (by exact hfails),
      yieldBy_none (by exact hrequest) (by exact hannounced), beginComputation_begun (by exact .inl hstation) (by rfl),
      takeReported_place (by exact hproducer) (by exact .inr hdone), takePlace_off (by exact (congrArg (requestOn _) hrequest).trans rfl),
      releaseHead_alone (by exact halone), serviceHead_of_standing (serviceOnce_of_free (by exact freedAlone_head halone))] at hexec
    exact ⟨_, hexec, rfl, rfl, hrequest, rfl⟩
  · exact yields_behind_held hactive hcomputation hstation hsends hannounced hrequest ⟨hopen, hclosed⟩ hfails hproducer hdone hwaiting hone hfill

end Sys2Proof.Proofs.Computation

/-! PROOFS. The freeze: the window closed at the ring, the base settled, and the adjustment to the STUCK_ON zones (R65, R75, R83, R88 to R94,
R156, R160 to R163). -/

namespace Sys2Proof.Machine

/-! ### The adjustment to the STUCK_ON zones (R69, R93) -/

/-- One zone's turn in the adjustment. -/
def stuckTurn (cfg : Settings) (s : State) (z : Index) (rs : List Run) : List Run :=
  if (s.zones.get z).condition = .stuckOn then addStuckRun z (stuckLoad cfg z (s.scanner.zones.get z)) rs else rs

theorem adjustStuck_eq (cfg : Settings) (s : State) (runs : List Run) :
    adjustStuck cfg s runs = indexes.foldr (stuckTurn cfg s) (dropReleased s runs) := List.foldl_reverse

/-- What the turns of some zones, in order of number, have made of the runs. -/
structure Adjusted (cfg : Settings) (s : State) (runs : List Run) (zs : List Index) (rs : List Run) : Prop where
  split : ∃ added kept : List Run, rs = added ++ kept ∧ kept.Sublist runs ∧
    (∀ r ∈ added, ∃ z ∈ zs, (s.zones.get z).condition = .stuckOn ∧ r = stuckRun z (stuckLoad cfg z (s.scanner.zones.get z))) ∧
    (added.map Run.zone).Pairwise (· < ·) ∧
    ∀ r ∈ runs, r.stuck = false → (∀ z ∈ zs, r.zone = zoneNumber z → (s.zones.get z).condition ≠ .stuckOn) → r ∈ kept
  nodup : (rs.map Run.zone).Nodup
  held : ∀ z ∈ zs, (s.zones.get z).condition = .stuckOn → ∃ r ∈ rs, r.zone = zoneNumber z ∧ r.stuck = true

theorem zoneNumber_lt {y z : Index} (h : y < z) : zoneNumber y < zoneNumber z := Nat.succ_lt_succ h

section Turn

variable {cfg : Settings} {s : State} {runs rs : List Run} {zs : List Index} {z : Index} (h : Adjusted cfg s runs zs rs)
include h

/-- A zone that needs no run added leaves the runs as they are. -/
theorem Adjusted.unchanged (hheld : (s.zones.get z).condition = .stuckOn → ∃ r ∈ rs, r.zone = zoneNumber z ∧ r.stuck = true) :
    Adjusted cfg s runs (z :: zs) rs := by
  obtain ⟨added, kept, hrs, hkept, hadded, hsorted, hothers⟩ := h.split
  refine ⟨⟨added, kept, hrs, hkept, fun r hr => ?_, hsorted, fun r hr hstuck hfree => hothers r hr hstuck fun y hy =>
    hfree y (List.mem_cons_of_mem _ hy)⟩, h.nodup, fun y hy hon => ?_⟩
  · obtain ⟨y, hy, hon, hrun⟩ := hadded r hr
    exact ⟨y, List.mem_cons_of_mem _ hy, hon, hrun⟩
  · obtain rfl | hy := List.mem_cons.mp hy
    · exact hheld hon
    · exact h.held y hy hon

/-- A STUCK_ON zone without a marked run gets one, before those of the zones after it (assumption log 20). -/
theorem Adjusted.added (hbelow : ∀ y ∈ zs, z < y) (hon : (s.zones.get z).condition = .stuckOn) :
    Adjusted cfg s runs (z :: zs)
      (stuckRun z (stuckLoad cfg z (s.scanner.zones.get z)) :: rs.filter fun r => decide (r.zone ≠ zoneNumber z)) := by
  obtain ⟨added, kept, hrs, hkept, hadded, hsorted, hothers⟩ := h.split
  have habove : ∀ r ∈ added, zoneNumber z < r.zone := fun r hr => by
    obtain ⟨y, hy, -, rfl⟩ := hadded r hr
    exact zoneNumber_lt (hbelow y hy)
  have hwhole : (added.filter fun r => decide (r.zone ≠ zoneNumber z)) = added :=
    List.filter_eq_self.mpr fun r hr => decide_eq_true (Nat.ne_of_gt (habove r hr))
  refine ⟨⟨stuckRun z (stuckLoad cfg z (s.scanner.zones.get z)) :: added, kept.filter fun r => decide (r.zone ≠ zoneNumber z), ?_,
    List.filter_sublist.trans hkept, fun r hr => ?_, ?_, fun r hr hstuck hfree => ?_⟩, ?_, fun y hy hother => ?_⟩
  · rw [hrs, List.filter_append, hwhole, List.cons_append]
  · obtain rfl | hr := List.mem_cons.mp hr
    · exact ⟨z, List.mem_cons_self, hon, rfl⟩
    · obtain ⟨y, hy, hrun⟩ := hadded r hr
      exact ⟨y, List.mem_cons_of_mem _ hy, hrun⟩
  · refine List.pairwise_cons.mpr ⟨fun n hn => ?_, hsorted⟩
    obtain ⟨r, hr, rfl⟩ := List.mem_map.mp hn
    exact habove r hr
  · refine List.mem_filter.mpr ⟨hothers r hr hstuck fun y hy => hfree y (List.mem_cons_of_mem _ hy), decide_eq_true fun hzone => ?_⟩
    exact hfree z List.mem_cons_self hzone hon
  · rw [List.map_cons, List.nodup_cons]
    refine ⟨fun k => ?_, h.nodup.sublist (List.filter_sublist.map _)⟩
    obtain ⟨r, hr, hzone⟩ := List.mem_map.mp k
    exact of_decide_eq_true (List.mem_filter.mp hr).2 hzone
  · obtain rfl | hy := List.mem_cons.mp hy
    · exact ⟨_, List.mem_cons_self, rfl, rfl⟩
    · obtain ⟨r, hr, hzone, hstuck⟩ := h.held y hy hother
      refine ⟨r, List.mem_cons_of_mem _ (List.mem_filter.mpr ⟨hr, decide_eq_true ?_⟩), hzone, hstuck⟩
      rw [hzone]
      exact Nat.ne_of_gt (zoneNumber_lt (hbelow y hy))

theorem Adjusted.turn (hbelow : ∀ y ∈ zs, z < y) : Adjusted cfg s runs (z :: zs) (stuckTurn cfg s z rs) := by
  by_cases hon : (s.zones.get z).condition = .stuckOn
  · rw [stuckTurn, if_pos hon, addStuckRun]
    split
    · rename_i hany
      obtain ⟨r, hr, hmarked⟩ := List.any_eq_true.mp hany
      rw [Bool.and_eq_true, decide_eq_true_iff] at hmarked
      exact h.unchanged fun _ => ⟨r, hr, hmarked⟩
    · exact h.added hbelow hon
  · rw [stuckTurn, if_neg hon]
    exact h.unchanged fun k => absurd k hon

end Turn

theorem foldr_adjusted (cfg : Settings) (s : State) {runs : List Run} (hruns : (runs.map Run.zone).Nodup) (zs : List Index)
    (hzs : zs.Pairwise (· < ·)) : Adjusted cfg s runs zs (zs.foldr (stuckTurn cfg s) runs) := by
  induction zs with
  | nil => exact ⟨⟨[], runs, rfl, List.Sublist.refl _, fun r hr => (nomatch hr), List.Pairwise.nil, fun r hr _ _ => hr⟩, hruns,
      fun z hz => nomatch hz⟩
  | cons z zs ih =>
    obtain ⟨hbelow, hzs⟩ := List.pairwise_cons.mp hzs
    exact (ih hzs).turn hbelow

/-- Every zone has its turn. -/
theorem adjustStuck_adjusted (cfg : Settings) (s : State) {runs : List Run} (hruns : (runs.map Run.zone).Nodup) :
    Adjusted cfg s (dropReleased s runs) indexes (adjustStuck cfg s runs) := by
  rw [adjustStuck_eq]
  exact foldr_adjusted cfg s (hruns.sublist (List.filter_sublist.map _)) indexes (by decide)

/-- With no zone STUCK_ON the adjustment takes away the marked runs, and no more (R93). -/
theorem adjustStuck_of_none {cfg : Settings} {s : State} (h : ∀ z : Index, (s.zones.get z).condition ≠ .stuckOn) (runs : List Run) :
    adjustStuck cfg s runs = runs.filter fun r => !r.stuck := by
  have hturn : stuckTurn cfg s = fun _ rs => rs := funext fun z => funext fun rs => if_neg (h z)
  have hsame : ∀ (zs : List Index) (rs : List Run), zs.foldr (fun _ rs => rs) rs = rs := fun zs rs => by
    induction zs with
    | nil => rfl
    | cons z zs ih => exact ih
  rw [adjustStuck_eq, hturn, hsame, dropReleased]
  refine List.filter_congr fun r _ => ?_
  have hnone : (indexes.any fun z => decide (zoneNumber z = r.zone) && decide ((s.zones.get z).condition = .stuckOn)) = false :=
    List.any_eq_false.mpr fun z _ => by simp [h z]
  rw [hnone, Bool.or_false]

/-! ### The window closed (R83, R88, R160 to R163) -/

/-- The window closed at the ring: its ring, and the request that is left of it (R88). -/
def windowClosed (r : Ring) (request : Request) (s : State) : State :=
  (s.setRing r).setPlacement { s.placement with computation := none, request := request }

/-- What closing the window does to the ring, by the request it finds. -/
structure RingClosed (s : State) (r : Ring) : Prop where
  none : s.placement.request = .none → r = s.ring
  waiting : s.placement.request = .waiting → r = withdrawWaiting .place s.ring
  behind : ∀ i : Index, s.placement.request = .queued i → i ≠ s.ring.head →
    r = setDescriptor s.ring i { s.ring.descriptors.get i with state := .void }
  head : s.placement.request = .queued s.ring.head → r = freedAlone s.ring ∧ s.ring.occupancy = 1 ∧ s.ring.waiting = []

theorem serviceHead_stands {cfg : Settings} {s : State} (h : (headDescriptor s.ring).state = .free ∨
    ((headDescriptor s.ring).state = .ready ∧ linkSends s.link.state = true) ∨ (headDescriptor s.ring).state = .sending) :
    serviceHead cfg s = s := by
  obtain h | ⟨h, hsends⟩ | h := h
  · exact serviceHead_of_standing (serviceOnce_of_free h)
  · exact serviceHead_of_standing (serviceOnce_of_ready h hsends)
  · exact serviceHead_of_standing (serviceOnce_of_sending h)

theorem closeWindow_queued {cfg : Settings} {s : State} {i : Index} (h : s.placement.request = .queued i) :
    closeWindow cfg s = serviceHead cfg (cancelRequest cfg i (s.setPlacement { s.placement with computation := none })).1 := by
  simp only [closeWindow]
  show (match s.placement.request with | .none => _ | .waiting => _ | .queued i => _ | .cancelRecorded _ => _) = _
  rw [h]

theorem cancelRequest_voided {cfg : Settings} {s : State} {i : Index} {r : Ring}
    (h : cancelDescriptor i (ringOnLine s) s.ring = (r, .voided)) : cancelRequest cfg i s =
      (serviceIfHead cfg i ((s.setRing r).setPlacement { s.placement with request := .none }), true) := by
  simp only [cancelRequest, h]

theorem cancelRequest_recorded {cfg : Settings} {s : State} {i : Index} {r : Ring}
    (h : cancelDescriptor i (ringOnLine s) s.ring = (r, .recorded)) : cancelRequest cfg i s =
      (serviceIfHead cfg i (dropRingFrame ((s.setRing r).setPlacement { s.placement with request := .cancelRecorded i })), false) := by
  simp only [cancelRequest, h]

/-- A READY descriptor voided, and its head served (R160, R162). -/
theorem closeWindow_ready {cfg : Settings} {s : State} {i : Index} (h : s.placement.request = .queued i)
    (hready : (s.ring.descriptors.get i).state = .ready) :
    closeWindow cfg s = serviceHead cfg (serviceIfHead cfg i
      (windowClosed (setDescriptor s.ring i { s.ring.descriptors.get i with state := .void }) .none s)) := by
  rw [closeWindow_queued h, cancelRequest_voided (s := s.setPlacement { s.placement with computation := none })
    (cancelDescriptor_ready _ hready)]
  rfl

/-- Without a frame on the line to wait for, no computation and no request is left (R88). -/
theorem closeWindow_closes (cfg : Settings) {s : State} (h : WindowCloses s) :
    ∃ r : Ring, closeWindow cfg s = windowClosed r .none s ∧ RingClosed s r := by
  obtain hnone | hwaiting | ⟨i, hqueued, hready, hproducer, halone⟩ := h.request
  · refine ⟨s.ring, ?_, fun _ => rfl, fun k => (nomatch hnone.symm.trans k), fun _ k => (nomatch hnone.symm.trans k),
      fun k => (nomatch hnone.symm.trans k)⟩
    have hopen : closeWindow cfg s = serviceHead cfg (s.setPlacement { s.placement with computation := none }) := by
      simp only [closeWindow]
      show (match s.placement.request with | .none => _ | .waiting => _ | .queued i => _ | .cancelRecorded _ => _) = _
      rw [hnone]
    rw [hopen, serviceHead_stands (by exact h.head), windowClosed, ← hnone]
    rfl
  · refine ⟨withdrawWaiting .place s.ring, ?_, fun k => (nomatch hwaiting.symm.trans k), fun _ => rfl,
      fun _ k => (nomatch hwaiting.symm.trans k), fun k => (nomatch hwaiting.symm.trans k)⟩
    have hopen : closeWindow cfg s = serviceHead cfg (windowClosed (withdrawWaiting .place s.ring) .none s) := by
      simp only [closeWindow]
      show (match s.placement.request with | .none => _ | .waiting => _ | .queued i => _ | .cancelRecorded _ => _) = _
      rw [hwaiting]
      rfl
    rw [hopen, serviceHead_stands (by exact h.head)]
  · have hopen := closeWindow_ready (cfg := cfg) hqueued hready
    by_cases hhead : i = s.ring.head
    · subst hhead
      obtain ⟨hone, hnothing, hnext⟩ := halone rfl
      have hvoid := headDescriptor_setHead s.ring { s.ring.descriptors.get s.ring.head with state := .void }
      have hring : HeadAlone s.ring := ⟨hone, hnothing, hnext⟩
      have hserved : serviceIfHead cfg s.ring.head (windowClosed (setDescriptor s.ring s.ring.head
          { s.ring.descriptors.get s.ring.head with state := .void }) .none s) = windowClosed (freedAlone s.ring) .none s := by
        refine (if_pos (by rfl)).trans ((serviceHead_voided (by exact hring.setHead _) (by exact congrArg Descriptor.state hvoid)
          (by exact (congrArg Descriptor.producer hvoid).trans hproducer) (by rfl) (by rfl)).trans ?_)
        exact congrArg (fun r => windowClosed r .none s) (freedAlone_setDescriptor _ _)
      refine ⟨freedAlone s.ring, ?_, fun k => (nomatch hqueued.symm.trans k), fun k => (nomatch hqueued.symm.trans k),
        fun j k hj => ?_, fun _ => ⟨rfl, hone, hnothing⟩⟩
      · rw [hopen, hserved, serviceHead_of_standing (serviceOnce_of_free (by exact freedAlone_head hring))]
      · exact absurd (Request.queued.inj (k.symm.trans hqueued)) hj
    · have hsame : headDescriptor (setDescriptor s.ring i { s.ring.descriptors.get i with state := .void }) = headDescriptor s.ring :=
        (Six.get_set _ _ _ _).trans (if_neg (Ne.symm hhead))
      refine ⟨setDescriptor s.ring i { s.ring.descriptors.get i with state := .void }, ?_, fun k => (nomatch hqueued.symm.trans k),
        fun k => (nomatch hqueued.symm.trans k), fun j k hj => ?_, fun k => ?_⟩
      · rw [hopen, serviceIfHead_behind (by exact hhead), serviceHead_stands]
        show (headDescriptor (setDescriptor s.ring i _)).state = _ ∨ ((headDescriptor (setDescriptor s.ring i _)).state = _ ∧ _) ∨
          (headDescriptor (setDescriptor s.ring i _)).state = _
        rw [hsame]
        exact h.head
      · obtain rfl := Request.queued.inj (hqueued.symm.trans k)
        rfl
      · exact absurd (Request.queued.inj (hqueued.symm.trans k)) hhead

/-- While the own PLACE frame is on the line its cancel is recorded, and the attempt goes on (R83, R88, R162). -/
theorem closeWindow_onLine (cfg : Settings) {s : State}
    (hrequest : s.placement.request = .queued s.ring.head ∨ s.placement.request = .cancelRecorded s.ring.head)
    (hsending : (headDescriptor s.ring).state = .sending) (hhand : s.link.inHand = some .ring) (hattempt : s.link.attempt ≠ none) :
    ∃ r : Ring, closeWindow cfg s = windowClosed r (.cancelRecorded s.ring.head) s ∧
      headDescriptor r = if s.placement.request = .queued s.ring.head then { headDescriptor s.ring with cancel := true }
        else headDescriptor s.ring := by
  obtain hqueued | hrecorded := hrequest
  · have honline : ringOnLine s = true := by
      rw [ringOnLine, Option.isSome_iff_ne_none.mpr hattempt, decide_eq_true hhand]
      rfl
    have hhead := headDescriptor_setHead s.ring { headDescriptor s.ring with cancel := true }
    have hsent : (headDescriptor (setDescriptor s.ring s.ring.head { headDescriptor s.ring with cancel := true })).state = .sending :=
      (congrArg Descriptor.state hhead).trans hsending
    have hcancel := (congrArg (fun b => cancelDescriptor s.ring.head b s.ring) honline).trans (cancelDescriptor_onLine hsending)
    have hkept : dropRingFrame (windowClosed (setDescriptor s.ring s.ring.head { headDescriptor s.ring with cancel := true })
        (.cancelRecorded s.ring.head) s) = _ := if_neg (by
      rw [Bool.and_eq_true, Bool.and_eq_true, Bool.not_eq_true']
      exact fun k => Bool.false_ne_true (k.1.2.symm.trans honline))
    refine ⟨setDescriptor s.ring s.ring.head { headDescriptor s.ring with cancel := true }, ?_, hhead.trans (if_pos hqueued).symm⟩
    have hcancelled := cancelRequest_recorded (cfg := cfg) (s := s.setPlacement { s.placement with computation := none }) hcancel
    rw [closeWindow_queued hqueued, hcancelled]
    refine (congrArg (fun u => serviceHead cfg (serviceIfHead cfg s.ring.head u)) hkept).trans ?_
    refine (congrArg (serviceHead cfg) ((if_pos (by rfl)).trans (serviceHead_of_standing (serviceOnce_of_sending (by exact hsent))))).trans ?_
    exact serviceHead_of_standing (serviceOnce_of_sending hsent)
  · refine ⟨s.ring, ?_, (if_neg (by rw [hrecorded]; exact fun k => nomatch k)).symm⟩
    have hopen : closeWindow cfg s = serviceHead cfg (s.setPlacement { s.placement with computation := none }) := by
      simp only [closeWindow]
      show (match s.placement.request with | .none => _ | .waiting => _ | .queued i => _ | .cancelRecorded _ => _) = _
      rw [hrecorded]
    rw [hopen, serviceHead_of_standing (serviceOnce_of_sending (by exact hsending)), windowClosed, ← hrecorded]
    rfl

end Sys2Proof.Machine

/-! PROOFS. The freeze settled: its base, the rations of the SILENT entries, the frozen placement and the report (R65, R75, R88 to R94, R156). -/

namespace Sys2Proof.Machine

/-! ### The map at the freeze (R89, R90) -/

/-- The rations of the SILENT entries put into a map (R90, R104). -/
def rationed (cfg : Settings) (t : PeerTable) (m : List Contribution) : List Contribution := (silentAddresses t).foldl (setRation cfg) m

theorem rationed_eq (cfg : Settings) (t : PeerTable) (m : List Contribution) :
    rationed cfg t m = (t.entries.filter (fun e => decide (e.state = .silent))).foldl
      (fun x e => x.filter (fun c => decide (c.source ≠ .peer e.address)) ++
        [{ source := .peer e.address, order := 0, runs := [], ration := some cfg.ration }]) m := List.foldl_map

/-- A ration leaves the own contribution alone. -/
theorem othersOf_setRation (cfg : Settings) (m : List Contribution) (a : Nat) :
    othersOf (setRation cfg m a) = setRation cfg (othersOf m) a := by
  simp only [othersOf, setRation, List.filter_append, List.filter_filter]
  refine congrArg₂ (· ++ ·) (List.filter_congr fun c _ => Bool.and_comm _ _) ?_
  simp

theorem othersOf_rationed (cfg : Settings) (t : PeerTable) (m : List Contribution) :
    othersOf (rationed cfg t m) = rationed cfg t (othersOf m) := by
  unfold rationed
  generalize silentAddresses t = addresses
  induction addresses generalizing m with
  | nil => rfl
  | cons a addresses ih => rw [List.foldl_cons, List.foldl_cons, ih, othersOf_setRation]

theorem othersOf_setOwn (runs : List Run) (order : Nat) (m : List Contribution) : othersOf (setOwn runs order m) = othersOf m := by
  simp [othersOf, setOwn]

theorem rationed_of_fresh {cfg : Settings} {t : PeerTable} (h : ∀ e ∈ t.entries, e.state = .fresh) (m : List Contribution) :
    rationed cfg t m = m := by
  have hnone : (t.entries.filter fun e => decide (e.state = .silent)) = [] := List.filter_eq_nil_iff.mpr fun e he => by
    rw [h e he]
    exact Bool.false_ne_true
  rw [rationed_eq, hnone]
  rfl

/-! ### The base of the freeze (R83, R89, R156) -/

/-- The base of a unit with no request left. -/
theorem freezeBase_closed (known clash : Bool) {p : PlacementUnit} (h : p.request = .none) : freezeBase known clash p =
    if clash then ((p.working.map Working.runs).getD [], 256, false)
    else match p.announced with
      | some a => (a.runs, a.order, true)
      | none => ((p.working.map Working.runs).getD [], 256, decide (p.lastFailure = some .noAck) && !known) := by
  simp only [freezeBase, h]
  cases clash
  · cases p.announced <;> rfl
  · rfl

/-- The base of a unit whose cancel is recorded. -/
theorem freezeBase_recorded (known clash : Bool) {p : PlacementUnit} {i : Index} (h : p.request = .cancelRecorded i) :
    freezeBase known clash p =
    if clash then ((p.working.map Working.runs).getD [], 256, false)
    else match p.announced with
      | some a => (a.runs.filter (fun r => p.requestRuns.any (sameRun r)), a.order, true)
      | none => ((p.working.map Working.runs).getD [], 256, decide (p.lastFailure = some .noAck) && !known) := by
  simp only [freezeBase, h]
  cases clash
  · cases p.announced <;> rfl
  · rfl

theorem noAck_unheard (p : PlacementUnit) (entries : List Entry) :
    (decide (p.lastFailure = some .noAck) && !!entries.isEmpty) = decide (p.lastFailure = some .noAck ∧ entries = []) := by
  cases entries <;> simp

/-! ### The freeze settled (R88, R91 to R94) -/

/-- The runs of the frozen placement, by the state before the crossing and the base (R91 to R93). -/
def frozenBy (cfg : Settings) (s : State) (base : List Run) (order : Nat) (announced : Bool) : List Run :=
  adjustStuck cfg s
    (if announced then shed (cfg.budget - if viewIncomplete s then cfg.blindMargin else 0) order
        (rationed cfg s.peers (othersOf s.placement.map)) base
      else unannouncedRuns cfg (min 15 (s.placement.unannounced + 1)) base)

theorem adjustStuck_congr {s t : State} (hzones : t.zones = s.zones) (hmeasured : t.scanner.zones = s.scanner.zones) (cfg : Settings)
    (runs : List Run) : adjustStuck cfg t runs = adjustStuck cfg s runs := by
  simp only [adjustStuck, dropReleased, hzones, hmeasured]

/-- What the freeze leaves, by the state before the crossing. -/
structure Frozen (cfg : Settings) (s : State) (r : Ring) (request : Request) (base : List Run) (order : Nat) (announced : Bool)
    (t : State) : Prop where
  ring : t.ring = r
  link : t.link = s.link
  placement : ∃ m : List Contribution, t.placement = { s.placement with
    computation := none, request := request, map := m, unannounced := if announced then 0 else min 15 (s.placement.unannounced + 1)
    frozen := some (frozenBy cfg s base order announced) }
  zones : ∀ z : Index, t.zones.get z = { s.zones.get z with curtailed := listedCurtailed s (frozenBy cfg s base order announced) z }

theorem mem_curtailmentReport (s : State) (runs : List Run) (z : Index) :
    decide (zoneNumber z ∈ curtailmentReport s runs) = listedCurtailed s runs z := by
  have hlisted : zoneNumber z ∈ curtailmentReport s runs ↔ listedCurtailed s runs z = true := by
    rw [curtailmentReport, List.mem_map]
    constructor
    · rintro ⟨y, hy, hzone⟩
      obtain rfl := zoneNumber_inj.mp hzone
      exact (List.mem_filter.mp hy).2
    · exact fun h => ⟨z, List.mem_filter.mpr ⟨mem_indexes z, h⟩, rfl⟩
  rw [Bool.eq_iff_iff, decide_eq_true_iff]
  exact hlisted

theorem settleFreeze_frozen {cfg : Settings} {s u : State} (h : StillAt 28 s u) {r : Ring} {request : Request} {base : List Run} {order : Nat}
    {announced : Bool} (hbase : freezeBase (!s.peers.entries.isEmpty) s.link.clash
      { s.placement with computation := none, request := request } = (base, order, announced)) :
    Frozen cfg s r request base order announced (settleFreeze cfg (windowClosed r request u)) := by
  have hplacement : (windowClosed r request u).placement = { s.placement with computation := none, request := request } := by
    rw [← h.placement]
    rfl
  have hbase' : baseOf (windowClosed r request u) = (base, order, announced) := by
    rw [baseOf, hplacement]
    show freezeBase (!u.peers.entries.isEmpty) u.link.clash _ = _
    rw [h.peers, h.link]
    exact hbase
  have hothers : othersOf (baseMap cfg (windowClosed r request u)) = rationed cfg s.peers (othersOf s.placement.map) := by
    have hmap : baseMap cfg (windowClosed r request u) = rationed cfg s.peers (setOwn base order s.placement.map) := by
      rw [baseMap, hbase', freezeMap, hplacement]
      show (silentAddresses u.peers).foldl _ _ = _
      rw [h.peers]
      rfl
    rw [hmap, othersOf_rationed, othersOf_setOwn]
  have hview : viewIncomplete (windowClosed r request u) = viewIncomplete s := by
    rw [viewIncomplete, hplacement]
    show (_ || decide (u.timeBase.sync = .freeRunning)) = _
    rw [h.sync]
    rfl
  have hcount : unannouncedAfter announced (windowClosed r request u).placement = if announced then 0 else min 15 (s.placement.unannounced + 1) := by
    rw [hplacement]
    rfl
  have hfrozen : frozenRuns cfg (windowClosed r request u) = frozenBy cfg s base order announced := by
    rw [frozenRuns, hbase', settleBase, hothers, hview, hcount,
      adjustStuck_congr (s := s) (t := windowClosed r request u) (by exact h.zones) (by exact h.measurements), frozenBy]
    cases announced <;> rfl
  have hinstalled : (installFrozen cfg (windowClosed r request u)).placement = { s.placement with
      computation := none, request := request
      map := setOwn (frozenBy cfg s base order announced) order (baseMap cfg (windowClosed r request u))
      unannounced := if announced then 0 else min 15 (s.placement.unannounced + 1)
      frozen := some (frozenBy cfg s base order announced) } := by
    rw [installFrozen, setPlacement_placement, hbase', hfrozen, hcount, hplacement]
  refine ⟨rfl, h.link, ⟨_, hinstalled⟩, fun z => ?_⟩
  refine (Six.get_ofFn _ z).trans ?_
  have hlisted : listedCurtailed (installFrozen cfg (windowClosed r request u)) (frozenBy cfg s base order announced) z =
      listedCurtailed s (frozenBy cfg s base order announced) z := by
    simp only [listedCurtailed, hinstalled]
    show (decide ((u.zones.get z).condition = .normal) && _ && _) = _
    rw [h.zones]
  have hzones : (installFrozen cfg (windowClosed r request u)).zones = s.zones := h.zones
  rw [mem_curtailmentReport, hfrozen, hlisted, hzones]

/-- The freeze by a crossing, of a station that takes it and does not sense flow (R88). -/
theorem exec_freeze {cfg : Settings} {s : State} {interval : Nat} (hdue : SlotDue cfg 28 s) (hcrossing : CrossingDue interval s)
    (hflow : cfg.flowSensing = false) (hsettled : settledState s.supervisor.station = true) (flow : Bool) :
    ∃ u : State, StillAt 28 s u ∧
      exec (.crossing interval flow) s = .next (crossingCounted (settleFreeze cfg (closeWindow cfg u))) := by
  have hstill := atPoint_still hflow (s := s) (.inl rfl) interval flow (28 * cfg.slotLen)
  refine ⟨_, hstill, (exec_crossing_slot hdue hcrossing flow).trans (congrArg (fun t => Host.Outcome.next (crossingCounted t)) ?_)⟩
  show (if settledState (atPoint cfg 28 (crossed interval flow (28 * cfg.slotLen) s)).supervisor.station then _ else _) = _
  exact if_pos (by rw [hstill.station]; exact hsettled)

/-- What closing the window reads stands as before the crossing. -/
theorem StillAt.windowCloses {slot : Nat} {s u : State} (h : StillAt slot s u) (hs : WindowCloses s) : WindowCloses u := by
  have hring : u.ring = { s.ring with mailbox := if s.ring.mailbox = .offered then .empty else s.ring.mailbox } :=
    h.ring.trans (expireMailbox_eq _)
  refine ⟨?_, ?_⟩
  · rw [hring, h.link]
    exact hs.head
  · rw [hring, h.placement]
    exact hs.request

end Sys2Proof.Machine

/-! PROOFS. The freeze (R65, R75, R83, R88 to R94, R156, R160 to R163). -/

namespace Sys2Proof.Machine

/-! ### The runs of the adjustment (R69, R93) -/

/-- A run with the stuck mark is that of a STUCK_ON zone. -/
theorem adjustStuck_marked {cfg : Settings} {s : State} {runs : List Run} (hruns : (runs.map Run.zone).Nodup) {r : Run}
    (hr : r ∈ adjustStuck cfg s runs) (hstuck : r.stuck = true) :
    ∃ z : Index, r.zone = zoneNumber z ∧ (s.zones.get z).condition = .stuckOn := by
  obtain ⟨added, kept, hsplit, hkept, hadded, -⟩ := (adjustStuck_adjusted cfg s hruns).split
  rw [hsplit, List.mem_append] at hr
  obtain hr | hr := hr
  · obtain ⟨z, -, hon, rfl⟩ := hadded r hr
    exact ⟨z, rfl, hon⟩
  · have hmember := (List.mem_filter.mp (hkept.subset hr)).2
    rw [hstuck, Bool.not_true, Bool.false_or, indexes_any_iff] at hmember
    obtain ⟨z, hz⟩ := hmember
    rw [Bool.and_eq_true, decide_eq_true_iff, decide_eq_true_iff] at hz
    exact ⟨z, hz.1.symm, hz.2⟩

/-- Every STUCK_ON zone has one run: its own one with the mark, or the one added for it. -/
theorem adjustStuck_stuckOn {cfg : Settings} {s : State} {runs : List Run} (hruns : (runs.map Run.zone).Nodup) {z : Index}
    (hon : (s.zones.get z).condition = .stuckOn) :
    ∃ r ∈ adjustStuck cfg s runs, r.zone = zoneNumber z ∧ r.stuck = true ∧
      (r ∈ runs ∨ r = stuckRun z (stuckLoad cfg z (s.scanner.zones.get z))) ∧
      ∀ q ∈ adjustStuck cfg s runs, q.zone = zoneNumber z → q = r := by
  have hadjusted := adjustStuck_adjusted cfg s hruns
  obtain ⟨added, kept, hsplit, hkept, hadded, -⟩ := hadjusted.split
  obtain ⟨r, hr, hzone, hstuck⟩ := hadjusted.held z (mem_indexes z) hon
  refine ⟨r, hr, hzone, hstuck, ?_, fun q hq hsame => List.inj_on_of_nodup_map hadjusted.nodup hq hr (hsame.trans hzone.symm)⟩
  rw [hsplit, List.mem_append] at hr
  obtain hr | hr := hr
  · obtain ⟨y, -, -, rfl⟩ := hadded r hr
    obtain rfl := zoneNumber_inj.mp hzone
    exact .inr rfl
  · exact .inl (List.mem_of_mem_filter (hkept.subset hr))

/-- The runs added come first, in order of zone number, and the others keep their places. -/
theorem adjustStuck_split (cfg : Settings) (s : State) {runs : List Run} (hruns : (runs.map Run.zone).Nodup) :
    ∃ added kept : List Run, adjustStuck cfg s runs = added ++ kept ∧ kept.Sublist runs ∧ (∀ r ∈ added, r.stuck = true) ∧
      (added.map Run.zone).Pairwise (· < ·) ∧
      ∀ r ∈ runs, r.stuck = false → (∀ z : Index, r.zone = zoneNumber z → (s.zones.get z).condition ≠ .stuckOn) → r ∈ kept := by
  obtain ⟨added, kept, hsplit, hkept, hadded, hsorted, hothers⟩ := (adjustStuck_adjusted cfg s hruns).split
  refine ⟨added, kept, hsplit, hkept.trans List.filter_sublist, fun r hr => ?_, hsorted, fun r hr hstuck hfree => ?_⟩
  · obtain ⟨z, -, -, rfl⟩ := hadded r hr
    rfl
  · refine hothers r (List.mem_filter.mpr ⟨hr, ?_⟩) hstuck fun z _ => hfree z
    rw [hstuck]
    rfl

/-! ### The report of the freeze (R65, R94) -/

theorem listedCurtailed_eq (s : State) (runs : List Run) (z : Index) : listedCurtailed s runs z =
    (decide ((s.zones.get z).condition = .normal) &&
      decide (0 < ((s.placement.handed.map fun h => (h.get z).demand).getD 0)) &&
      (decide (z.val + 1 ∈ ((s.placement.working.map Working.curtailed).getD [])) ||
        match runOf runs z with
        | none => true
        | some r => decide (r.length < ((s.placement.handed.map fun h => (h.get z).demand).getD 0)))) := by
  have hmember : ∀ l : List Nat, (l.any fun n => decide (n = zoneNumber z)) = decide (z.val + 1 ∈ l) := fun l => by
    rw [Bool.eq_iff_iff, List.any_eq_true, decide_eq_true_iff]
    exact ⟨fun ⟨n, hn, h⟩ => (of_decide_eq_true h : n = z.val + 1) ▸ hn, fun h => ⟨_, h, decide_eq_true rfl⟩⟩
  rw [listedCurtailed, hmember, Option.map_map]
  rfl

/-! ### The freeze of a window that closes (R88, R89) -/

/-- The base of the freeze is by the unit and the Peer Table, once the window is closed. -/
theorem freezeBase_closedEmpty (s : State) : freezeBase (!s.peers.entries.isEmpty) s.link.clash
      { s.placement with computation := none, request := .none } =
    if s.link.clash then ((s.placement.working.map Working.runs).getD [], 256, false)
    else match s.placement.announced with
      | some a => (a.runs, a.order, true)
      | none => ((s.placement.working.map Working.runs).getD [], 256,
          decide (s.placement.lastFailure = some .noAck ∧ s.peers.entries = [])) := by
  rw [freezeBase_closed _ _ (by rfl), ← noAck_unheard s.placement s.peers.entries] <;> rfl

theorem freezeBase_recordedEmpty (s : State) (i : Index) : freezeBase (!s.peers.entries.isEmpty) s.link.clash
      { s.placement with computation := none, request := .cancelRecorded i } =
    if s.link.clash then ((s.placement.working.map Working.runs).getD [], 256, false)
    else match s.placement.announced with
      | some a => (a.runs.filter (fun r => s.placement.requestRuns.any (fun q =>
          decide (r.zone = q.zone ∧ r.start = q.start ∧ r.length = q.length ∧ r.load = q.load ∧ r.surcharge = q.surcharge))),
          a.order, true)
      | none => ((s.placement.working.map Working.runs).getD [], 256,
          decide (s.placement.lastFailure = some .noAck ∧ s.peers.entries = [])) := by
  rw [freezeBase_recorded _ _ (by rfl), ← noAck_unheard s.placement s.peers.entries] <;> rfl

/-- The contributions of the others at the freeze, whatever own contribution the map begins with. -/
theorem othersOf_rationedOwn (cfg : Settings) (s : State) (own : Contribution) (hown : own.source = .own) :
    othersOf (rationed cfg s.peers (own :: othersOf s.placement.map)) = rationed cfg s.peers (othersOf s.placement.map) := by
  rw [othersOf_rationed, othersOf, List.filter_cons_of_neg (by rw [hown]; exact fun k => nomatch k), othersOf, List.filter_filter]
  exact congrArg _ (List.filter_congr fun c _ => Bool.and_self _)

/-- The window closed, the freeze is settled on what stood before the crossing (R88). -/
theorem exec_freeze_closed {cfg : Settings} {s : State} {interval : Nat} {base : List Run} {order : Nat} {announced : Bool}
    (hdue : SlotDue cfg 28 s) (hcrossing : CrossingDue interval s) (hcloses : WindowCloses s) (hflow : cfg.flowSensing = false)
    (hsettled : settledState s.supervisor.station = true)
    (hbase : freezeBase (!s.peers.entries.isEmpty) s.link.clash { s.placement with computation := none, request := .none } =
      (base, order, announced)) (flow : Bool) :
    ∃ (t u : State) (r : Ring), exec (.crossing interval flow) s = .next t ∧ StillAt 28 s u ∧ RingClosed u r ∧
      Frozen cfg s r .none base order announced t := by
  obtain ⟨u, hstill, hexec⟩ := exec_freeze hdue hcrossing hflow hsettled flow
  obtain ⟨r, hclosed, hring⟩ := closeWindow_closes cfg (hstill.windowCloses hcloses)
  rw [hclosed] at hexec
  obtain ⟨hr, hlink, hplacement, hzones⟩ := settleFreeze_frozen hstill (r := r) hbase
  exact ⟨_, u, r, hexec, hstill, hring, hr, hlink, hplacement, hzones⟩

/-- The freeze while the own PLACE frame is on the line (R83, R88). -/
theorem exec_freeze_onLine {cfg : Settings} {s : State} {interval : Nat} {base : List Run} {order : Nat} {announced : Bool}
    (hdue : SlotDue cfg 28 s) (hcrossing : CrossingDue interval s) (hflow : cfg.flowSensing = false)
    (hsettled : settledState s.supervisor.station = true)
    (hrequest : s.placement.request = .queued s.ring.head ∨ s.placement.request = .cancelRecorded s.ring.head)
    (hsending : (headDescriptor s.ring).state = .sending) (hhand : s.link.inHand = some .ring) (hattempt : s.link.attempt ≠ none)
    (hbase : freezeBase (!s.peers.entries.isEmpty) s.link.clash
      { s.placement with computation := none, request := .cancelRecorded s.ring.head } = (base, order, announced)) (flow : Bool) :
    ∃ (t : State) (r : Ring), exec (.crossing interval flow) s = .next t ∧
      headDescriptor r = (if s.placement.request = .queued s.ring.head then { headDescriptor s.ring with cancel := true }
        else headDescriptor s.ring) ∧
      Frozen cfg s r (.cancelRecorded s.ring.head) base order announced t := by
  obtain ⟨u, hstill, hexec⟩ := exec_freeze hdue hcrossing hflow hsettled flow
  have hring : u.ring = { s.ring with mailbox := if s.ring.mailbox = .offered then .empty else s.ring.mailbox } :=
    hstill.ring.trans (expireMailbox_eq _)
  have hhead : u.ring.head = s.ring.head := by rw [hring]
  have hdescriptor : headDescriptor u.ring = headDescriptor s.ring := by
    rw [hring]
    rfl
  obtain ⟨r, hclosed, hr⟩ := closeWindow_onLine cfg (s := u) (by rw [hstill.placement, hhead]; exact hrequest)
    (by rw [hdescriptor]; exact hsending) (by rw [hstill.link]; exact hhand) (by rw [hstill.link]; exact hattempt)
  rw [hclosed, hhead] at hexec
  rw [hstill.placement, hhead, hdescriptor] at hr
  obtain ⟨hkept, hlink, hplacement, hzones⟩ := settleFreeze_frozen hstill (r := r) hbase
  exact ⟨_, r, hexec, hr, hkept, hlink, hplacement, hzones⟩

end Sys2Proof.Machine

namespace Sys2Proof.Proofs.Freeze
open Sys2Proof.Machine

/-- Settles O15: a unit at rest closes its window without a trace, and with nobody SILENT and no zone STUCK_ON only the shedding is left of the
freeze; in general the freeze is settled on the closed window's base, ring by ring part; the adjustment is by the runs of its turns. -/
theorem freezeSettlesThePlacement : Obligations.FreezeSettlesThePlacement := by
  unfold Obligations.FreezeSettlesThePlacement
  refine ⟨?announcedAlone, ?settled, ?closed, ?onLine, ?adjustment⟩
  case announcedAlone =>
    intro cfg s interval flow a hdue hcrossing hrest hflow hsettled hannounced hclash hfresh hnone
    have hbase := (freezeBase_closedEmpty s).trans (by rw [hclash, hannounced]; rfl : _ = (a.runs, a.order, true))
    obtain ⟨t, u, r, hexec, -, -, hfrozen⟩ :=
      exec_freeze_closed hdue hcrossing ⟨.inl hrest.head, .inl hrest.request⟩ hflow hsettled hbase flow
    obtain ⟨m, hplacement⟩ := hfrozen.placement
    refine ⟨t, hexec, ?_, ?_, ?_, ?_⟩ <;> rw [hplacement]
    · rw [frozenBy, if_pos rfl, rationed_of_fresh hfresh, adjustStuck_of_none hnone]
      rfl
    · rfl
    · exact hannounced
  case settled =>
    intro cfg s interval flow base order announced m hdue hcrossing hcloses hflow hsettled hbase hm
    obtain ⟨t, u, r, hexec, -, -, hfrozen⟩ :=
      exec_freeze_closed hdue hcrossing hcloses hflow hsettled ((freezeBase_closedEmpty s).trans hbase.symm) flow
    obtain ⟨mapped, hplacement⟩ := hfrozen.placement
    have hmap : m = rationed cfg s.peers
        ({ source := .own, order := order, runs := base, ration := none } :: othersOf s.placement.map) :=
      hm.trans (rationed_eq _ _ _).symm
    have hothers : (m.filter fun c => decide (c.source ≠ .own)) = rationed cfg s.peers (othersOf s.placement.map) := by
      rw [hmap]
      exact othersOf_rationedOwn cfg s _ rfl
    refine ⟨t, hexec, ?_, ?_, ?_, ?_, ?_, ?_, fun z => ?_⟩
    · rw [hplacement, hothers]
      rfl
    · rw [hplacement]
    · rw [hplacement]
    · rw [hplacement]
    · rw [hplacement]
    · rw [hplacement]
    · rw [hfrozen.zones, listedCurtailed_eq, hplacement]
      rfl
  case closed =>
    intro cfg s interval flow hdue hcrossing hcloses hflow hsettled
    obtain ⟨t, u, r, hexec, hstill, hclosed, hfrozen⟩ :=
      exec_freeze_closed (order := (freezeBase _ _ _).2.1) (announced := (freezeBase _ _ _).2.2) hdue hcrossing hcloses hflow hsettled rfl flow
    obtain ⟨mapped, hplacement⟩ := hfrozen.placement
    have hring : u.ring = { s.ring with mailbox := if s.ring.mailbox = .offered then .empty else s.ring.mailbox } :=
      hstill.ring.trans (expireMailbox_eq _)
    refine ⟨t, hexec, ?_, ?_, ?_, ?_, ?_, ?_, fun hnone => ?_, fun hwaiting => ?_, fun i hqueued => ⟨fun hbehind => ?_, fun hhead => ?_⟩⟩
    · rw [hplacement]
    · rw [hplacement]
    · rw [hplacement]
    · rw [hplacement]
    · rw [hplacement]
    · rw [hplacement]
    · rw [hfrozen.ring, hclosed.none (by rw [hstill.placement]; exact hnone), hring]
      exact ⟨rfl, rfl, rfl, rfl, rfl⟩
    · rw [hfrozen.ring, hclosed.waiting (by rw [hstill.placement]; exact hwaiting), hring]
      exact ⟨rfl, rfl, rfl, rfl, rfl⟩
    · rw [hfrozen.ring, hclosed.behind i (by rw [hstill.placement]; exact hqueued) (by rw [hring]; exact hbehind), hring]
      exact ⟨rfl, rfl, rfl, rfl, rfl⟩
    · subst hhead
      obtain ⟨hfreed, -, hwaiting⟩ := hclosed.head (by rw [hstill.placement, hring]; exact hqueued)
      rw [hfrozen.ring, hfreed, hring]
      rw [hring] at hwaiting
      exact ⟨rfl, rfl, rfl, rfl, hwaiting⟩
  case onLine =>
    intro cfg s interval flow base order announced m hdue hcrossing hflow hsettled hrequest hsending hhand hattempt hbase hm
    obtain ⟨t, r, hexec, hhead, hfrozen⟩ := exec_freeze_onLine hdue hcrossing hflow hsettled hrequest hsending hhand hattempt
      ((freezeBase_recordedEmpty s s.ring.head).trans hbase.symm) flow
    obtain ⟨mapped, hplacement⟩ := hfrozen.placement
    have hothers : m = rationed cfg s.peers (othersOf s.placement.map) := hm.trans (rationed_eq _ _ _).symm
    refine ⟨t, hexec, ?_, ?_, ?_, ?_, ?_, ?_, ?_, ?_⟩
    · rw [hplacement]
    · rw [hplacement]
    · rw [hfrozen.ring]
      exact hhead
    · rw [hplacement, hothers]
      rfl
    · rw [hplacement]
    · rw [hplacement]
    · rw [hfrozen.link]
    · rw [hfrozen.link]
      exact hhand
  case adjustment =>
    intro cfg s runs hruns
    exact ⟨fun z hon => adjustStuck_stuckOn hruns hon, fun r hr hstuck => adjustStuck_marked hruns hr hstuck,
      adjustStuck_split cfg s hruns⟩

end Sys2Proof.Proofs.Freeze

/-! PROOFS. The bit timing: one quantum of a wave, and one steady bit (R134). -/

namespace Sys2Proof.Machine

/-! ### The end of a quantum -/

/-- The bit timing once the edge of a quantum, if there is one, has been taken. -/
def edgeTaken (level : Bool) (p : Sampling) : BitClock := if p.level && !level then takeEdge p.link p.clock else p.clock

/-- The quantum after an edge and a sample. -/
def nextQuantum (p : Sampling) : Sampling :=
  { p with clock := endBit p.link { p.clock with quantum := p.clock.quantum + 1 } }

theorem endQuantum_eq (view : List Bool → Link) (level : Bool) (p : Sampling) : endQuantum view level p =
    nextQuantum (if (edgeTaken level p).quantum = 13 then sampleLevel view level { p with level := level, clock := edgeTaken level p }
      else { p with level := level, clock := edgeTaken level p }) := rfl

theorem endBit_passed (l : Link) {k : BitClock} (h : k.quantum < 20) :
    (endBit l { k with quantum := k.quantum + 1 }).quantum = (k.quantum + 1) % 20 ∧
      (endBit l { k with quantum := k.quantum + 1 }).resynced = (if k.quantum = 19 then false else k.resynced) ∧
      (k.quantum < 19 → endBit l { k with quantum := k.quantum + 1 } = { k with quantum := k.quantum + 1 }) := by
  by_cases hlast : k.quantum = 19
  · have hbegins : endBit l { k with quantum := k.quantum + 1 } = beginBit l { k with quantum := k.quantum + 1 } :=
      if_neg (by show ¬k.quantum + 1 < 20; omega)
    rw [hbegins, hlast]
    exact ⟨rfl, rfl, fun k => absurd k (by decide)⟩
  · have hstays : endBit l { k with quantum := k.quantum + 1 } = { k with quantum := k.quantum + 1 } :=
      if_pos (by show k.quantum + 1 < 20; omega)
    rw [hstays, if_neg hlast]
    exact ⟨(Nat.mod_eq_of_lt (by show k.quantum + 1 < 20; omega)).symm, rfl, fun _ => rfl⟩

section Quantum

variable (view : List Bool → Link) (level : Bool) (p : Sampling)

/-- The quantum at whose end the line is sampled. -/
theorem endQuantum_sampled {k : BitClock} (hedge : edgeTaken level p = k) (h : k.quantum = 13) : endQuantum view level p =
    { clock := { k with quantum := 14 }, level := level, bits := p.bits ++ [level], link := view (p.bits ++ [level]) } := by
  have hnext : endBit (view (p.bits ++ [level])) { k with quantum := k.quantum + 1 } = { k with quantum := 14 } := by
    rw [(endBit_passed _ (by rw [h]; decide)).2.2 (by rw [h]; decide), h]
  rw [endQuantum_eq, hedge, if_pos h, ← hnext]
  rfl

/-- Every other quantum. -/
theorem endQuantum_unsampled {k : BitClock} (hedge : edgeTaken level p = k) (h : k.quantum ≠ 13) : endQuantum view level p =
    { clock := endBit p.link { k with quantum := k.quantum + 1 }, level := level, bits := p.bits, link := p.link } := by
  rw [endQuantum_eq, hedge, if_neg h]
  rfl

/-- What the end of a quantum leaves, by the bit timing after its edge. -/
theorem endQuantum_of_edge {k : BitClock} (hedge : edgeTaken level p = k) (h : k.quantum < 20) :
    (endQuantum view level p).bits = (if k.quantum = 13 then p.bits ++ [level] else p.bits) ∧
      (endQuantum view level p).clock.quantum = (k.quantum + 1) % 20 ∧
      (endQuantum view level p).clock.resynced = (if k.quantum = 19 then false else k.resynced) ∧
      (k.quantum < 19 → (endQuantum view level p).clock.driving = k.driving) := by
  by_cases hpoint : k.quantum = 13
  · rw [endQuantum_sampled view level p hedge hpoint, if_pos hpoint, hpoint]
    exact ⟨rfl, rfl, rfl, fun _ => rfl⟩
  · obtain ⟨hquantum, hresynced, hstays⟩ := endBit_passed p.link h
    rw [endQuantum_unsampled view level p hedge hpoint, if_neg hpoint]
    exact ⟨rfl, hquantum, hresynced, fun hlast => by rw [hstays hlast]⟩

end Quantum

/-- At the first quantum of a bit an edge moves nothing. -/
theorem takeEdge_first (l : Link) {c : BitClock} (h : c.quantum = 0) :
    ∃ resynced : Bool, takeEdge l c = { c with resynced := resynced } := by
  have haligned : { c with resynced := true } = { c with quantum := 0, resynced := true } := by rw [← h]
  unfold takeEdge
  split
  · exact ⟨c.resynced, rfl⟩
  · split
    · exact ⟨true, haligned.symm⟩
    · split
      · exact ⟨c.resynced, rfl⟩
      · refine ⟨true, ?_⟩
        rw [haligned, h]
        exact if_pos (by show (0 : Nat) < 20; decide)

/-! ### The levels of a quantum -/

section Levels

variable {units : Nat} (hunits : 1 ≤ units) (view : List Bool → Link) (level : Bool)
include hunits

/-- The levels of one quantum make one end of it. -/
theorem foldl_quantum {p : Sampling} (h : p.clock.unit = 0) :
    (List.replicate units level).foldl (takeLevel units view) p = endQuantum view level p := by
  have hwithin : ∀ n : Nat, n < units →
      (List.replicate n level).foldl (takeLevel units view) p = { p with clock := { p.clock with unit := n } } := fun n hn => by
    induction n with
    | zero =>
      show p = _
      rw [← h]
    | succ n ih =>
      rw [List.replicate_succ', List.foldl_append, ih (by omega)]
      exact if_pos hn
  obtain ⟨n, rfl⟩ : ∃ n, units = n + 1 := ⟨units - 1, by omega⟩
  rw [List.replicate_succ', List.foldl_append, hwithin n (Nat.lt_succ_self n)]
  refine (if_neg (Nat.lt_irrefl _)).trans ?_
  show endQuantum view level { p with clock := { p.clock with unit := 0 } } = _
  rw [← h]

/-- The levels of so many quanta make so many ends of them. -/
theorem foldl_quanta (n : Nat) {p : Sampling} (h : p.clock.unit = 0) :
    (List.replicate (n * units) level).foldl (takeLevel units view) p = (endQuantum view level)^[n] p := by
  induction n generalizing p with
  | zero => rw [Nat.zero_mul]; rfl
  | succ n ih =>
    rw [Nat.succ_mul, Nat.add_comm, ← List.replicate_append_replicate, List.foldl_append, foldl_quantum hunits view level h,
      ih ((endQuantum_unit view level p).trans h), Function.iterate_succ_apply]

end Levels

/-! ### A steady bit -/

/-- The 20 quanta of a bit: the first, the 12 before the sample, the sample, and the six after it. -/
theorem iterate_bit {α : Type} (f : α → α) (x : α) : f^[20] x = f (f^[5] (f (f^[12] (f x)))) := rfl

section Steady

variable (view : List Bool → Link) (level : Bool) {p : Sampling}

theorem edgeTaken_steady (h : p.level = level) : edgeTaken level p = p.clock := by
  rw [edgeTaken, h, Bool.and_not_self]
  rfl

theorem edgeTaken_driving (h : p.clock.driving = true) : edgeTaken level p = p.clock := by
  have hedge : takeEdge p.link p.clock = p.clock := if_pos h
  rw [edgeTaken, hedge, ite_self]

/-- Within a bit, and away from its sample, steady quanta pass one by one. -/
theorem quanta_pass (hlevel : p.level = level) (n : Nat) (h : ∀ k < n, p.clock.quantum + k ≠ 13 ∧ p.clock.quantum + k < 19) :
    (endQuantum view level)^[n] p = { p with clock := { p.clock with quantum := p.clock.quantum + n } } := by
  induction n with
  | zero => rfl
  | succ n ih =>
    obtain ⟨hpoint, hwithin⟩ := h n (Nat.lt_succ_self n)
    rw [Function.iterate_succ_apply', ih fun k hk => h k (Nat.lt_succ_of_lt hk)]
    refine (endQuantum_unsampled view level _ (edgeTaken_steady level (by exact hlevel)) (by exact hpoint)).trans ?_
    rw [(endBit_passed _ (by show p.clock.quantum + n < 20; omega)).2.2 (by exact hwithin), ← hlevel]
    rfl

/-- The last quantum of a bit that is steady: the next bit begins. -/
theorem endQuantum_begins (hlevel : p.level = level) (h : p.clock.quantum = 19) :
    endQuantum view level p = { p with clock := beginBit p.link p.clock } := by
  rw [endQuantum_unsampled view level p (edgeTaken_steady level hlevel) (by rw [h]; decide), ← hlevel]
  have hbegins : endBit p.link { p.clock with quantum := p.clock.quantum + 1 } = beginBit p.link p.clock :=
    if_neg (by show ¬p.clock.quantum + 1 < 20; omega)
  rw [hbegins]

/-- The end of the first quantum of a bit, where an edge moves nothing. -/
theorem endQuantum_first (h : p.clock.quantum = 0) : ∃ resynced : Bool, endQuantum view level p =
    { p with level := level, clock := { p.clock with quantum := 1, resynced := resynced } } := by
  obtain ⟨resynced, hedge⟩ : ∃ resynced : Bool, edgeTaken level p = { p.clock with resynced := resynced } := by
    unfold edgeTaken
    split
    · exact takeEdge_first p.link h
    · exact ⟨p.clock.resynced, rfl⟩
  refine ⟨resynced, ?_⟩
  rw [endQuantum_unsampled view level p hedge (by show p.clock.quantum ≠ 13; omega),
    (endBit_passed _ (by show p.clock.quantum < 20; omega)).2.2 (by show p.clock.quantum < 19; omega), h]

/-- A bit of 20 steady quanta is sampled once, at its level, and the next bit begins. -/
theorem steady_bit (hquantum : p.clock.quantum = 0) (hunit : p.clock.unit = 0) : ∃ driving : Bool,
    (endQuantum view level)^[20] p =
      { clock := { unit := 0, quantum := 0, resynced := false, driving := driving }, level := level, bits := p.bits ++ [level]
        link := view (p.bits ++ [level]) } := by
  obtain ⟨resynced, hfirst⟩ := endQuantum_first view level hquantum
  refine ⟨drivesDominant (view (p.bits ++ [level])), ?_⟩
  have hsampled := endQuantum_sampled view level
    { p with level := level, clock := { p.clock with quantum := 13, resynced := resynced } } (edgeTaken_steady level (by rfl)) (by rfl)
  rw [iterate_bit, hfirst, quanta_pass view level (by rfl) 12 (fun k hk => by dsimp only; omega)]
  refine (congrArg (fun q => endQuantum view level ((endQuantum view level)^[5] q)) hsampled).trans ?_
  rw [quanta_pass view level (by rfl) 5 (fun k hk => by dsimp only; omega)]
  refine (endQuantum_begins view level (by rfl) (by rfl)).trans ?_
  rw [beginBit, hunit]

end Steady

end Sys2Proof.Machine

/-! PROOFS. The bits of a wave, and the commands that take one; the link that the bit timing goes by (R134, R138, R141, R142). -/

namespace Sys2Proof.Machine

/-! ### Steady bits (R134) -/

/-- The line steady for the 20 quanta of every bit is sampled as those bits, and the next bit begins. -/
theorem steady_bits {units : Nat} (hunits : 1 ≤ units) (view : List Bool → Link) (bits : List Bool) {p : Sampling}
    (hquantum : p.clock.quantum = 0) (hunit : p.clock.unit = 0) (hresynced : p.clock.resynced = false) {q : Sampling}
    (hq : (bits.flatMap fun b => List.replicate (20 * units) b).foldl (takeLevel units view) p = q) :
    q.bits = p.bits ++ bits ∧ q.clock.quantum = 0 ∧ q.clock.unit = 0 ∧ q.clock.resynced = false := by
  induction bits generalizing p with
  | nil =>
    subst hq
    exact ⟨(List.append_nil _).symm, hquantum, hunit, hresynced⟩
  | cons b bits ih =>
    obtain ⟨driving, hbit⟩ := steady_bit view b hquantum hunit
    rw [List.flatMap_cons, List.foldl_append, foldl_quanta hunits view b 20 hunit, hbit] at hq
    obtain ⟨hbits, hclock⟩ := ih (by rfl) (by rfl) (by rfl) hq
    exact ⟨hbits.trans (List.append_cons p.bits b bits).symm, hclock⟩

theorem clockAtStart_unit (l : Link) : (clockAtStart l).unit = l.clock.unit := by
  unfold clockAtStart
  split <;> rfl

theorem clockAtStart_begins {l : Link} (hquantum : l.clock.quantum = 0) (hunit : l.clock.unit = 0) :
    clockAtStart l = { unit := 0, quantum := 0, resynced := false, driving := drivesDominant l } := by
  rw [clockAtStart, if_pos ⟨hquantum, hunit⟩, beginBit, hunit]

theorem clockAtStart_within {l : Link} (hquantum : l.clock.quantum ≠ 0) : clockAtStart l = l.clock :=
  if_neg fun k => hquantum k.1

theorem quantumUnits_eq (code : Nat) : quantumUnits code = if code = 0 then 4 else if code = 1 then 2 else 1 := by
  unfold quantumUnits
  obtain rfl | rfl | hcode : code = 0 ∨ code = 1 ∨ 2 ≤ code := by omega
  · rfl
  · rfl
  · obtain ⟨n, rfl⟩ := Nat.exists_eq_add_of_le' hcode
    have htime : bitTimeMicros (n + 2) = 25 := rfl
    rw [htime, if_neg (by omega), if_neg (by omega)]

theorem quantumUnits_pos (code : Nat) : 1 ≤ quantumUnits code := by
  rw [quantumUnits_eq]
  split
  · decide
  · split <;> decide

/-! ### Commands that take bits of the line (R134) -/

/-- A command that takes the bits of its line. -/
def TakesBits (cfg : Settings) (f : List Bool → State → State) (c : Line → Instr) (s taken : State) : Prop :=
  ∀ line : Line, exec (c line) s = .next (takeBits cfg f line taken)

section Commands

variable {cfg : Settings} {f : List Bool → State → State} {c : Line → Instr} {s taken : State}

/-- With a wave, a command does what it does with the bits that are sampled from it. -/
theorem TakesBits.sampledAs (h : TakesBits cfg f c s taken) {before : Bool} {levels : List Bool} {p : Sampling}
    (hp : sampleWave (quantumUnits cfg.bitRate) (fun bits => onLine cfg (f bits taken)) taken.link.clock before levels = p)
    (hunit : p.clock.unit = 0) : SampledAs c (.wave before levels) p.bits p.clock.quantum p.clock.resynced s := by
  refine ⟨_, _, h _, h _, ?_, ?_, ?_, ?_⟩ <;> simp only [takeBits, hp, setLink_link]
  · rfl
  · exact hunit

/-- One quantum of a wave, by the bit timing after its edge. -/
theorem TakesBits.quantum (h : TakesBits cfg f c s taken) {units : Nat} (hunits : units = quantumUnits cfg.bitRate) {before level : Bool}
    (hunit : taken.link.clock.unit = 0) {l : Link} (hview : onLine cfg (f [] taken) = l) {k : BitClock}
    (hedge : (if before && !level then takeEdge l (clockAtStart { l with clock := taken.link.clock })
      else clockAtStart { l with clock := taken.link.clock }) = k) (hk : k.quantum < 20) :
    SampledAs c (.wave before (List.replicate units level)) (if k.quantum = 13 then [level] else []) ((k.quantum + 1) % 20)
      (if k.quantum = 19 then false else k.resynced) s ∧
    ∀ t : State, k.quantum < 19 → exec (c (.wave before (List.replicate units level))) s = .next t → t.link.clock.driving = k.driving := by
  subst hunits hview
  generalize hp : sampleWave (quantumUnits cfg.bitRate) (fun bits => onLine cfg (f bits taken)) taken.link.clock before
    (List.replicate (quantumUnits cfg.bitRate) level) = p
  have hstart : (clockAtStart { onLine cfg (f [] taken) with clock := taken.link.clock }).unit = 0 := (clockAtStart_unit _).trans hunit
  have hend := foldl_quantum (quantumUnits_pos cfg.bitRate) (fun bits => onLine cfg (f bits taken)) level
    (p := { clock := clockAtStart { onLine cfg (f [] taken) with clock := taken.link.clock }, level := before, bits := []
            link := onLine cfg (f [] taken) }) hstart
  replace hend := hp.symm.trans hend
  obtain ⟨hbits, hquantum, hresynced, hdriving⟩ := endQuantum_of_edge (fun bits => onLine cfg (f bits taken)) level
    { clock := clockAtStart { onLine cfg (f [] taken) with clock := taken.link.clock }, level := before, bits := []
      link := onLine cfg (f [] taken) } hedge hk
  rw [← hend] at hbits hquantum hresynced hdriving
  have hsampled := h.sampledAs hp (by rw [hend]; exact (endQuantum_unit _ _ _).trans hstart)
  rw [hbits, hquantum, hresynced] at hsampled
  refine ⟨hsampled, fun t hwithin ht => ?_⟩
  rw [h] at ht
  simp only [takeBits, hp] at ht
  rw [← Host.Outcome.next.inj ht]
  exact hdriving hwithin

end Commands

/-- A command that takes nothing leaves the bit timing too. -/
theorem SampledAs.of_untaken {c : Line → Instr} {s : State} (h : ∀ line : Line, exec (c line) s = .next s) (wave : Line) (bits : List Bool)
    (hunit : s.link.clock.unit = 0) : SampledAs c wave bits s.link.clock.quantum s.link.clock.resynced s :=
  ⟨s, s, h _, h _, rfl, rfl, rfl, hunit⟩

/-! ### The bit timing after an edge (R134) -/

section Edge

variable {l : Link} {k : BitClock}

theorem takeEdge_driving (h : k.driving = true) : takeEdge l k = k := if_pos h

theorem takeEdge_outside (hdriving : k.driving = false) (h : inFrame l = false) : takeEdge l k = { k with quantum := 0, resynced := true } := by
  rw [takeEdge, if_neg (by rw [hdriving]; exact Bool.false_ne_true), h]
  rfl

theorem takeEdge_second (h : inFrame l = true) (hresynced : k.resynced = true) : takeEdge l k = k := by
  unfold takeEdge
  rw [h, hresynced]
  exact ite_self k

/-- A late edge puts the quantum back, by 2 at most. -/
theorem takeEdge_late (hdriving : k.driving = false) (h : inFrame l = true) (hresynced : k.resynced = false) (hlate : k.quantum ≤ 13) :
    takeEdge l k = { k with quantum := k.quantum - min k.quantum 2, resynced := true } := by
  have hmoved : ((k.quantum : Int) - resyncQuanta k.quantum).toNat = k.quantum - min k.quantum 2 := by
    rw [resyncQuanta, if_pos hlate]
    omega
  rw [takeEdge, if_neg (by rw [hdriving]; exact Bool.false_ne_true), h, hresynced, hmoved]
  exact if_pos (by show k.quantum - min k.quantum 2 < 20; omega)

/-- An early edge in quanta 14 to 17 ends the bit 2 quanta early. -/
theorem takeEdge_early (hdriving : k.driving = false) (h : inFrame l = true) (hresynced : k.resynced = false) (hearly : 13 < k.quantum)
    (hlast : k.quantum ≤ 17) : takeEdge l k = { k with quantum := k.quantum + 2, resynced := true } := by
  have hmoved : ((k.quantum : Int) - resyncQuanta k.quantum).toNat = k.quantum + 2 := by
    rw [resyncQuanta, if_neg (by omega)]
    omega
  rw [takeEdge, if_neg (by rw [hdriving]; exact Bool.false_ne_true), h, hresynced, hmoved]
  exact if_pos (by show k.quantum + 2 < 20; omega)

/-- An edge in quanta 18 and 19 begins the next bit. -/
theorem takeEdge_last (hdriving : k.driving = false) (h : inFrame l = true) (hresynced : k.resynced = false) (hlast : 17 < k.quantum)
    (hq : k.quantum < 20) : takeEdge l k = { k with quantum := 0, resynced := false, driving := drivesDominant l } := by
  have hmoved : ((k.quantum : Int) - resyncQuanta k.quantum).toNat = 20 := by
    rw [resyncQuanta, if_neg (by omega)]
    omega
  rw [takeEdge, if_neg (by rw [hdriving]; exact Bool.false_ne_true), h, hresynced, hmoved]
  rfl

end Edge

/-! ### The link that the bit timing goes by (R134, R138, R142; assumption log 18) -/

/-- One end is kept, and none is left behind it. -/
theorem onLine_of_end {cfg : Settings} {s : State} (h : attemptOver s.link = true ∨ endKept s.link = true)
    (hattempt : attemptOver (takeKeptEnd cfg s).link = false) (hreception : endKept (takeKeptEnd cfg s).link = false) :
    onLine cfg s = (takeKeptEnd cfg s).link := by
  rw [onLine, afterKeptEnds_of_end cfg _ s h]
  simp only [afterKeptEnds, hattempt, hreception, Bool.or_self, Bool.false_eq_true, if_false]

theorem attemptOver_of_none {l : Link} (h : l.attempt = none) : attemptOver l = false := by
  unfold attemptOver
  rw [h]
  cases l.tracking <;> rfl

theorem endKept_of_none {l : Link} (h : l.reception = none) : endKept l = false := by
  unfold endKept
  rw [h]
  cases l.tracking <;> rfl

theorem endKept_of_incomplete {l : Link} {rx : Reception} (h : l.reception = some rx) (hrx : rxFrame rx.bits = .incomplete) :
    endKept l = false := by
  unfold endKept
  rw [h]
  cases l.tracking
  case inFrame => exact decide_eq_false (not_not_intro hrx)
  all_goals rfl

theorem kept_of_outside {l : Link} (h : ∀ position : Nat, l.tracking ≠ .inFrame position) : attemptOver l = false ∧ endKept l = false := by
  unfold attemptOver endKept
  cases htracking : l.tracking
  case inFrame position => exact absurd htracking (h position)
  all_goals exact ⟨rfl, rfl⟩

/-- The bits of a frame that has not ended are kept, and nothing more is done. -/
theorem receptionEnd_kept {cfg : Settings} {s : State} {rx : Reception} (h : rxFrame rx.bits = .incomplete) :
    receptionEnd cfg rx [] s = s.setLink { s.link with tracking := .inFrame rx.bits.length, reception := some (takeRxBits s.link [] rx) } := by
  have hbits : (takeRxBits s.link [] rx).bits = rx.bits := List.append_nil rx.bits
  simp only [receptionEnd, hbits, h]
  rfl

/-- The bit timing of a station that is receiving a frame. -/
theorem onLine_receiving {cfg : Settings} {s : State} {rx : Reception} (hattempt : s.link.attempt = none) (h : rxFrame rx.bits = .incomplete) :
    onLine cfg (receptionEnd cfg rx [] s) =
      { s.link with tracking := .inFrame rx.bits.length, reception := some (takeRxBits s.link [] rx) } := by
  have hbits : (takeRxBits s.link [] rx).bits = rx.bits := List.append_nil rx.bits
  rw [receptionEnd_kept h, onLine_of_no_end]
  · rfl
  · exact attemptOver_of_none hattempt
  · exact endKept_of_incomplete (by rfl) (by rw [hbits]; exact h)

/-- The samples of an attempt that has not ended are kept. -/
theorem onLine_sending {cfg : Settings} {s : State} {a : Attempt} (hreception : s.link.reception = none)
    (h : txCompare a.sent a.samples = .pending) :
    onLine cfg (attemptBits cfg [] a s) = { s.link with tracking := .inFrame a.samples.length, attempt := some a } := by
  have hkept : attemptBits cfg [] a s = s.setLink { s.link with tracking := .inFrame a.samples.length, attempt := some a } := by
    simp only [attemptBits, List.append_nil, h, keepSamples]
  rw [hkept, onLine_of_no_end]
  · rfl
  · exact decide_eq_false (not_not_intro h)
  · exact endKept_of_none hreception

/-! ### Past a kept end (R138, R141, R142) -/

theorem takeKeptEnd_attempt {cfg : Settings} {s : State} {a : Attempt} (h : s.link.attempt = some a) :
    takeKeptEnd cfg s = attemptBits cfg [] a s := by
  simp only [takeKeptEnd, h]

theorem takeKeptEnd_reception {cfg : Settings} {s : State} {rx : Reception} (hattempt : s.link.attempt = none)
    (h : s.link.reception = some rx) : takeKeptEnd cfg s = receptionEnd cfg rx [] s := by
  simp only [takeKeptEnd, hattempt, h]

/-- A kept void end leaves the frame, and its later bits follow. -/
theorem receptionEnd_void {cfg : Settings} {s : State} {rx : Reception} {rest : List Bool} (h : rxFrame rx.bits = .void rest) :
    ∃ ack : Bool, receptionEnd cfg rx [] s = sampleBits rest (leaveFrame ack false s) := by
  have hbits : (takeRxBits s.link [] rx).bits = rx.bits := List.append_nil rx.bits
  refine ⟨(takeRxBits s.link [] rx).ack.getD false, ?_⟩
  simp only [receptionEnd, hbits, h, List.take_nil]
  rfl

/-- A frame has left the line, and the place on the line stands. -/
structure OffLine (s t : State) : Prop where
  tracking : t.link.tracking = s.link.tracking
  reception : t.link.reception = s.link.reception
  state : t.link.state = s.link.state
  attempt : t.link.attempt = none

theorem OffLine.served {s t : State} (h : OffLine s t) (cfg : Settings) : OffLine s (serviceHead cfg t) :=
  have k := serviceHead_served cfg t
  ⟨k.linkTracking.trans h.tracking, k.linkReception.trans h.reception, k.linkState.trans h.state, k.linkAttempt.trans h.attempt⟩

/-- What becomes of the frame in hand after a failure leaves the place on the line. -/
theorem settleFailure_offLine (cfg : Settings) (ackError : Bool) (s : State) : OffLine s (settleFailure cfg ackError s) := by
  obtain ⟨hstate, htracking, hreception, -⟩ := setTries_link (countFailure ackError (triesInHand s.link)) s.link
  have hcompleted : ∀ reason : Option FailReason, OffLine s (serviceHead cfg (completeInHand reason
      (s.setLink (setTries (countFailure ackError (triesInHand s.link)) s.link)))) := fun reason => by
    refine OffLine.served ?_ cfg
    constructor <;> rw [completeInHand_link]
    · exact htracking
    · exact hreception
    · exact hstate
  simp only [settleFailure]
  split
  · exact OffLine.served ⟨htracking, hreception, hstate, rfl⟩ cfg
  · split
    · exact hcompleted _
    · split
      · exact hcompleted _
      · exact ⟨htracking, hreception, hstate, rfl⟩

end Sys2Proof.Machine

/-! PROOFS. The line sampled by the bit timing: steady bits, edges of a frame, of an idle line, of own bits, and past kept ends (R134). -/

namespace Sys2Proof.Machine

/-! ### The commands that take bits of the line -/

section Commands

variable {cfg : Settings} {s : State}

theorem activeSettings_of_settled (h : s.loader.settled = some cfg) : activeSettings s = none ∨ activeSettings s = some cfg := by
  unfold activeSettings
  split
  · exact .inr h
  · exact .inl rfl

theorem takesBits_lineIdle (hactive : activeSettings s = some cfg) (h : ∀ position : Nat, s.link.tracking ≠ .inFrame position) :
    TakesBits cfg sampleBits .lineIdle s s := fun line => by
  show Host.Outcome.next (whenActive s _) = _
  rw [whenActive_of_active hactive]
  cases htracking : s.link.tracking
  case inFrame position => exact absurd htracking (h position)
  all_goals rfl

theorem takesBits_attemptEnd (hactive : activeSettings s = some cfg) {a : Attempt} (h : s.link.attempt = some a) :
    TakesBits cfg (fun bits => attemptBits cfg bits a) .attemptEnd s s := fun line => by
  show Host.Outcome.next (whenActive s _) = _
  rw [whenActive_of_active hactive, h]

theorem takesBits_frameReceived (hactive : activeSettings s = some cfg) {rx : Reception} (h : s.link.reception = some rx) (flow : Bool) :
    TakesBits cfg (receptionEnd cfg rx) (fun line => .frameReceived line flow) s (s.setFlowPin flow) :=
  fun line => exec_frameReceived hactive h line flow

theorem takesBits_quietInterval (hactive : activeSettings s = some cfg) (h : s.link.state = .detached) :
    TakesBits cfg sampleBits .quietInterval s s := fun line => exec_quietInterval hactive h line

/-- At a chance, the bits of the command go to the frame taken in hand, after its own Start bit (R136). -/
theorem takesBits_chanceToSend (hactive : activeSettings s = some cfg) {count recessive : Nat} (hidle : s.link.tracking = .idle count)
    (hdue : ChanceDue s.link.state (count + recessive)) {u : State}
    (htaken : takeInHand cfg (s.setLink { s.link with tracking := .idle (count + recessive) }) = u) (hattempt : u.link.attempt.isSome = true) :
    TakesBits cfg (firstBits cfg) (fun line => .chanceToSend recessive line) s u := fun line => by
  refine congrArg Host.Outcome.next ((whenActive_of_active hactive _).trans ?_)
  have hchance := (atChance_idle s.link (count + recessive)).mpr hdue
  simp only [chanceStep, countRecessive_attached recessive hidle (attached_of_sends hdue.sends)]
  refine (if_pos hchance).trans ?_
  rw [htaken, if_pos hattempt]

theorem unchanged_of_inactive (h : activeSettings s = none) (f : Settings → State) :
    (.next (whenActive s f) : Host.Outcome State Fault Refusal) = .next s := congrArg _ (whenActive_of_inactive h f)

theorem unchanged_of_active (h : activeSettings s = some cfg) (f : Settings → State) (hf : f cfg = s) :
    (.next (whenActive s f) : Host.Outcome State Fault Refusal) = .next s := congrArg _ ((whenActive_of_active h f).trans hf)

/-- A command that carries bits takes them, or takes nothing (assumption log 2). -/
theorem command_takes (hsettled : s.loader.settled = some cfg) {c : Line → Instr}
    (hc : (∃ flow : Bool, c = fun line => .frameReceived line flow) ∨ c = .lineIdle ∨ c = .attemptEnd ∨ c = .quietInterval ∨
      c = .loopbackIdleWaitPassed) :
    (∃ (f : List Bool → State → State) (taken : State), taken.link = s.link ∧ TakesBits cfg f c s taken) ∨
      ∀ line : Line, exec (c line) s = .next s := by
  have hactive := activeSettings_of_settled hsettled
  obtain ⟨flow, rfl⟩ | rfl | rfl | rfl | rfl := hc
  · obtain hactive | hactive := hactive
    · exact .inr fun line => unchanged_of_inactive hactive _
    · cases hrx : s.link.reception with
      | none => exact .inr fun line => unchanged_of_active hactive _ (by rw [hrx])
      | some rx => exact .inl ⟨_, s.setFlowPin flow, rfl, takesBits_frameReceived hactive hrx flow⟩
  · obtain hactive | hactive := hactive
    · exact .inr fun line => unchanged_of_inactive hactive _
    · by_cases hframe : ∃ position : Nat, s.link.tracking = .inFrame position
      · obtain ⟨position, hframe⟩ := hframe
        exact .inr fun line => unchanged_of_active hactive _ (by rw [hframe])
      · exact .inl ⟨_, _, rfl, takesBits_lineIdle hactive fun position k => hframe ⟨position, k⟩⟩
  · obtain hactive | hactive := hactive
    · exact .inr fun line => unchanged_of_inactive hactive _
    · cases hattempt : s.link.attempt with
      | none => exact .inr fun line => unchanged_of_active hactive _ (by rw [hattempt])
      | some a => exact .inl ⟨_, _, rfl, takesBits_attemptEnd hactive hattempt⟩
  · obtain hactive | hactive := hactive
    · exact .inr fun line => unchanged_of_inactive hactive _
    · by_cases hdetached : s.link.state = .detached
      · exact .inl ⟨_, _, rfl, takesBits_quietInterval hactive hdetached⟩
      · exact .inr fun line => unchanged_of_active hactive _ (if_neg hdetached)
  · by_cases hstarting : startingUp s = true
    · have hcfg : startingSettings s = some cfg := (if_pos hstarting).trans hsettled
      cases hloop : s.link.loopback
      case waiting run total => exact .inl ⟨loopSamples cfg, s, rfl, fun line => congrArg Host.Outcome.next (by simp only [hcfg, hloop])⟩
      all_goals exact .inr fun line => congrArg Host.Outcome.next (by simp only [hcfg, hloop])
    · have hcfg : startingSettings s = none := if_neg hstarting
      exact .inr fun line => congrArg Host.Outcome.next (by simp only [hcfg])

end Commands

/-! ### Steady bits of a command -/

section Steady

variable {cfg : Settings} {f : List Bool → State → State} {c : Line → Instr} {s taken : State} {units : Nat}

theorem TakesBits.steady (h : TakesBits cfg f c s taken) (hunits : units = quantumUnits cfg.bitRate)
    (hquantum : taken.link.clock.quantum = 0) (hunit : taken.link.clock.unit = 0) (before : Bool) (bits : List Bool) :
    SampledAs c (.wave before (bits.flatMap fun b => List.replicate (20 * units) b)) bits 0 false s := by
  subst hunits
  generalize hp : sampleWave (quantumUnits cfg.bitRate) (fun bits => onLine cfg (f bits taken)) taken.link.clock before
    (bits.flatMap fun b => List.replicate (20 * quantumUnits cfg.bitRate) b) = p
  have hstart := clockAtStart_begins (l := { onLine cfg (f [] taken) with clock := taken.link.clock }) hquantum hunit
  obtain ⟨hbits, hzero, hsteady, hresynced⟩ := steady_bits (quantumUnits_pos cfg.bitRate) _ bits (by exact congrArg BitClock.quantum hstart)
    (by exact congrArg BitClock.unit hstart) (by exact congrArg BitClock.resynced hstart) hp
  have hsampled := h.sampledAs hp hsteady
  rwa [hbits, hzero, hresynced] at hsampled

/-- The six quanta after the sample of a Start bit, and those steps after which the next bit begins. -/
theorem iterate_startRest {α : Type} (f : α → α) (x : α) : f^[6] x = f (f^[4] (f x)) := rfl

/-- The rest of the own Start bit, in which no edge is taken (R134, R136). -/
theorem startRest (view : List Bool → Link) (level : Bool) {p : Sampling} (h : p.clock = BitClock.started true) : ∃ driving : Bool,
    (endQuantum view level)^[6] p =
      { p with level := level, clock := { unit := 0, quantum := 0, resynced := false, driving := driving } } := by
  refine ⟨drivesDominant p.link, ?_⟩
  have hfirst : endQuantum view level p = { p with level := level, clock := { BitClock.started true with quantum := 15 } } := by
    rw [endQuantum_unsampled view level p (edgeTaken_driving level (by rw [h]; rfl)) (by rw [h]; decide), h]
    rfl
  rw [iterate_startRest, hfirst, quanta_pass view level (by rfl) 4 (fun k hk => by dsimp only; omega)]
  exact endQuantum_begins view level (by rfl) (by rfl)

theorem TakesBits.afterStart (h : TakesBits cfg f c s taken) (hunits : units = quantumUnits cfg.bitRate)
    (hclock : taken.link.clock = BitClock.started true) (before level : Bool) (bits : List Bool) :
    SampledAs c (.wave before (List.replicate (6 * units) level ++ bits.flatMap fun b => List.replicate (20 * units) b)) bits 0 false s := by
  subst hunits
  generalize hp : sampleWave (quantumUnits cfg.bitRate) (fun bits => onLine cfg (f bits taken)) taken.link.clock before
    (List.replicate (6 * quantumUnits cfg.bitRate) level ++ bits.flatMap fun b => List.replicate (20 * quantumUnits cfg.bitRate) b) = p
  have hstart : clockAtStart { onLine cfg (f [] taken) with clock := taken.link.clock } = BitClock.started true := by
    rw [clockAtStart_within (by rw [hclock]; decide), hclock]
  have hwave := hp
  rw [sampleWave, List.foldl_append, foldl_quanta (quantumUnits_pos cfg.bitRate) _ level 6 (by exact congrArg BitClock.unit hstart)] at hwave
  obtain ⟨driving, hrest⟩ := startRest (fun bits => onLine cfg (f bits taken)) level
    (p := { clock := clockAtStart { onLine cfg (f [] taken) with clock := taken.link.clock }, level := before, bits := []
            link := onLine cfg (f [] taken) }) hstart
  rw [hrest] at hwave
  obtain ⟨hbits, hzero, hsteady, hresynced⟩ :=
    steady_bits (quantumUnits_pos cfg.bitRate) _ bits (by rfl) (by rfl) (by rfl) hwave
  have hsampled := h.sampledAs hp hsteady
  rwa [hbits, hzero, hresynced] at hsampled

end Steady

/-- A frame taken in hand sends its Start bit, after whose sample the bit timing stands (R134, R136). -/
theorem takeInHand_started {cfg : Settings} {s : State}
    (h : s.ring.mailbox ≠ .empty ∨ ((headDescriptor s.ring).producer ≠ none ∧
      ((headDescriptor s.ring).state = .ready ∨ (headDescriptor s.ring).state = .sending))) :
    (takeInHand cfg s).link.clock = BitClock.started true ∧ (takeInHand cfg s).link.attempt.isSome = true := by
  by_cases hempty : s.ring.mailbox = .empty
  · obtain hmailbox | ⟨hproducer, hstate⟩ := h
    · exact absurd hempty hmailbox
    · obtain ⟨p, hp⟩ := Option.ne_none_iff_exists'.mp hproducer
      rw [takeInHand_ring hempty hp hstate]
      exact ⟨rfl, rfl⟩
  · rw [takeInHand_mailbox hempty]
    exact ⟨rfl, rfl⟩

end Sys2Proof.Machine

/-! PROOFS. One quantum of the line, and past kept ends (R134, R138, R140 to R142). -/

namespace Sys2Proof.Machine

/-! ### What the station drives (R134, R140, R141) -/

section Driving

variable {l : Link}

theorem drivesDominant_outside (hburst : bursting l = false) (hattempt : l.attempt = none) (hreception : l.reception = none) :
    drivesDominant l = false := by
  rw [drivesDominant, hburst, hattempt, hreception]
  rfl

theorem drivesDominant_receiving {rx : Reception} (hburst : bursting l = false) (hattempt : l.attempt = none)
    (hreception : l.reception = some rx) : drivesDominant l = (ackComes rx && acknowledges rx l) := by
  rw [drivesDominant, hburst, hattempt, hreception]
  rfl

theorem drivesDominant_sending {a : Attempt} {b : SentBit} (hburst : bursting l = false) (hattempt : l.attempt = some a)
    (hbit : a.sent[a.samples.length]? = some b) : drivesDominant l = !b.level := by
  rw [drivesDominant, hburst, hattempt]
  show (a.sent[a.samples.length]?).any (fun b => !b.level) = !b.level
  rw [hbit]
  rfl

/-- The Acknowledge bit comes after a check that has passed, and before any bit of it (R140). -/
theorem ackComes_iff (rx : Reception) : ackComes rx = true ↔ ∃ f : Frame, rxPart rx.bits = .passed f [] := by
  unfold ackComes
  split
  case h_4 f tail h =>
    rw [h, List.isEmpty_iff]
    exact ⟨fun k => ⟨f, by rw [k]⟩, fun ⟨g, k⟩ => (StuffedResult.passed.inj k).2⟩
  all_goals
    rename_i h
    exact ⟨fun k => (nomatch k), fun ⟨f, k⟩ => nomatch h.symm.trans k⟩

theorem acknowledges_iff (rx : Reception) (l : Link) : acknowledges rx l = true ↔ linkSends l.state = true ∧ rx.mute = false := by
  rw [acknowledges, Bool.and_eq_true, Bool.not_eq_true']

end Driving

/-! ### The bit timing as a quantum finds it (R134) -/

theorem clockAtStart_eq {l : Link} (hunit : l.clock.unit = 0) : clockAtStart l =
    { unit := 0, quantum := l.clock.quantum, resynced := if l.clock.quantum = 0 then false else l.clock.resynced
      driving := if l.clock.quantum = 0 then drivesDominant l else l.clock.driving } := by
  by_cases hquantum : l.clock.quantum = 0
  · rw [clockAtStart_begins hquantum hunit, if_pos hquantum, if_pos hquantum, hquantum]
  · rw [clockAtStart_within hquantum, if_neg hquantum, if_neg hquantum, ← hunit]

/-- An edge that is not there, or not taken. -/
theorem edge_untaken {l : Link} {k : BitClock} {before level : Bool} (h : before = false ∨ level = true ∨ takeEdge l k = k) :
    (if before && !level then takeEdge l k else k) = k := by
  obtain rfl | rfl | h := h
  · rfl
  · rw [Bool.not_true, Bool.and_false]
    rfl
  · rw [h, ite_self]

/-- An edge at the leading edge of a bit within a frame is the one edge of its bit, and moves nothing (assumption log 27). -/
theorem edge_first {l : Link} {k : BitClock} (hframe : inFrame l = true) (hquantum : k.quantum = 0) (hresynced : k.resynced = false)
    (before level : Bool) :
    (if before && !level then takeEdge l k else k) = { k with resynced := before && !level && !k.driving } := by
  obtain ⟨unit, quantum, resynced, driving⟩ := k
  obtain rfl : quantum = 0 := hquantum
  obtain rfl : resynced = false := hresynced
  cases driving
  · rw [takeEdge_late (by rfl) hframe (by rfl) (by exact Nat.zero_le 13)]
    cases before <;> cases level <;> rfl
  · rw [takeEdge_driving (by rfl), ite_self, Bool.not_true, Bool.and_false]

/-! ### One quantum of a frame being received (R134, R140) -/

section Receiving

variable {cfg : Settings} {f : List Bool → State → State} {c : Line → Instr} {s taken : State} {units q : Nat} {l : Link}
  (h : TakesBits cfg f c s taken) (hunits : units = quantumUnits cfg.bitRate) (hq : taken.link.clock.quantum = q)
  (hunit : taken.link.clock.unit = 0) (hview : onLine cfg (f [] taken) = l)
include h hunits hq hunit hview

/-- A quantum whose edge, if there is one, is not taken. -/
theorem TakesBits.quantum_untaken {before level : Bool} (hlate : 1 ≤ q) (hlt : q < 20)
    (hedge : before = false ∨ level = true ∨ takeEdge l taken.link.clock = taken.link.clock) :
    SampledAs c (.wave before (List.replicate units level)) (if q = 13 then [level] else []) ((q + 1) % 20)
      (if q = 19 then false else taken.link.clock.resynced) s := by
  have hclock : clockAtStart { l with clock := taken.link.clock } = taken.link.clock :=
    clockAtStart_within (by show taken.link.clock.quantum ≠ 0; omega)
  have hsampled := (h.quantum hunits hunit hview (k := taken.link.clock) (by rw [hclock]; exact edge_untaken hedge) (by omega)).1
  rwa [hq] at hsampled

/-- A first edge of a bit within a frame, past its leading edge. -/
theorem TakesBits.quantum_resynced (hlate : 1 ≤ q) (hlt : q < 20) (hframe : inFrame l = true) (hdriving : taken.link.clock.driving = false)
    (hresynced : taken.link.clock.resynced = false) :
    SampledAs c (.wave true (List.replicate units false)) []
      (if q ≤ 13 then q - min q 2 + 1 else if q ≤ 17 then (q + 3) % 20 else 1) (decide (q ≤ 16)) s := by
  have hclock : clockAtStart { l with clock := taken.link.clock } = taken.link.clock :=
    clockAtStart_within (by show taken.link.clock.quantum ≠ 0; omega)
  have hsampled : ∀ k : BitClock, takeEdge l taken.link.clock = k → k.quantum < 20 → _ := fun k hk hlt =>
    (h.quantum hunits hunit hview (before := true) (level := false) (k := k) (by rw [hclock]; exact hk) hlt).1
  by_cases hthirteen : q ≤ 13
  · have hedge := hsampled _ (takeEdge_late hdriving hframe hresynced (by omega)) (by show taken.link.clock.quantum - _ < 20; omega)
    simp only [hq] at hedge
    rw [if_neg (by omega), if_neg (by omega), Nat.mod_eq_of_lt (by omega)] at hedge
    rwa [if_pos hthirteen, decide_eq_true (p := q ≤ 16) (by omega)]
  · rw [if_neg hthirteen]
    by_cases hseventeen : q ≤ 17
    · have hedge := hsampled _ (takeEdge_early hdriving hframe hresynced (by omega) (by omega)) (by show taken.link.clock.quantum + 2 < 20; omega)
      simp only [hq] at hedge
      rw [if_neg (by omega)] at hedge
      rw [if_pos hseventeen]
      have hmark : (if q + 2 = 19 then false else true) = decide (q ≤ 16) := by
        split
        · exact (decide_eq_false (by omega)).symm
        · exact (decide_eq_true (by omega)).symm
      rwa [hmark] at hedge
    · have hedge := hsampled _ (takeEdge_last hdriving hframe hresynced (by omega) (by omega)) (by show (0 : Nat) < 20; decide)
      rw [if_neg hseventeen, decide_eq_false (by omega)]
      exact hedge

/-- The leading edge of a bit within a frame. -/
theorem TakesBits.quantum_first (hzero : q = 0) (hframe : inFrame l = true) (before level : Bool) :
    SampledAs c (.wave before (List.replicate units level)) [] 1
      (before && !level && !drivesDominant { l with clock := taken.link.clock }) s ∧
    ∀ t : State, exec (c (.wave before (List.replicate units level))) s = .next t →
      t.link.clock.driving = drivesDominant { l with clock := taken.link.clock } := by
  have hclock := clockAtStart_begins (l := { l with clock := taken.link.clock }) (hq.trans hzero) hunit
  obtain ⟨hsampled, hdriving⟩ := h.quantum hunits hunit hview (before := before) (level := level)
    (k := { unit := 0, quantum := 0, resynced := before && !level && !drivesDominant { l with clock := taken.link.clock }
            driving := drivesDominant { l with clock := taken.link.clock } })
    (by rw [hclock]; exact edge_first hframe (by rfl) (by rfl) before level) (by show (0 : Nat) < 20; decide)
  exact ⟨hsampled, fun t => hdriving t (by show (0 : Nat) < 19; decide)⟩

end Receiving

end Sys2Proof.Machine

/-! PROOFS. The line sampled by its bit timing (R134, R136, R138, R140 to R142). -/

namespace Sys2Proof.Machine

/-! ### One quantum outside a frame, and of the own burst (R134, R141) -/

section Outside

variable {cfg : Settings} {f : List Bool → State → State} {c : Line → Instr} {s taken : State} {units q : Nat} {l : Link}
  (h : TakesBits cfg f c s taken) (hunits : units = quantumUnits cfg.bitRate) (hq : taken.link.clock.quantum = q) (hlt : q < 20)
  (hunit : taken.link.clock.unit = 0) (hview : onLine cfg (f [] taken) = l)
include h hunits hunit hview

/-- Outside a frame an edge aligns the bit timing outright. -/
theorem TakesBits.quantum_aligned (houtside : inFrame l = false)
    (hdriving : (clockAtStart { l with clock := taken.link.clock }).driving = false) :
    SampledAs c (.wave true (List.replicate units false)) [] 1 true s :=
  (h.quantum hunits hunit hview (before := true) (level := false) (takeEdge_outside (l := l) hdriving houtside)
    (by show (0 : Nat) < 20; decide)).1

include hq hlt

/-- A quantum whose edge, if there is one, is not taken, the leading edge of a bit included. -/
theorem TakesBits.quantum_plain {before level : Bool}
    (hedge : before = false ∨ level = true ∨ (clockAtStart { l with clock := taken.link.clock }).driving = true) :
    SampledAs c (.wave before (List.replicate units level)) (if q = 13 then [level] else []) ((q + 1) % 20)
      (if q = 0 ∨ q = 19 then false else taken.link.clock.resynced) s := by
  have hclock := clockAtStart_eq (l := { l with clock := taken.link.clock }) hunit
  have hpassed := (h.quantum hunits hunit hview (before := before) (level := level)
    (edge_untaken (hedge.imp_right (Or.imp_right takeEdge_driving))) (by rw [hclock]; show taken.link.clock.quantum < 20; omega)).1
  rw [hclock] at hpassed
  simp only [hq] at hpassed
  have hmark : (if q = 19 then false else if q = 0 then false else taken.link.clock.resynced) =
      if q = 0 ∨ q = 19 then false else taken.link.clock.resynced := by
    by_cases hzero : q = 0
    · rw [if_pos hzero, ite_self, if_pos (.inl hzero)]
    · simp only [hzero, if_false, false_or]
  rwa [hmark] at hpassed

end Outside

/-! ### Past a kept end (R138, R141, R142) -/

/-- A kept void end, with the bits kept past it, is taken before the bit timing goes on (R142). -/
theorem onLine_of_void {cfg : Settings} {s : State} {rx : Reception} {position : Nat} {rest : List Bool}
    (htracking : s.link.tracking = .inFrame position) (hattempt : s.link.attempt = none) (hrx : s.link.reception = some rx)
    (hvoid : rxFrame rx.bits = .void rest) {u : State} (hend : receptionEnd cfg rx [] s = u)
    (hover : attemptOver u.link = false) (hkept : endKept u.link = false) : onLine cfg s = u.link := by
  have hended : endKept s.link = true := by
    unfold endKept
    rw [htracking, hrx]
    exact decide_eq_true fun k => nomatch hvoid.symm.trans k
  have htaken := (takeKeptEnd_reception (cfg := cfg) hattempt hrx).trans hend
  rw [onLine_of_end (.inr hended) (by rw [htaken]; exact hover) (by rw [htaken]; exact hkept), htaken]

theorem quietBit_line (l : Link) (b : Bool) : (quietBit l b).tracking = l.tracking ∧ (quietBit l b).reception = l.reception := by
  unfold quietBit
  split_ifs <;> exact ⟨rfl, rfl⟩

/-- A bit moves the place on the line as line tracking takes it (R135). -/
theorem sampleBit_line (s : State) (b : Bool) : (sampleBit s b).link.tracking = (trackBit s b).link.tracking ∧
    (sampleBit s b).link.reception = (trackBit s b).link.reception := by
  unfold sampleBit
  split
  · exact ⟨rfl, rfl⟩
  · exact quietBit_line _ b

theorem sampleBits_waiting_tracking (n : Nat) {s : State} {run : Nat} (h : s.link.tracking = .waitingIdle run) (hn : run + n < 10) :
    (sampleBits (List.replicate n true) s).link.tracking = .waitingIdle (run + n) := by
  induction n generalizing s run with
  | zero => exact h
  | succ n ih =>
    have hnext : (sampleBit s true).link.tracking = .waitingIdle (run + 1) := by
      rw [(sampleBit_line s true).1, (trackBit_waiting h).1 (by omega), track_link_tracking]
    rw [List.replicate_succ, sampleBits_cons, ih hnext (by omega), Nat.add_right_comm, Nat.add_assoc]

/-- Ten recessive bits reach IDLE, and a dominant one begins a frame of another station, in every link state (R8, R135). -/
theorem sampleBits_newFrame {s : State} (h : s.link.tracking = .waitingIdle 0) :
    (sampleBits (List.replicate 10 true ++ [false]) s).link.tracking = .inFrame 0 ∧
      (sampleBits (List.replicate 10 true ++ [false]) s).link.reception = some Reception.opened := by
  have hnine := sampleBits_waiting_tracking 9 h (by decide)
  have hidle : (sampleBit (sampleBits (List.replicate 9 true) s) true).link.tracking = .idle 3 := by
    rw [(sampleBit_line _ true).1, (trackBit_waiting hnine).2.1 (by decide), track_link_tracking]
  have hbits : sampleBits (List.replicate 10 true ++ [false]) s =
      sampleBit (sampleBit (sampleBits (List.replicate 9 true) s) true) false := rfl
  obtain ⟨htracking, hreception⟩ := sampleBit_line (sampleBit (sampleBits (List.replicate 9 true) s) true) false
  rw [(trackBit_idle hidle).2] at htracking hreception
  rw [hbits]
  exact ⟨htracking, hreception⟩

theorem onLine_of_void_idle {cfg : Settings} {s : State} {rx : Reception} {position : Nat}
    (htracking : s.link.tracking = .inFrame position) (hattempt : s.link.attempt = none) (hrx : s.link.reception = some rx)
    (hvoid : rxFrame rx.bits = .void []) : inFrame (onLine cfg s) = false := by
  obtain ⟨ack, hend⟩ := receptionEnd_void (cfg := cfg) (s := s) hvoid
  have hsettled := onLine_of_void htracking hattempt hrx hvoid hend (attemptOver_of_none rfl) (endKept_of_none rfl)
  rw [hsettled]
  rfl

theorem onLine_of_void_frame {cfg : Settings} {s : State} {rx : Reception} {position : Nat}
    (htracking : s.link.tracking = .inFrame position) (hattempt : s.link.attempt = none) (hrx : s.link.reception = some rx)
    (hvoid : rxFrame rx.bits = .void (List.replicate 10 true ++ [false])) : inFrame (onLine cfg s) = true := by
  obtain ⟨ack, hend⟩ := receptionEnd_void (cfg := cfg) (s := s) hvoid
  obtain ⟨hframe, hopened⟩ := sampleBits_newFrame (s := leaveFrame ack false s) rfl
  have hnobody : (sampleBits (List.replicate 10 true ++ [false]) (leaveFrame ack false s)).link.attempt = none :=
    congrArg Link.attempt (sampleBits_sampled _ (leaveFrame ack false s)).link
  rw [onLine_of_void htracking hattempt hrx hvoid hend (attemptOver_of_none hnobody) (endKept_of_incomplete hopened rfl), inFrame, hframe]

section BitError

variable {cfg : Settings} {s : State} {a : Attempt} {position : Nat} {rest : List Bool} (htracking : s.link.tracking = .inFrame position)
  (hattempt : s.link.attempt = some a) (herror : txCompare a.sent a.samples = .bitError rest)
include htracking hattempt herror

theorem onLine_of_bitError {u : State} (hend : bitErrorEnd cfg a.samples rest s = u) (hover : attemptOver u.link = false)
    (hkept : endKept u.link = false) : onLine cfg s = u.link := by
  have hended : attemptOver s.link = true := by
    unfold attemptOver
    rw [htracking, hattempt]
    exact decide_eq_true fun k => nomatch herror.symm.trans k
  have htaken : takeKeptEnd cfg s = u := by
    rw [takeKeptEnd_attempt hattempt, ← hend]
    simp only [attemptBits, List.append_nil, herror]
  rw [onLine_of_end (.inl hended) (by rw [htaken]; exact hover) (by rw [htaken]; exact hkept), htaken]

/-- An ACTIVE station drives its burst past a kept bit error (R138, R141). -/
theorem onLine_bursting (hactive : (tecUp s.link).state = .active) (hlength : rest.length < 7) :
    (onLine cfg s).tracking = .rejecting (7 - rest.length) ∧ drivesDominant (onLine cfg s) = true := by
  have hoff := settleFailure_offLine cfg false (leaveFrame false true (s.setLink (tecUp s.link)))
  have hend : bitErrorEnd cfg a.samples rest s = sampleBits rest (settleFailure cfg false (leaveFrame false true (s.setLink (tecUp s.link)))) :=
    if_pos hactive
  rw [sampleBits_rejecting (by rw [hoff.state]; exact fun k => nomatch hactive.symm.trans k) hoff.tracking rest hlength] at hend
  obtain ⟨hover, hkept⟩ := kept_of_outside (l := (State.track (settleFailure cfg false (leaveFrame false true (s.setLink (tecUp s.link))))
    (.rejecting (7 - rest.length))).link) fun p k => nomatch k
  rw [onLine_of_bitError htracking hattempt herror hend hover hkept]
  exact ⟨rfl, rfl⟩

/-- Any other station is in the frame it goes on receiving, without a part in it (R138). -/
theorem onLine_muted (hpassive : (tecUp s.link).state ≠ .active) (hrest : rest = []) (hmore : rxFrame a.samples = .incomplete) :
    (onLine cfg s).tracking = .inFrame a.samples.length ∧ (onLine cfg s).attempt = none ∧
      (onLine cfg s).reception = some { bits := a.samples, mute := true, ack := none } ∧ drivesDominant (onLine cfg s) = false := by
  subst hrest
  have hseen : a.samples.take (a.samples.length - ([] : List Bool).length) = a.samples := List.take_length
  have hend : bitErrorEnd cfg a.samples [] s = settleFailure cfg false (s.setLink { tecUp s.link with
      tracking := .inFrame a.samples.length, reception := some { bits := a.samples, mute := true, ack := none } }) := by
    simp only [bitErrorEnd, hseen]
    exact if_neg hpassive
  have hoff := settleFailure_offLine cfg false (s.setLink { tecUp s.link with
    tracking := .inFrame a.samples.length, reception := some { bits := a.samples, mute := true, ack := none } })
  have hburst : bursting (settleFailure cfg false (s.setLink { tecUp s.link with
      tracking := .inFrame a.samples.length, reception := some { bits := a.samples, mute := true, ack := none } })).link = false := by
    rw [bursting, hoff.tracking]
    rfl
  rw [onLine_of_bitError htracking hattempt herror hend (attemptOver_of_none hoff.attempt) (endKept_of_incomplete hoff.reception hmore)]
  refine ⟨hoff.tracking, hoff.attempt, hoff.reception, ?_⟩
  rw [drivesDominant_receiving hburst hoff.attempt hoff.reception, acknowledges, Bool.not_true, Bool.and_false, Bool.and_false]

end BitError

end Sys2Proof.Machine

/-! PROOFS. The obligation about the bit timing (R134, R136, R138, R140 to R142). -/

namespace Sys2Proof.Machine

theorem tecUp_stays_active {l : Link} (hactive : l.state = .active) (htec : l.tec < 92) (hrecv : l.recv < 96) : (tecUp l).state = .active := by
  rw [tecUp_of_low (by rw [hactive]; rfl) (by omega), hactive]
  show stateFor (l.tec + 4) l.recv .active = .active
  rw [stateFor, if_neg (by omega), ite_self]

theorem tecUp_not_active {l : Link} (hpassive : l.state = .passive) (h : 77 ≤ l.tec ∨ 81 ≤ l.recv) : (tecUp l).state ≠ .active := by
  have hsends : linkSends l.state = true := by rw [hpassive]; rfl
  by_cases htec : l.tec < 188
  · rw [tecUp_of_low hsends htec, hpassive]
    show stateFor (l.tec + 4) l.recv .passive ≠ .active
    rw [stateFor, if_neg (c := l.tec + 4 ≤ 80 ∧ l.recv ≤ 80) (by omega), ite_self]
    exact fun k => nomatch k
  · rw [tecUp_of_high hsends (by omega)]
    exact fun k => nomatch k

/-- What drives the Acknowledge bit of the frame being received, by the station (R140). -/
theorem drives_acknowledge_iff (l : Link) (rx : Reception) : (ackComes rx && acknowledges rx l) = true ↔
    (∃ f : Frame, rxPart rx.bits = .passed f []) ∧ linkSends l.state = true ∧ rx.mute = false := by
  rw [Bool.and_eq_true, ackComes_iff, acknowledges_iff]

/-- Line tracking is WAITING_IDLE or IDLE. -/
theorem outside_of_idle {l : Link} {n : Nat} (h : l.tracking = .waitingIdle n ∨ l.tracking = .idle n) :
    inFrame l = false ∧ bursting l = false ∧ ∀ position : Nat, l.tracking ≠ .inFrame position := by
  unfold inFrame bursting
  obtain h | h := h <;> rw [h] <;> exact ⟨rfl, rfl, fun _ k => nomatch k⟩

end Sys2Proof.Machine

namespace Sys2Proof.Proofs.BitTiming
open Sys2Proof.Machine

/-- Settles O37: a steady bit is sampled once whatever the link does; a single quantum goes by whether its edge is taken, and that by the place on
the line once every kept end has been taken. -/
theorem lineIsSampledByItsBitTiming : Obligations.LineIsSampledByItsBitTiming := by
  unfold Obligations.LineIsSampledByItsBitTiming
  refine ⟨?steady, ?ownStart, ?receiving, ?idle, ?sending, ?burst, ?keptEnd, ?keptError⟩
  case steady =>
    intro cfg s c before bits units hsettled hunits hquantum hunit hc
    obtain ⟨f, taken, hlink, htakes⟩ | huntaken := command_takes hsettled hc
    · exact ⟨false, htakes.steady (hunits.trans (quantumUnits_eq _).symm) (by rw [hlink]; exact hquantum) (by rw [hlink]; exact hunit) _ _⟩
    · have hidle := SampledAs.of_untaken huntaken (.wave before (bits.flatMap fun b => List.replicate (20 * units) b)) bits hunit
      rw [hquantum] at hidle
      exact ⟨_, hidle⟩
  case ownStart =>
    intro cfg s count recessive units before level bits hactive hunits hidle hdue hwaits
    obtain ⟨hclock, hattempt⟩ := takeInHand_started (cfg := cfg)
      (s := s.setLink { s.link with tracking := .idle (count + recessive) }) hwaits
    exact ⟨false, (takesBits_chanceToSend hactive hidle hdue rfl hattempt).afterStart (hunits.trans (quantumUnits_eq _).symm) hclock _ _ _⟩
  case receiving =>
    intro cfg s rx q units before level flow hactive hunits hrx hattempt hmore hq hlt hunit
    have htakes := takesBits_frameReceived hactive hrx flow
    have hview := onLine_receiving (cfg := cfg) (s := s.setFlowPin flow) (rx := rx) hattempt hmore
    replace hunits := hunits.trans (quantumUnits_eq _).symm
    refine ⟨fun hlate hdriving hresynced => ?_, fun hlate hedge => ?_, fun hzero taken htaken => ?_⟩
    · exact htakes.quantum_resynced hunits hq hunit hview hlate hlt rfl hdriving hresynced
    · exact htakes.quantum_untaken hunits hq hunit hview hlate hlt
        (hedge.imp_right (Or.imp_right fun k => k.elim takeEdge_driving (takeEdge_second rfl)))
    · obtain ⟨hfirst, -⟩ := htakes.quantum_first hunits hq hunit hview hzero rfl before level
      have hdrives := drives_acknowledge_iff s.link (takeRxBits s.link [] rx)
      have hbits : (takeRxBits s.link [] rx).bits = rx.bits := List.append_nil rx.bits
      have hmute : (takeRxBits s.link [] rx).mute = rx.mute := rfl
      rw [hbits, hmute] at hdrives
      rw [drivesDominant_receiving (by rfl) (by exact hattempt) (by rfl)] at hfirst
      have hmark : (before && !level && !(ackComes (takeRxBits s.link [] rx) && acknowledges (takeRxBits s.link [] rx) s.link)) = taken := by
        rw [Bool.eq_iff_iff, htaken, Bool.and_eq_true, Bool.and_eq_true, Bool.not_eq_true', Bool.not_eq_true', and_assoc, ← hdrives,
          Bool.not_eq_true]
      rw [← hmark]
      exact hfirst
  case idle =>
    intro cfg s q n units before level hactive hunits htracking hattempt hreception hq hlt hunit hdriving
    obtain ⟨houtside, hburst, hframe⟩ := outside_of_idle htracking
    have htakes := takesBits_lineIdle hactive hframe
    obtain ⟨hover, hkept⟩ := kept_of_outside hframe
    have hview : onLine cfg (sampleBits [] s) = s.link := onLine_of_no_end cfg s hover hkept
    replace hunits := hunits.trans (quantumUnits_eq _).symm
    refine ⟨htakes.quantum_aligned hunits hunit hview houtside ?_, fun hedge => ?_⟩
    · rw [clockAtStart_eq (by exact hunit)]
      show (if s.link.clock.quantum = 0 then drivesDominant s.link else s.link.clock.driving) = false
      rw [drivesDominant_outside hburst hattempt hreception, hdriving, ite_self]
    · exact htakes.quantum_plain hunits hq hlt hunit hview (hedge.imp_right .inl)
  case sending =>
    intro cfg s a b q units hactive hunits hattempt hreception hpending hq hlt hunit
    have htakes := takesBits_attemptEnd hactive hattempt
    have hview := onLine_sending (cfg := cfg) hreception hpending
    replace hunits := hunits.trans (quantumUnits_eq _).symm
    refine ⟨fun hzero hbit => ?_, fun hlate hdriving => ?_⟩
    · have hfirst := htakes.quantum_first hunits hq hunit hview hzero rfl true false
      rw [drivesDominant_sending (by rfl) (by rfl) hbit, Bool.not_not] at hfirst
      exact hfirst
    · exact htakes.quantum_untaken hunits hq hunit hview hlate hlt (.inr (.inr (takeEdge_driving hdriving)))
  case burst =>
    intro cfg s left q units before level hactive hunits htracking hstate hq hlt hunit hdrives
    have hframe : ∀ position : Nat, s.link.tracking ≠ .inFrame position := fun position k => nomatch htracking.symm.trans k
    obtain ⟨hover, hkept⟩ := kept_of_outside hframe
    have hview : onLine cfg (sampleBits [] s) = s.link := onLine_of_no_end cfg s hover hkept
    refine (takesBits_lineIdle hactive hframe).quantum_plain (hunits.trans (quantumUnits_eq _).symm) hq hlt hunit hview (.inr (.inr ?_))
    have hbursting : drivesDominant s.link = true := by
      rw [drivesDominant, bursting, htracking]
      rfl
    rw [clockAtStart_eq (by exact hunit)]
    show (if s.link.clock.quantum = 0 then drivesDominant s.link else s.link.clock.driving) = true
    obtain hzero | hdriving := hdrives
    · rw [if_pos (hq.trans hzero), hbursting]
    · rw [hbursting, hdriving, ite_self]
  case keptEnd =>
    intro cfg s rx position q units hactive hunits hstate htracking hattempt hrx hq hlate hthirteen hunit hdriving hresynced
    have htakes := takesBits_quietInterval hactive hstate
    replace hunits := hunits.trans (quantumUnits_eq _).symm
    refine ⟨fun hvoid => ?_, fun hvoid => ?_⟩
    · refine htakes.quantum_aligned hunits hunit (l := onLine cfg s) rfl (onLine_of_void_idle htracking hattempt hrx hvoid) ?_
      rw [clockAtStart_within (by show s.link.clock.quantum ≠ 0; omega)]
      exact hdriving
    · have hedge := htakes.quantum_resynced hunits hq hunit (l := onLine cfg s) rfl hlate (by omega)
        (onLine_of_void_frame htracking hattempt hrx hvoid) hdriving hresynced
      rwa [if_pos hthirteen, decide_eq_true (p := q ≤ 16) (by omega)] at hedge
  case keptError =>
    intro cfg s a position rest htracking hattempt _ herror
    refine ⟨fun hactive htec hrecv hlength => ?_, fun hpassive hcounts hrest hmore => ?_⟩
    · exact onLine_bursting htracking hattempt herror (tecUp_stays_active hactive htec hrecv) hlength
    · exact onLine_muted htracking hattempt herror (tecUp_not_active hpassive hcounts) hrest hmore

end Sys2Proof.Proofs.BitTiming
